-- ==== Sys2Proof/Word.lean ====
section
/-! DEFINITION. The word types: the bytes of frames and records (chapter 11) and the wider fields they carry. -/
namespace Sys2Proof

/-- One byte of a frame, record or image (chapter 11). -/
abbrev Byte := BitVec 8

/-- A two-byte field, most significant byte first on the line (section 4.3 of 00_scope). -/
abbrev Half := BitVec 16

/-- A four-byte field: a coach id or a request sequence. -/
abbrev Quad := BitVec 32

end Sys2Proof
end

