-- ==== Sys2Proof/Config.lean ====
section
/-! DEFINITION. The fixed sizes the spec gives the part, and the one value the spec leaves open. -/
namespace Sys2Proof.Config

/-- R46, R47: a forward queue holds at most 6 frames. -/
def forwardQueueMax : Nat := 6
/-- R44, R165: the management input queue holds at most 4 frames. -/
def mgmtQueueMax : Nat := 4
/-- R33: an outbound queue holds at most 4 office frames. -/
def outboundQueueMax : Nat := 4
/-- R33, Table 11-2: the bay line carries at most 48 payload bytes. -/
def bayPayloadMax : Nat := 48
/-- R42, Table 11-1: a trunk frame carries at most 120 payload bytes. -/
def trunkPayloadMax : Nat := 120
/-- R55: a 16-bit counter stops at 65,535. -/
def counterMax : Nat := 65535
/-- R16: the Parked Coach Cache holds at most 4 slots. -/
def cacheMax : Nat := 4
/-- R140: the record cell pool holds 256 cells. -/
def poolCells : Nat := 256
/-- R140: a bay's fault list holds at most 64 cells. -/
def bayCellQuota : Nat := 64
/-- R152: the departure list holds at most 32 entries. -/
def departureMax : Nat := 32
/-- R97: the week has 10,080 minutes. -/
def weekMinutes : Nat := 10080
/-- R115: the greatest feeder limit, in pu. -/
def feederMax : Nat := 4000
/-- R103: the greatest lead, in minutes. -/
def leadMax : Nat := 240
/-- R65: a cabin temperature is STALE from this age on. -/
def staleAge : Nat := 10
/-- R65: the greatest cabin age. -/
def cabinAgeMax : Nat := 255
/-- R131: the coach fault image has at most 1,024 bytes. -/
def imageMax : Nat := 1024
/-- R134: a CRD asks for at most 32 bytes. -/
def chunkMax : Nat := 32

/-- FREE VALUE (log entry 4). The stop index a LOAD answers when it ends in a record too short to hold its start index
(section 11.4 asks for a stop index, and no rule states it). Nothing is known of it; it may depend on the bytes left. -/
opaque truncatedStopIndex : List Byte → Half

end Sys2Proof.Config
end

