-- ==== Sys2Proof/Syntax.lean ====
section
/-! DEFINITION. The commands: one constructor per row of spec/opcode_table.json, with the row's operands. -/
namespace Sys2Proof

/-- A bay of the row, counted from 0: bay number `b.val + 1` of section 4.2 (1 to 16). -/
abbrev Bay := Fin 16

/-- A trunk port: TU faces the office, TD faces the next row (section 2 of 00_scope). -/
inductive Port where
  | tu
  | td
  deriving DecidableEq, Repr

/-- The commands of the block. A management operation carries its tag and the parameter fields of Table 11-5, each as wide
as the frame gives it, so that a value out of range can be sent and answered. A frame is given by the bytes received. -/
inductive Instr where
  /-- POWER_ON_RESET (R21, R174): the supply rises; the straps read as given. -/
  | powerOnReset (row : Fin 64) (endOfTrunk : Bool) (memSize : Fin 4)
  /-- PIN_RESET (R21, R174): RESET_N is asserted; the straps read as given. -/
  | pinReset (row : Fin 64) (endOfTrunk : Bool) (memSize : Fin 4)
  /-- LOADER_BYTE_READ (R174): the configuration memory delivers the byte at the loader's address. -/
  | loaderByteRead (value : Byte)
  /-- TRUNK_FRAME_RECEIVED (R42): a frame received to its end at a port, header to frame check. -/
  | trunkFrameReceived (port : Port) (bytes : List Byte)
  /-- TU_TRANSMIT_END (R50). -/
  | tuTransmitEnd
  /-- TD_TRANSMIT_END (R48). -/
  | tdTransmitEnd
  /-- EXCHANGE_REPLY (R26, R30): the post's reply, BAY field to frame check. -/
  | exchangeReply (bytes : List Byte)
  /-- BAD_REPLY (R26): a reply judged bad, or one that broke off. -/
  | badReply
  /-- REPLY_TIMEOUT (R26, R32). -/
  | replyTimeout
  /-- POLL_SLOT_IDLE_END (R24). -/
  | pollSlotIdleEnd
  /-- LINK_SILENT (R35). -/
  | linkSilent (bay : Bay)
  /-- IDENT_FAILED (R4). -/
  | identFailed (bay : Bay)
  /-- STEP_VISIT_LIMIT (R84). -/
  | stepVisitLimit (bay : Bay)
  /-- COACH_BUSY (R136). -/
  | coachBusy (bay : Bay)
  /-- COACH_SILENT (R136). -/
  | coachSilent (bay : Bay)
  /-- SECOND_TICK (R96). -/
  | secondTick
  /-- MINUTE_EVENT (R96). -/
  | minuteEvent
  /-- CABIN_STALE_ONSET (R65). -/
  | cabinStaleOnset (bay : Bay)
  /-- TIME_STALE (R99). -/
  | timeStale
  /-- PARKED_SLOT_EXPIRY (R17). -/
  | parkedSlotExpiry
  /-- CLEAR_TIMEOUT (R145). -/
  | clearTimeout (bay : Bay)
  /-- MGMT_FORMAT_ERROR (R165): the whole payload of the MGMT frame. -/
  | mgmtFormatError (payload : List Byte)
  /-- LOAD (R166): the burst records. -/
  | load (tag : Byte) (records : List Byte)
  /-- READ (R167): the target code and its selectors. -/
  | read (tag target : Byte) (selectors : List Byte)
  /-- IDENT (R9). -/
  | ident (tag bay : Byte)
  /-- LAMP CHECK (R75): the window and the order byte. -/
  | lampCheck (tag bay groupFirst groupLast positionFirst positionLast order : Byte)
  /-- LAMP STOP (R78). -/
  | lampStop (tag bay : Byte)
  /-- FAULT READ (R133). -/
  | faultRead (tag bay : Byte)
  /-- FAULT CLEAR (R144). -/
  | faultClear (tag bay : Byte)
  /-- FAULT FLUSH (R146). -/
  | faultFlush (tag bay : Byte)
  /-- LATCH SHUNT (R162). -/
  | latchShunt (tag bay : Byte)
  /-- LATCH LOCK (R162). -/
  | latchLock (tag bay : Byte)
  /-- BAY ENABLE (R15). -/
  | bayEnable (tag bay : Byte)
  /-- BAY DISABLE (R14). -/
  | bayDisable (tag bay : Byte)
  /-- DEP ADD (R154): coach 0 and target -128 mean none. -/
  | depAdd (tag : Byte) (id minute : Half) (bay : Byte) (coach : Quad) (target gates : Byte)
  /-- DEP CHANGE (R155): `names` says which of the values count. -/
  | depChange (tag : Byte) (id : Half) (names : Byte) (minute : Half) (bay target gates : Byte)
  /-- DEP CANCEL (R163). -/
  | depCancel (tag : Byte) (id : Half)
  /-- RELEASE NOW (R163). -/
  | releaseNow (tag : Byte) (id : Half)
  /-- FEEDER SET (R116). -/
  | feederSet (tag : Byte) (limit : Half)
  /-- ROW RESET (R169). -/
  | rowReset (tag : Byte)
  /-- RELOAD (R170). -/
  | reload (tag : Byte)
  /-- NOACK (R174): the configuration memory does not acknowledge. -/
  | noack
  /-- RECEPTION_BREAKS_OFF (R42): a reception on the port breaks off before its end. -/
  | receptionBreaksOff (port : Port)
  deriving DecidableEq, Repr

end Sys2Proof
end

