-- ==== Sys2Proof/Decode.lean ====
section
/-! DEFINITION. The command a word of the opcode table spells. -/
namespace Sys2Proof

/-- The rows of spec/opcode_table.json give no bits (98_reader.md counts 0 rows with fixed bits or fields), so no word spells
a command. The commands that have a byte form of their own, the management operations, are parsed from their payload by
`Sys2Proof.Machine.parseOperation`. DEDUCED (log entry 33). -/
def decodeTableWord (_nbits _w : Nat) : Option Instr := none

end Sys2Proof
end

