-- ==== Sys2Proof/Machine/State.lean ====
section
/-! DEFINITION. The state of the DZB16 as plain data, block by block, and its value right after power-on reset. -/
namespace Sys2Proof.Machine

/-- A table of `n` entries given by its index; built from a list so that the kernel can evaluate it. -/
def tabulate (n : Nat) (f : Nat → α) : Vector α n := ⟨((List.range n).map f).toArray, by simp⟩

/-! ## Names -/

/-- Occupancy of a bay (Table 1-1). -/
inductive Occupancy where
  | unknown | vacant | plugged | occupied | disabled
  deriving DecidableEq, Repr

/-- Why the plug latch may be released (R13). -/
inductive Purpose where
  | none | depart | shunt
  deriving DecidableEq, Repr

/-- Link state (Table 2-4). -/
inductive Link where
  | unheard | online | silent
  deriving DecidableEq, Repr

/-- What the alternation memory of R28 names. -/
inductive Turn where
  | job | office
  deriving DecidableEq, Repr

/-- The owners of job frames (Table 2-3). -/
inductive Owner where
  | lsw | frd | btb
  deriving DecidableEq, Repr

/-- The owner of the last LSW or FRD frame that left the job slot (Table 2-3). -/
inductive Holder where
  | lsw | frd
  deriving DecidableEq, Repr

/-- A lamp result (Table 5-2). -/
inductive LampResult where
  | notTested | ok | dim | openCircuit | overLimit | noMeasure
  deriving DecidableEq, Repr

/-- A sweep state (Table 5-4). -/
inductive SweepState where
  | idle | waitPower | running | complete | aborted
  deriving DecidableEq, Repr

/-- A read status (Table 8-2). -/
inductive ReadStatus where
  | none | reading | complete | aborted | clearing
  deriving DecidableEq, Repr

/-- An abort cause (Table 8-1), or none. -/
inductive AbortCause where
  | none | badImage | overflow | coachBusy | coachSilent | postSilent | clearTimeout | plugOut
  deriving DecidableEq, Repr

/-- The action of a filter entry, and the default action (Table 8-3). -/
inductive FaultAction where
  | block | advise | ignore
  deriving DecidableEq, Repr

/-- A heat state (Table 6-4). -/
inductive HeatState where
  | none | planned | waitFeed | heating | maintain | paused
  deriving DecidableEq, Repr

/-- The state a pause returns to (Table 6-3). -/
inductive Resume where
  | heating | maintain
  deriving DecidableEq, Repr

/-- The kinds of a share (Table 7-1). -/
inductive ShareKind where
  | base | lamp | heat
  deriving DecidableEq, Repr

/-- The states of a share (Table 7-1). -/
inductive ShareState where
  | none | held | queued | admitted
  deriving DecidableEq, Repr

/-- The states of a departure entry (Table 9-2). -/
inductive EntryState where
  | waiting | preparing | cleared | released
  deriving DecidableEq, Repr

/-- The gates an entry may require (Table 9-1). -/
inductive Gate where
  | lamp | fault | heat
  deriving DecidableEq, Repr

/-- How the last entry that ended at a bay ended (R153). -/
inductive LastOutcome where
  | none
  | departed (id : Nat)
  | uncleared (id : Nat)
  | expired (id : Nat)
  deriving DecidableEq, Repr

/-- A requester of the TU arbiter (R50). -/
inductive Requester where
  | forward | localLane
  deriving DecidableEq, Repr

/-- A management response status (Table 10-1). -/
inductive Status where
  | done | format | noTable | range | state | taken | duplicate | full | disabled | notFound | loading
  deriving DecidableEq, Repr

/-- How a loader run ended (R174). -/
inductive LoaderResult where
  | ok | noImage | noack | overflow | badRecord
  deriving DecidableEq, Repr

/-- The loadable tables (Table 10-2). -/
inductive TableId where
  | route | poll | profile | lamp | filter | rowparam
  deriving DecidableEq, Repr

/-- A report reason (Table 10-5), bay reasons first, in the order of their mask bits (section 11.6). -/
inductive Reason where
  | plug | ident | lampDone | faultDone | heat | shed | late | cleared | released | revoked | departed | uncleared
  | expired | breakaway | silent | online | downRefused
  | start | overcommit | timeStale | starved | loaded
  deriving DecidableEq, Repr

/-- A number of the report ring: 0 for the row, 1 to 16 for the bays (section 4.2). -/
inductive ReportNumber where
  | row
  | bay (b : Bay)
  deriving DecidableEq, Repr

/-- A set of report reasons, or the report mask: one bit per reason (section 11.6). -/
abbrev Reasons := BitVec 22

/-! ## Frames -/

/-- A trunk frame without its frame check, which is computed afresh over these fields when it is sent (Table 11-1, R175). -/
structure TrunkFrame where
  dr : Nat
  db : Nat
  sr : Nat
  sb : Nat
  kind : Byte
  hop : Nat
  payload : List Byte
  deriving DecidableEq, Repr

/-- An office frame on its way to a post: kind and payload (R52). -/
structure OfficeFrame where
  kind : Byte
  payload : List Byte
  deriving DecidableEq, Repr

/-- A frame of the job slot (section 2.5). -/
inductive JobFrame where
  /-- IDENT, owner BTB. -/
  | ident
  /-- LDRV, owner LSW: circuit, range HIGH, resolution 12, dwell LONG, step tag. -/
  | ldrv (circuit : Nat) (high res12 long : Bool) (tag : Nat)
  /-- CRD, owner FRD: offset and count. -/
  | crd (offset count : Nat)
  /-- CCLR, owner FRD. -/
  | cclr
  /-- CQRY, owner FRD. -/
  | cqry
  deriving DecidableEq, Repr

/-- The job slot's frame with its sent mark (Table 2-3). -/
structure JobInSlot where
  frame : JobFrame
  sent : Bool
  deriving DecidableEq, Repr

/-- The three settings of a post: heater ON, latch RELEASE, contactor CLOSED (section 2.7). -/
structure Actuators where
  heater : Bool
  latch : Bool
  contactor : Bool
  deriving DecidableEq, Repr

/-- The indications of a PSTAT byte (Table 11-3). -/
structure Pstat where
  plugIn : Bool
  latchReleased : Bool
  heaterOn : Bool
  contactorClosed : Bool
  alert : Bool
  samplePending : Bool
  deriving DecidableEq, Repr

/-- The frame an exchange carries (R27). -/
inductive SentFrame where
  | actuate (settings : Actuators)
  | job (f : JobFrame)
  | office (f : OfficeFrame)
  | samplePoll
  | poll
  deriving DecidableEq, Repr

/-- Whether the end of the slot in progress still counts: R38 (its bay was disabled), R40 (ROW RESET). -/
inductive SlotFate where
  | counts | bayDisabled | rowReset
  deriving DecidableEq, Repr

/-- What the slot in progress holds (R24). -/
inductive SlotContent where
  | idle
  | exchange (bay : Bay) (sent : SentFrame)
  deriving DecidableEq, Repr

/-- The poll slot in progress, with the reply timeout in force when it began (R26). -/
structure Slot where
  content : SlotContent
  timeout : Nat
  fate : SlotFate
  deriving DecidableEq, Repr

/-- The outcome of the most recent exchange with a bay (R29). -/
inductive Recent where
  | none
  | miss
  | reply (samplePending wasSamplePoll : Bool)
  deriving DecidableEq, Repr

/-- A management response (section 11.4). -/
structure Mrsp where
  tag : Byte
  op : Byte
  status : Status
  data : List Byte
  deriving DecidableEq, Repr

/-- A transmission in flight on TU; `isMrsp` tells the one that empties the MRSP slot at its end (R49). -/
structure TuTransmission where
  frame : TrunkFrame
  isMrsp : Bool
  deriving DecidableEq, Repr

/-! ## What the live state reads: straps, tables, row parameters, clock -/

/-- The strap pins as sampled (section 7 of 00_scope, R174). -/
structure Straps where
  row : Fin 64
  endOfTrunk : Bool
  memSize : Fin 4
  deriving DecidableEq, Repr

/-- A route table entry (Table 3-2). -/
structure RouteEntry where
  downPass : Bool
  upPass : Bool
  maskUnknown : Bool
  maskVacant : Bool
  maskPlugged : Bool
  maskOccupied : Bool
  deriving DecidableEq, Repr

/-- A poll schedule entry (Table 2-1); no target is SKIP. -/
structure PollEntry where
  target : Option Bay
  last : Bool
  deriving DecidableEq, Repr

/-- A profile header (Table 11-6). -/
structure ProfileHeader where
  valid : Bool
  sharedSupply : Bool
  baseLoad : Nat
  lampLoad : Nat
  groups : Nat
  positions : Nat
  heaterPower : Nat
  heatCapacity : Nat
  lossFactor : Nat
  margin : Nat
  deriving DecidableEq, Repr

/-- A profile lamp table entry (Table 5-1). -/
structure LampEntry where
  present : Bool
  critical : Bool
  high : Bool
  res12 : Bool
  long : Bool
  circuit : Nat
  minimum : Nat
  maximum : Nat
  deriving DecidableEq, Repr

/-- A fault filter entry (Table 8-3). -/
structure FilterEntry where
  inUse : Bool
  source : Nat
  codeLow : Nat
  codeHigh : Nat
  action : FaultAction
  storedBlocks : Bool
  deriving DecidableEq, Repr

/-- The loadable tables except the row parameters (Table 10-2). -/
structure Tables where
  route : Vector RouteEntry 224
  poll : Vector PollEntry 32
  profiles : Vector ProfileHeader 8
  lamps : Vector LampEntry 768
  filter : Vector FilterEntry 64
  deriving DecidableEq, Repr

/-- The row parameters (Table 10-3). -/
structure Params where
  replyTimeout : Nat
  missLimit : Nat
  cabinOffset : Int
  cabinSpan : Nat
  fullScaleLow : Nat
  fullScaleHigh : Nat
  holdTime : Nat
  tolerance : Nat
  clearWindow : Nat
  releaseLead : Nat
  feederLimit : Nat
  defaultAction : FaultAction
  autoLamp : Bool
  autoRead : Bool
  reportMask : Reasons
  deriving DecidableEq, Repr

/-- The depot clock (Table 6-1). -/
structure Clock where
  minute : Nat
  second : Nat
  outside : Int
  minutesNoTime : Nat
  timeStale : Bool
  deriving DecidableEq, Repr

/-- What the service blocks read and do not write: straps, tables, row parameters and clock. -/
structure Env where
  straps : Straps
  tables : Tables
  params : Params
  clock : Clock
  deriving DecidableEq, Repr

/-! ## The bay record -/

/-- BTB's occupancy part (Table 1-1); the report reason set stands in `Reports`. -/
structure BtbPart where
  occupancy : Occupancy
  coach : Nat
  profile : Fin 8
  attempts : Nat
  identFailed : Bool
  dupCoach : Bool
  profileMissing : Bool
  purpose : Purpose
  lastRefused : Byte
  deriving DecidableEq, Repr

/-- BLM's part (chapter 2). `sampleOwed`: the reply to a sample POLL just before the most recent exchange had sample-pending set, which
governs the next exchange (R29). -/
structure BlmPart where
  queue : List OfficeFrame
  headSent : Bool
  job : Option JobInSlot
  claimLsw : Option JobFrame
  claimFrd : Option JobFrame
  lastHolder : Holder
  desired : Actuators
  dirty : Bool
  link : Link
  missCount : Nat
  turn : Turn
  recent : Recent
  sampleOwed : Bool
  plugIn : Bool
  actual : Actuators
  deriving DecidableEq, Repr

/-- SCV's part (chapter 4); no held value is NONE. -/
structure ScvPart where
  held : Option Int
  age : Nat
  driveHigh : Bool
  deriving DecidableEq, Repr

/-- The window of a sweep (Table 5-3). -/
structure SweepWindow where
  groupFirst : Nat
  groupLast : Nat
  positionFirst : Nat
  positionLast : Nat
  deriving DecidableEq, Repr

/-- The order of a sweep (Table 5-3). -/
structure SweepOrder where
  positionMajor : Bool
  reverseGroup : Bool
  reversePosition : Bool
  deriving DecidableEq, Repr

/-- The five counts of a sweep (Table 5-3). -/
structure SweepCounts where
  ok : Nat
  dim : Nat
  openCircuit : Nat
  overLimit : Nat
  noMeasure : Nat
  deriving DecidableEq, Repr

/-- LSW's part: the lamp result map and the sweep context (Table 5-3). `driveSent` says that the LDRV of the present drive
has been transmitted, from where R84 counts: DEDUCED (log entry 29). -/
structure LswPart where
  map : Vector LampResult 96
  sweep : SweepState
  window : SweepWindow
  order : SweepOrder
  pointer : Option (Nat × Nat)
  stepTag : Nat
  tries : Nat
  visits : Nat
  tagCounter : Nat
  counts : SweepCounts
  pauseMarker : Bool
  gate : Bool
  driveSent : Bool
  deriving DecidableEq, Repr

/-- A stored fault record (Table 8-4). -/
structure FaultRecord where
  source : Nat
  code : Nat
  occurrences : Nat
  active : Bool
  block : Bool
  freeze : List Byte
  deriving DecidableEq, Repr

/-- FRD's part: the read context (Table 8-1). Held cells are computed from the list. `carried` says that the exchange in
flight with the bay carries the current frame (R136, R144): DEDUCED (log entry 29). -/
structure FrdPart where
  status : ReadStatus
  cause : AbortCause
  imageRecords : Nat
  parsed : Nat
  readPoint : Nat
  imageEnd : Option Nat
  partialBytes : List Byte
  current : Option JobFrame
  attempts : Nat
  busy : Nat
  clearTimer : Nat
  list : List FaultRecord
  blocking : Nat
  lost : Nat
  alertSeen : Bool
  gate : Bool
  carried : Bool
  deriving DecidableEq, Repr

/-- PHP's part: the heat context (Table 6-3). -/
structure PhpPart where
  state : HeatState
  target : Int
  lead : Nat
  unreachable : Bool
  capped : Bool
  staleCabin : Bool
  late : Bool
  gate : Bool
  pauseRequested : Bool
  resume : Resume
  heaterReported : Bool
  deriving DecidableEq, Repr

/-- One share of a bay, with the sequence of its request (Tables 7-1 and 7-2). -/
structure Share where
  state : ShareState
  amount : Nat
  sequence : Quad
  deriving DecidableEq, Repr

/-- FAL's part: the bay's row of the allocation table (Table 7-1). -/
structure FalPart where
  key : Option Nat
  base : Share
  lamp : Share
  heat : Share
  contactorReported : Bool
  deriving DecidableEq, Repr

/-- DPC's part (R153). -/
structure DpcPart where
  lampGate : Bool
  faultGate : Bool
  heatGate : Bool
  latchReported : Bool
  lastOutcome : LastOutcome
  deriving DecidableEq, Repr

/-- The record of one bay, in the parts of its owners (chapter 1). -/
structure BayRec where
  btb : BtbPart
  blm : BlmPart
  scv : ScvPart
  lsw : LswPart
  frd : FrdPart
  php : PhpPart
  fal : FalPart
  dpc : DpcPart
  deriving DecidableEq, Repr

/-! ## The row's live state -/

/-- The counters of one port (R55). -/
structure PortCounts where
  badFrame : Nat
  hopExpired : Nat
  overflow : Nat
  deriving DecidableEq, Repr

/-- TSW's live state (chapter 3). -/
structure TswState where
  tuQueue : List TrunkFrame
  tdQueue : List TrunkFrame
  tuSending : Option TuTransmission
  tdSending : Option TrunkFrame
  lastGrant : Requester
  tuCounts : PortCounts
  tdCounts : PortCounts
  deriving DecidableEq, Repr

/-- Where the loader stands in the image (R174, section 11.5). -/
inductive LoaderPhase where
  | marker
  | lengthHigh
  | lengthLow (high : Byte)
  | recordTable
  | recordStartHigh (table : TableId)
  | recordStartLow (table : TableId) (high : Byte)
  | recordCount (table : TableId) (start : Nat)
  | entry (table : TableId) (index remaining : Nat) (bytes : List Byte)
  deriving DecidableEq, Repr

/-- The configuration loader (R174). -/
structure Loader where
  running : Bool
  address : Nat
  length : Nat
  phase : LoaderPhase
  written : Nat
  result : LoaderResult
  resultWritten : Nat
  deriving DecidableEq, Repr

/-- MGU's live state but for the report ring and reason sets (chapter 10). -/
structure MguState where
  queue : List (List Byte)
  mrsp : Option Mrsp
  loader : Loader
  deriving DecidableEq, Repr

/-- The report ring and the reason sets of the row and of the bays (R171). -/
structure Reports where
  row : Reasons
  bays : Vector Reasons 16
  ring : List ReportNumber
  deriving DecidableEq, Repr

/-- BLM's state for the row: the walk (R24, R25). -/
structure Walk where
  pointer : Fin 32
  restart : Bool
  slot : Option Slot
  deriving DecidableEq, Repr

/-- A Parked Coach Cache slot (Table 1-3). -/
structure ParkedSlot where
  coach : Nat
  profile : Fin 8
  map : Vector LampResult 96
  list : List FaultRecord
  lost : Nat
  status : ReadStatus
  cause : AbortCause
  blocking : Nat
  parkedMinute : Nat
  deriving DecidableEq, Repr

/-- The record cell pool (R140). -/
structure Pool where
  free : Nat
  starved : Nat
  deriving DecidableEq, Repr

/-- FAL's state for the row: the admission queue, by bay and kind, the sequence counter and OVERCOMMIT (chapter 7). -/
structure FalState where
  queue : List (Bay × ShareKind)
  sequence : Quad
  overcommit : Bool
  deriving DecidableEq, Repr

/-- The set of gates an entry requires (Table 9-1). -/
structure GateMask where
  lamp : Bool
  fault : Bool
  heat : Bool
  deriving DecidableEq, Repr

/-- A departure entry (Table 9-1); no bay is 0 (unbound). -/
structure DepEntry where
  id : Nat
  minute : Nat
  bay : Option Bay
  coach : Option Nat
  target : Option Int
  gates : GateMask
  state : EntryState
  clamped : Bool
  mismatch : Bool
  late : Bool
  held : Bool
  deriving DecidableEq, Repr

/-- The live state of the row: what the service blocks write. -/
structure Live where
  tsw : TswState
  mgu : MguState
  reports : Reports
  walk : Walk
  cache : List ParkedSlot
  pool : Pool
  sampleRejects : Nat
  fal : FalState
  departures : List DepEntry
  bays : Vector BayRec 16
  deriving DecidableEq, Repr

/-- The part: what the blocks read, and what they write. -/
structure Dev where
  env : Env
  live : Live
  deriving DecidableEq, Repr

/-- The state of the model: the part, and the commands that wait for it, first in first out. -/
structure State where
  dev : Dev
  pending : List Instr
  deriving DecidableEq, Repr

/-- No meaning of this model ends in a fault: the spec gives every command an effect, an answer or none at all. The one
reason is there because the type must have one; nothing raises it (safe). -/
inductive Fault where
  /-- Raised by nothing. -/
  | noFaultArises
  deriving DecidableEq, Repr

/-- Why a command is refused by the model. -/
inductive Refusal where
  /-- Raised by an arm of `exec` whose command has no meaning yet; safe. No arm does. -/
  | notModelled (mnemonic : String)
  deriving DecidableEq, Repr

/-! ## Values after reset -/

/-- R57. -/
def PortCounts.reset : PortCounts := { badFrame := 0, hopExpired := 0, overflow := 0 }

/-- R57. -/
def TswState.reset : TswState :=
  { tuQueue := [], tdQueue := [], tuSending := none, tdSending := none, lastGrant := .localLane,
    tuCounts := .reset, tdCounts := .reset }

/-- R174: no run in progress; the loader result reads NO_IMAGE with 0 entries. -/
def Loader.reset : Loader :=
  { running := false, address := 0, length := 0, phase := .marker, written := 0, result := .noImage, resultWritten := 0 }

/-- R174: the loader starts; the result of the last run stands until this run ends. -/
def Loader.start (m : Loader) : Loader :=
  { m with running := true, address := 0, length := 0, phase := .marker, written := 0 }

/-- R165, R174. -/
def MguState.reset : MguState := { queue := [], mrsp := none, loader := .reset }

/-- R171. -/
def Reports.reset : Reports := { row := 0, bays := tabulate 16 fun _ => 0, ring := [] }

/-- R39. -/
def Walk.reset : Walk := { pointer := 0, restart := false, slot := none }

/-- R151. -/
def Pool.reset : Pool := { free := Config.poolCells, starved := 0 }

/-- R129. -/
def FalState.reset : FalState := { queue := [], sequence := 0, overcommit := false }

/-- R21. -/
def BtbPart.reset : BtbPart :=
  { occupancy := .unknown, coach := 0, profile := 0, attempts := 0, identFailed := false, dupCoach := false,
    profileMissing := false, purpose := .none, lastRefused := 0 }

/-- Heater OFF, latch LOCK, contactor OPEN. -/
def Actuators.off : Actuators := { heater := false, latch := false, contactor := false }

/-- R39. -/
def BlmPart.reset : BlmPart :=
  { queue := [], headSent := false, job := none, claimLsw := none, claimFrd := none, lastHolder := .frd,
    desired := .off, dirty := true, link := .unheard, missCount := 0, turn := .office, recent := .none,
    sampleOwed := false, plugIn := false, actual := .off }

/-- R66, R67. -/
def ScvPart.reset : ScvPart := { held := none, age := Config.cabinAgeMax, driveHigh := false }

/-- All 96 results NOT_TESTED (R73). -/
def untestedMap : Vector LampResult 96 := tabulate 96 fun _ => .notTested

/-- R95: groups 1 to 8 and positions 1 to 12. -/
def SweepWindow.whole : SweepWindow := { groupFirst := 1, groupLast := 8, positionFirst := 1, positionLast := 12 }

/-- R95: GROUP_MAJOR, both reverse flags clear. -/
def SweepOrder.plain : SweepOrder := { positionMajor := false, reverseGroup := false, reversePosition := false }

/-- R76: the five counts at 0. -/
def SweepCounts.zero : SweepCounts := { ok := 0, dim := 0, openCircuit := 0, overLimit := 0, noMeasure := 0 }

/-- R95; the step tag has no stated value: DESIGN CHOICE 0 (log entry 3). -/
def LswPart.reset : LswPart :=
  { map := untestedMap, sweep := .idle, window := .whole, order := .plain, pointer := none, stepTag := 0, tries := 0,
    visits := 0, tagCounter := 0, counts := .zero, pauseMarker := false, gate := false, driveSent := false }

/-- R151. -/
def FrdPart.reset : FrdPart :=
  { status := .none, cause := .none, imageRecords := 0, parsed := 0, readPoint := 0, imageEnd := none, partialBytes := [],
    current := none, attempts := 0, busy := 0, clearTimer := 0, list := [], blocking := 0, lost := 0, alertSeen := false,
    gate := false, carried := false }

/-- R114. -/
def PhpPart.reset : PhpPart :=
  { state := .none, target := 20, lead := 0, unreachable := false, capped := false, staleCabin := false, late := false,
    gate := false, pauseRequested := false, resume := .heating, heaterReported := false }

/-- A share in NONE has no amount (Table 7-1); that its amount bytes show 0 is a DESIGN CHOICE (log entry 44). -/
def Share.none : Share := { state := .none, amount := 0, sequence := 0 }

/-- R129. -/
def FalPart.reset : FalPart :=
  { key := none, base := .none, lamp := .none, heat := .none, contactorReported := false }

/-- R153. -/
def DpcPart.reset : DpcPart :=
  { lampGate := false, faultGate := false, heatGate := false, latchReported := false, lastOutcome := .none }

/-- The bay record after the resets (R21, R39, R66, R95, R114, R129, R151, R153). -/
def BayRec.reset : BayRec :=
  { btb := .reset, blm := .reset, scv := .reset, lsw := .reset, frd := .reset, php := .reset, fal := .reset, dpc := .reset }

/-- Every bay as after the resets. -/
def resetBays : Vector BayRec 16 := tabulate 16 fun _ => BayRec.reset

/-- The live state after power-on reset and pin reset, before the loader starts. -/
def Live.reset : Live :=
  { tsw := .reset, mgu := .reset, reports := .reset, walk := .reset, cache := [], pool := .reset, sampleRejects := 0,
    fal := .reset, departures := [], bays := resetBays }

/-- R51. -/
def RouteEntry.reset : RouteEntry :=
  { downPass := true, upPass := true, maskUnknown := true, maskVacant := true, maskPlugged := true, maskOccupied := true }

/-- R23: entries 0 to 15 name bays 1 to 16, entry 15 has LAST, the rest hold SKIP. -/
def PollEntry.reset (i : Nat) : PollEntry :=
  { target := if h : i < 16 then some ⟨i, h⟩ else none, last := i == 15 }

/-- R100. -/
def ProfileHeader.reset : ProfileHeader :=
  { valid := false, sharedSupply := false, baseLoad := 0, lampLoad := 0, groups := 0, positions := 0, heaterPower := 0,
    heatCapacity := 0, lossFactor := 0, margin := 0 }

/-- R71: circuit (g - 1) × 12 + q, which is the index within the profile's table plus 1. -/
def LampEntry.reset (i : Nat) : LampEntry :=
  { present := false, critical := false, high := false, res12 := true, long := false, circuit := i % 96 + 1, minimum := 0,
    maximum := 0 }

/-- R138: not in use; the other fields have no stated value: DESIGN CHOICE 0 (log entry 2). -/
def FilterEntry.reset : FilterEntry :=
  { inUse := false, source := 0, codeLow := 0, codeHigh := 0, action := .block, storedBlocks := false }

/-- The tables before the loader runs (R23, R51, R71, R100, R138). -/
def Tables.reset : Tables :=
  { route := tabulate 224 fun _ => .reset, poll := tabulate 32 .reset, profiles := tabulate 8 fun _ => .reset,
    lamps := tabulate 768 .reset, filter := tabulate 64 fun _ => .reset }

/-- The defaults of Table 10-3. -/
def Params.reset : Params :=
  { replyTimeout := 4, missLimit := 3, cabinOffset := -80, cabinSpan := 180, fullScaleLow := 2000, fullScaleHigh := 16000,
    holdTime := 30, tolerance := 4, clearWindow := 30, releaseLead := 10, feederLimit := 0, defaultAction := .advise,
    autoLamp := false, autoRead := true, reportMask := BitVec.allOnes 22 }

/-- R99. -/
def Clock.reset : Clock := { minute := 0, second := 0, outside := 0, minutesNoTime := 0, timeStale := true }

/-- What the blocks read, after a reset that samples the straps as given. -/
def Env.reset (straps : Straps) : Env :=
  { straps := straps, tables := .reset, params := .reset, clock := .reset }

/-- R24, R43: a row strap of 1 to 62 gives the part an address; at 0 and 63 it holds its reset state. -/
def Straps.addressed (p : Straps) : Bool := p.row.val != 0 && p.row.val != 63

/-- The part right after power-on reset or pin reset: every block at its reset value, and the loader started when the ROW
strap reads 1 to 62 (R174). -/
def Dev.reset (straps : Straps) : Dev :=
  { env := .reset straps,
    live := { Live.reset with
      mgu := { MguState.reset with loader := if straps.addressed then Loader.reset.start else .reset } } }

/-- The straps of `State.reset`: row 1, END_OF_TRUNK clear, MEMSIZE 0. DESIGN CHOICE (log entry 1): the pins are outside. -/
def Straps.initial : Straps := { row := 1, endOfTrunk := false, memSize := 0 }

/-- The machine right after power-on reset, with no command waiting. -/
def State.reset : State := { dev := .reset .initial, pending := [] }

end Sys2Proof.Machine
end

