-- ==== Sys2Proof/Machine/Codec.lean ====
section
/-! DEFINITION. Bytes and frames: byte order, the frame check, trunk frames, bay-line frames (sections 11.1 to 11.3). -/
namespace Sys2Proof.Machine

/-! ## Byte order (section 4.3 of 00_scope: most significant byte first) -/

/-- The low eight bits of a number. -/
def byteOf (n : Nat) : Byte := BitVec.ofNat 8 n

/-- A number as two bytes. -/
def be16 (n : Nat) : List Byte := [byteOf (n / 256), byteOf n]

/-- A number as three bytes. -/
def be24 (n : Nat) : List Byte := [byteOf (n / 65536), byteOf (n / 256), byteOf n]

/-- A number as four bytes. -/
def be32 (n : Nat) : List Byte := [byteOf (n / 16777216), byteOf (n / 65536), byteOf (n / 256), byteOf n]

/-- A signed number as one byte, two's complement (chapter 11). -/
def signedByte (n : Int) : Byte := BitVec.ofInt 8 n

/-- A signed number as two bytes, two's complement (chapter 11). -/
def signed16 (n : Int) : List Byte := be16 (BitVec.ofInt 16 n).toNat

/-- The number two bytes spell. -/
def num16 (hi lo : Byte) : Nat := hi.toNat * 256 + lo.toNat

/-- The number four bytes spell. -/
def num32 (a b c d : Byte) : Nat := ((a.toNat * 256 + b.toNat) * 256 + c.toNat) * 256 + d.toNat

/-- The number a list of bits spells, bit 0 first. -/
def packBits : List Bool → Nat
  | [] => 0
  | b :: rest => (if b then 1 else 0) + 2 * packBits rest

/-- The number in bits `low` to `low + width - 1` of a byte. -/
def bitField (b : Byte) (low width : Nat) : Nat := b.toNat / 2 ^ low % 2 ^ width

/-- Bit `i` of a byte. -/
def bitAt (b : Byte) (i : Nat) : Bool := b.getLsbD i

/-! ## The frame check (R175) -/

/-- One bit of the CRC with generator 0x1021, most significant bit first. -/
def crcShift (c : Half) : Half := if c.msb then (c <<< 1) ^^^ 0x1021#16 else c <<< 1

/-- One byte of the CRC. -/
def crcByte (c : Half) (b : Byte) : Half :=
  crcShift (crcShift (crcShift (crcShift (crcShift (crcShift (crcShift (crcShift (c ^^^ (b.setWidth 16 <<< 8)))))))))

/-- R175: the frame check over header and payload bytes; the register starts at 0xFFFF. -/
def frameCheck (bytes : List Byte) : Half := bytes.foldl crcByte 0xFFFF#16

/-- The bytes followed by their frame check. -/
def withCheck (bytes : List Byte) : List Byte := bytes ++ be16 (frameCheck bytes).toNat

/-- The bytes before the last two, when those two are their frame check. -/
def checked (bytes : List Byte) : Option (List Byte) :=
  let body := bytes.take (bytes.length - 2)
  if 2 ≤ bytes.length ∧ bytes.drop (bytes.length - 2) = be16 (frameCheck body).toNat then some body else none

/-! ## Trunk frames (Table 11-1) -/

/-- The bytes a trunk frame is sent as; its frame check is computed afresh (R46, R49, R54, R175). -/
def TrunkFrame.bytes (f : TrunkFrame) : List Byte :=
  withCheck ([byteOf f.dr, byteOf f.db, byteOf f.sr, byteOf f.sb, f.kind, byteOf f.hop, byteOf f.payload.length] ++ f.payload)

/-- R42: the good frame the received bytes spell, if they spell one. -/
def parseTrunk (bytes : List Byte) : Option TrunkFrame :=
  match checked bytes with
  | some (dr :: db :: sr :: sb :: kind :: hop :: len :: payload) =>
    if len.toNat ≤ Config.trunkPayloadMax ∧ len.toNat = payload.length ∧ dr.toNat ≤ 63 ∧ db.toNat ≤ 31 ∧ hop.toNat ≤ 15 then
      some { dr := dr.toNat, db := db.toNat, sr := sr.toNat, sb := sb.toNat, kind := kind, hop := hop.toNat, payload := payload }
    else none
  | _ => none

/-! ## Bay-line frames (Tables 11-2 to 11-4) -/

/-- The bay number of section 4.2. -/
def bayNumber (b : Bay) : Nat := b.val + 1

/-- The bay a number names, if it names one from 1 to 16. -/
def bayOf (n : Nat) : Option Bay := if h : 1 ≤ n ∧ n ≤ 16 then some ⟨n - 1, by omega⟩ else none

/-- The three settings as the bits of ACTUATE and of the bay snapshot: heater, latch, contactor. -/
def Actuators.bits (a : Actuators) : List Bool := [a.heater, a.latch, a.contactor]

/-- Kind code and payload of a job frame (section 11.3). -/
def JobFrame.content : JobFrame → Byte × List Byte
  | .ident => (0x03, [])
  | .ldrv circuit high res12 long tag =>
    (0x04, [byteOf circuit, byteOf (packBits [high, res12, long] + 16 * tag)])
  | .crd offset count => (0x05, be16 offset ++ [byteOf count])
  | .cclr => (0x06, [])
  | .cqry => (0x07, [])

/-- Kind code and payload of the frame an exchange carries (section 11.3). -/
def SentFrame.content : SentFrame → Byte × List Byte
  | .actuate a => (0x02, [byteOf (packBits a.bits)])
  | .job f => f.content
  | .office f => (f.kind, f.payload)
  | .samplePoll => (0x01, [])
  | .poll => (0x01, [])

/-- The bytes a frame to a post is sent as (Table 11-2; no PSTAT in this direction). -/
def SentFrame.bytes (b : Bay) (s : SentFrame) : List Byte :=
  withCheck ([byteOf (bayNumber b), s.content.1, byteOf s.content.2.length] ++ s.content.2)

/-- The indications of a PSTAT byte (Table 11-3); bits 6 and 7 are ignored (R176). -/
def Pstat.ofByte (p : Byte) : Pstat :=
  { plugIn := bitAt p 0, latchReleased := bitAt p 1, heaterOn := bitAt p 2, contactorClosed := bitAt p 3, alert := bitAt p 4,
    samplePending := bitAt p 5 }

/-- What a reply carries besides its PSTAT, judged by its kind (R26 check 3, R176). -/
inductive ReplyContent where
  | stat
  | idrp (coach : Nat) (profile : Fin 8)
  | smp (flags tag : Byte) (code : Nat)
  | cdata (offset : Nat) (data : List Byte)
  | cbusy
  | cnak
  | cdone
  | office (f : OfficeFrame)
  deriving DecidableEq, Repr

/-- A reply that passed the frame and bay checks. -/
structure Reply where
  pstat : Pstat
  content : ReplyContent
  deriving DecidableEq, Repr

/-- R26 check 3 and Table 11-4: a payload that does not suit its kind (a CDATA of fewer than 2 or more than 48 bytes among them),
and any other kind below 0x20, is taken as STAT. An office kind is an office frame whatever its length: for more than the 48 bytes
of Table 11-2 that is a DESIGN CHOICE (log entry 11). -/
def judgeContent (kind : Byte) (payload : List Byte) : ReplyContent :=
  if 0x20 ≤ kind.toNat then .office { kind := kind, payload := payload }
  else match kind.toNat, payload with
    | 0x11, [a, b, c, d, p] => if h : p.toNat < 8 then .idrp (num32 a b c d) ⟨p.toNat, h⟩ else .stat
    | 0x12, [flags, tag, hi, lo] => .smp flags tag (num16 hi lo)
    | 0x13, hi :: lo :: data =>
      if (hi :: lo :: data).length ≤ Config.bayPayloadMax then .cdata (num16 hi lo) data else .stat
    | 0x14, [] => .cbusy
    | 0x15, [] => .cnak
    | 0x16, [] => .cdone
    | _, _ => .stat

/-- R26 checks 1 and 2: the reply the received bytes spell for an exchange with bay `b`, or none for a bad reply. Neither check
bounds LEN, so a LEN above the 48 of Table 11-2 passes where the bytes agree, and check 3 judges it. -/
def parseReply (b : Bay) (bytes : List Byte) : Option Reply :=
  match checked bytes with
  | some (bay :: kind :: pstat :: len :: payload) =>
    if len.toNat = payload.length ∧ bay.toNat = bayNumber b then
      some { pstat := .ofByte pstat, content := judgeContent kind payload }
    else none
  | _ => none

/-- The bytes of a post's frame (Table 11-2). -/
def replyBytes (b : Bay) (kind pstat : Byte) (payload : List Byte) : List Byte :=
  withCheck ([byteOf (bayNumber b), kind, pstat, byteOf payload.length] ++ payload)

end Sys2Proof.Machine
end

