-- ==== Sys2Proof/Machine/Ops.lean ====
section
/-! DEFINITION. The named operations over the state: the parts of a bay record, report reasons, signed minute distance,
desired actuator state, the job slot. -/
namespace Sys2Proof.Machine

/-! ## The parts of a bay record -/

/-- The record of a bay. -/
def Live.bay (l : Live) (b : Bay) : BayRec := l.bays[b]

/-- Change the record of a bay. -/
def Live.modBay (l : Live) (b : Bay) (f : BayRec → BayRec) : Live := { l with bays := l.bays.set b (f l.bays[b]) }

/-- Change BTB's part of a bay record. -/
def Live.modBtb (l : Live) (b : Bay) (f : BtbPart → BtbPart) : Live := l.modBay b fun r => { r with btb := f r.btb }
/-- Change BLM's part of a bay record. -/
def Live.modBlm (l : Live) (b : Bay) (f : BlmPart → BlmPart) : Live := l.modBay b fun r => { r with blm := f r.blm }
/-- Change SCV's part of a bay record. -/
def Live.modScv (l : Live) (b : Bay) (f : ScvPart → ScvPart) : Live := l.modBay b fun r => { r with scv := f r.scv }
/-- Change LSW's part of a bay record. -/
def Live.modLsw (l : Live) (b : Bay) (f : LswPart → LswPart) : Live := l.modBay b fun r => { r with lsw := f r.lsw }
/-- Change FRD's part of a bay record. -/
def Live.modFrd (l : Live) (b : Bay) (f : FrdPart → FrdPart) : Live := l.modBay b fun r => { r with frd := f r.frd }
/-- Change PHP's part of a bay record. -/
def Live.modPhp (l : Live) (b : Bay) (f : PhpPart → PhpPart) : Live := l.modBay b fun r => { r with php := f r.php }
/-- Change FAL's part of a bay record. -/
def Live.modFal (l : Live) (b : Bay) (f : FalPart → FalPart) : Live := l.modBay b fun r => { r with fal := f r.fal }
/-- Change DPC's part of a bay record. -/
def Live.modDpc (l : Live) (b : Bay) (f : DpcPart → DpcPart) : Live := l.modBay b fun r => { r with dpc := f r.dpc }

/-- The bays 1 to 16 in ascending order. -/
def allBays : List Bay := List.finRange 16

/-- An action taken for each bay of a list in turn. -/
def forBays (bays : List Bay) (f : Bay → Live → Live) (l : Live) : Live := bays.foldl (fun l b => f b l) l

/-- A counter that stops at 65,535 (section 4.1 of 00_scope). -/
def bump (n : Nat) : Nat := if n < Config.counterMax then n + 1 else n

/-- A count that stops at a greatest value. -/
def bumpTo (max n : Nat) : Nat := if n < max then n + 1 else n

/-- The profile header of a bay's coach. -/
def profileOf (e : Env) (l : Live) (b : Bay) : ProfileHeader := e.tables.profiles[(l.bay b).btb.profile]

/-! ## Report reasons and the ring (R171) -/

/-- The bit of a reason in a reason set and in the report mask (section 11.6). -/
def Reason.bit : Reason → Nat
  | .plug => 0
  | .ident => 1
  | .lampDone => 2
  | .faultDone => 3
  | .heat => 4
  | .shed => 5
  | .late => 6
  | .cleared => 7
  | .released => 8
  | .revoked => 9
  | .departed => 10
  | .uncleared => 11
  | .expired => 12
  | .breakaway => 13
  | .silent => 14
  | .online => 15
  | .downRefused => 16
  | .start => 17
  | .overcommit => 18
  | .timeStale => 19
  | .starved => 20
  | .loaded => 21

/-- The reason set that holds one reason. -/
def Reason.single (r : Reason) : Reasons := 1#22 <<< r.bit

/-- The reason set of a number. -/
def Reports.of (r : Reports) : ReportNumber → Reasons
  | .row => r.row
  | .bay b => r.bays[b]

/-- Write the reason set of a number. -/
def Reports.put (r : Reports) (n : ReportNumber) (s : Reasons) : Reports :=
  match n with
  | .row => { r with row := s }
  | .bay b => { r with bays := r.bays.set b s }

/-- R171: the addition of a reason; the number joins the ring at its tail when its masked set goes from empty to
non-empty. -/
def Reports.add (mask : Reasons) (n : ReportNumber) (reason : Reason) (r : Reports) : Reports :=
  let old := r.of n
  let new := old ||| reason.single
  let r' := r.put n new
  if old &&& mask = 0 ∧ new &&& mask ≠ 0 then { r' with ring := r'.ring ++ [n] } else r'

/-- A reason added for the row or a bay. -/
def addReason (e : Env) (n : ReportNumber) (reason : Reason) (l : Live) : Live :=
  { l with reports := l.reports.add e.params.reportMask n reason }

/-- A reason added for a bay. -/
def addBayReason (e : Env) (b : Bay) (reason : Reason) (l : Live) : Live := addReason e (.bay b) reason l

/-! ## Signed minute distance (R97) -/

/-- R97: the distance from week minute `b` to week minute `a`, reduced into -5040 to +5039. -/
def distance (a b : Nat) : Int := ((a : Int) - b + 5040) % 10080 - 5040

/-! ## Desired actuator state (R37) -/

/-- R37: a write of the three settings; a change marks the state dirty, a write of the values held changes nothing. -/
def BlmPart.desire (a : Actuators) (m : BlmPart) : BlmPart :=
  if m.desired = a then m else { m with desired := a, dirty := true }

/-- PHP's write of the heater setting. -/
def setHeater (b : Bay) (on : Bool) (l : Live) : Live :=
  l.modBlm b fun m => m.desire { m.desired with heater := on }

/-- DPC's and MGU's write of release purpose and desired latch state, together (R13, R159). -/
def setLatch (b : Bay) (purpose : Purpose) (release : Bool) (l : Live) : Live :=
  (l.modBtb b fun r => { r with purpose := purpose }).modBlm b fun m => m.desire { m.desired with latch := release }

/-- BTB's write of the contactor setting (R8). -/
def setContactor (b : Bay) (closed : Bool) (l : Live) : Live :=
  l.modBlm b fun m => m.desire { m.desired with contactor := closed }

/-! ## The job slot (R34) -/

/-- The owner of a job frame (section 2.5). -/
def JobFrame.owner : JobFrame → Owner
  | .ident => .btb
  | .ldrv .. => .lsw
  | .crd .. => .frd
  | .cclr => .frd
  | .cqry => .frd

/-- R34: the last holder after a frame has left the slot. -/
def holderAfter (f : JobFrame) (h : Holder) : Holder :=
  match f.owner with
  | .lsw => .lsw
  | .frd => .frd
  | .btb => h

/-- R34 refilling: a waiting claim enters an empty slot; of two, that of the owner that is not the last holder. -/
def BlmPart.refill (m : BlmPart) : BlmPart :=
  match m.job, m.claimLsw, m.claimFrd with
  | none, some x, none => { m with job := some ⟨x, false⟩, claimLsw := none }
  | none, none, some y => { m with job := some ⟨y, false⟩, claimFrd := none }
  | none, some x, some y =>
    match m.lastHolder with
    | .frd => { m with job := some ⟨x, false⟩, claimLsw := none }
    | .lsw => { m with job := some ⟨y, false⟩, claimFrd := none }
  | _, _, _ => m

/-- R34: the frame in the slot leaves it, and a claim refills it. -/
def BlmPart.emptySlot (m : BlmPart) : BlmPart :=
  match m.job with
  | none => m
  | some j => { m with job := none, lastHolder := holderAfter j.frame m.lastHolder }.refill

/-- R34 placing. BTB has no claim (Table 2-3) and finds no other owner's frame in its way. -/
def BlmPart.place (f : JobFrame) (m : BlmPart) : BlmPart :=
  match m.job with
  | none => { m with job := some ⟨f, false⟩ }
  | some j =>
    if j.frame.owner = f.owner then
      { m with job := some ⟨f, false⟩, lastHolder := holderAfter j.frame m.lastHolder }
    else
      match f.owner with
      | .lsw => { m with claimLsw := some f }
      | .frd => { m with claimFrd := some f }
      | .btb => m

/-- Remove an owner's claim. -/
def BlmPart.dropClaim (o : Owner) (m : BlmPart) : BlmPart :=
  match o with
  | .lsw => { m with claimLsw := none }
  | .frd => { m with claimFrd := none }
  | .btb => m

/-- R34 withdrawal: the owner's claim and its frame in the slot are removed. -/
def BlmPart.withdraw (o : Owner) (m : BlmPart) : BlmPart :=
  let m' := m.dropClaim o
  match m'.job with
  | some j => if j.frame.owner = o then m'.emptySlot else m'
  | none => m'

/-- R33, R34 emptying: outbound queue, job slot and claims are emptied; no owner is told. -/
def BlmPart.clearFrames (m : BlmPart) : BlmPart :=
  { m with queue := [], headSent := false, job := none, claimLsw := none, claimFrd := none }

/-- Withdraw an owner's frame and claim at a bay. -/
def withdrawJob (b : Bay) (o : Owner) (l : Live) : Live := l.modBlm b (·.withdraw o)

/-- Place a job frame at a bay. -/
def placeJob (b : Bay) (f : JobFrame) (l : Live) : Live := l.modBlm b (·.place f)

end Sys2Proof.Machine
end

