-- ==== Sys2Proof/Machine/Clearance.lean ====
section
/-! DEFINITION. DPC's judgement of a bound entry: clearance, revocation, release, gate copies (R153, R157 to R159). -/
namespace Sys2Proof.Machine

/-- The entry bound to a bay, if any. -/
def boundEntry (l : Live) (b : Bay) : Option DepEntry := l.departures.find? fun x => x.bay == some b

/-- The entry with an id, if any. -/
def entryById (l : Live) (id : Nat) : Option DepEntry := l.departures.find? fun x => x.id == id

/-- Change the entry with an id, in its place. -/
def updateEntry (id : Nat) (f : DepEntry → DepEntry) (l : Live) : Live :=
  { l with departures := l.departures.map fun x => if x.id == id then f x else x }

/-- Remove the entry with an id. -/
def removeEntry (id : Nat) (l : Live) : Live := { l with departures := l.departures.filter fun x => x.id != id }

/-- The distance to departure of an entry (R97). -/
def DepEntry.distance (e : Env) (x : DepEntry) : Int := Machine.distance x.minute e.clock.minute

/-- R157: the gates an entry requires pass on the copies DPC holds; HEAT is left out when the entry has no target. -/
def gatesPass (x : DepEntry) (d : DpcPart) : Bool :=
  (!x.gates.lamp || d.lampGate) && (!x.gates.fault || d.faultGate) && (!x.gates.heat || x.target.isNone || d.heatGate)

/-- R157: the four conditions of clearance. -/
def clearable (e : Env) (l : Live) (b : Bay) (x : DepEntry) : Bool :=
  gatesPass x (l.bay b).dpc && (l.bay b).blm.link == .online && !x.mismatch &&
    decide (x.distance e ≤ e.params.clearWindow)

/-- R158. -/
def revokeEntry (e : Env) (b : Bay) (x : DepEntry) (l : Live) : Live :=
  let l1 := updateEntry x.id (fun y => { y with state := .preparing, held := false }) l
  let l2 := if x.state = .released then setLatch b .none false l1 else l1
  addBayReason e b .revoked l2

/-- R157: the judgement of the entry bound to a bay. -/
def judge (e : Env) (b : Bay) (l : Live) : Live :=
  match boundEntry l b with
  | none => l
  | some x =>
    match x.state with
    | .waiting => l
    | .preparing =>
      if clearable e l b x then addBayReason e b .cleared (updateEntry x.id (fun y => { y with state := .cleared }) l) else l
    | .cleared => if clearable e l b x then l else revokeEntry e b x l
    | .released => if clearable e l b x then l else revokeEntry e b x l

/-- R159: the release of a CLEARED entry. -/
def releaseEntry (e : Env) (b : Bay) (x : DepEntry) (l : Live) : Live :=
  addBayReason e b .released
    (setLatch b .depart true (updateEntry x.id (fun y => { y with state := .released, held := false }) l))

/-- Write DPC's copy of a gate. -/
def DpcPart.setGate (g : Gate) (pass : Bool) (d : DpcPart) : DpcPart :=
  match g with
  | .lamp => { d with lampGate := pass }
  | .fault => { d with faultGate := pass }
  | .heat => { d with heatGate := pass }

/-- R153: a gate notice sets the copy, and DPC judges the bay's entry but within a teardown of the bay (R161). -/
def gateNotice (e : Env) (judging : Bool) (b : Bay) (g : Gate) (pass : Bool) (l : Live) : Live :=
  let l' := l.modDpc b (·.setGate g pass)
  if judging then judge e b l' else l'

/-- R153: LATE is copied into the entry bound to the bay. -/
def lateNotice (b : Bay) (late : Bool) (l : Live) : Live :=
  match boundEntry l b with
  | none => l
  | some x => updateEntry x.id (fun y => { y with late := late }) l

/-- R153: DPC records the latch actual of a PSTAT and judges the bay's entry. -/
def dpcPstat (e : Env) (b : Bay) (released : Bool) (l : Live) : Live :=
  judge e b (l.modDpc b fun d => { d with latchReported := released })

/-- R160 step 3, R164: every bound entry is judged, in list order: DESIGN CHOICE (log entry 40). -/
def judgeAll (e : Env) (l : Live) : Live := forBays (l.departures.filterMap (·.bay)) (judge e) l

end Sys2Proof.Machine
end

