-- ==== Sys2Proof/Machine/Heater.lean ====
section
/-! DEFINITION. PHP's work that asks nothing of FAL: lateness, the admitted heat share, the shared-supply pause, the heat
gate (R106, R107, R109 to R111). -/
namespace Sys2Proof.Machine

/-- R65: a bay's cabin temperature is STALE; a held value NONE is. -/
def cabinStale (c : ScvPart) : Bool := decide (Config.staleAge ≤ c.age) || c.held.isNone

/-- The distance to departure of the entry bound to a bay. -/
def boundDistance (e : Env) (l : Live) (b : Bay) : Option Int := (boundEntry l b).map (·.distance e)

/-- R111: the heat states in which a bay can be behind its plan. -/
def HeatState.canBeLate : HeatState → Bool
  | .waitFeed => true
  | .heating => true
  | .paused => true
  | _ => false

/-- R111: LATE is set, reported and mirrored when the bay is behind its plan. A bay whose entry is bound no more has no distance to
departure, and is not found behind its plan: DESIGN CHOICE (log entry 49). -/
def evalLate (e : Env) (b : Bay) (l : Live) : Live :=
  let p := (l.bay b).php
  match boundDistance e l b with
  | none => l
  | some d =>
    if p.state.canBeLate ∧ p.late = false ∧ d < (p.lead : Int) - ((profileOf e l b).margin : Int) then
      lateNotice b true (addBayReason e b .late (l.modPhp b fun q => { q with late := true }))
    else l

/-- R111: LATE is cleared and DPC is told. -/
def clearLate (b : Bay) (l : Live) : Live :=
  if (l.bay b).php.late then lateNotice b false (l.modPhp b fun q => { q with late := false }) else l

/-- R110: the heat gate latches PASS; DPC is told and HEAT is added. -/
def latchHeatGate (e : Env) (b : Bay) (l : Live) : Live :=
  if (l.bay b).php.gate then l
  else gateNotice e true b .heat true (addBayReason e b .heat (l.modPhp b fun q => { q with gate := true }))

/-- R106: FAL tells PHP that the bay's heat share is admitted. -/
def heatAdmitted (e : Env) (b : Bay) (l : Live) : Live :=
  let p := (l.bay b).php
  if p.state = .waitFeed then
    if p.pauseRequested then
      evalLate e b (l.modPhp b fun q => { q with state := .paused, resume := .heating })
    else
      evalLate e b (addBayReason e b .heat (setHeater b true (l.modPhp b fun q => { q with state := .heating })))
  else l

/-- R109: LSW tells PHP that a heater pause begins. -/
def pauseBegins (e : Env) (b : Bay) (l : Live) : Live :=
  let p := (l.bay b).php
  let l1 := l.modPhp b fun q => { q with pauseRequested := true }
  match p.state with
  | .heating =>
    evalLate e b (setHeater b false (l1.modPhp b fun q => { q with state := .paused, resume := .heating }))
  | .maintain =>
    evalLate e b (setHeater b false (l1.modPhp b fun q => { q with state := .paused, resume := .maintain }))
  | _ => l1

/-- R109: whether a pause that returns to MAINTAIN turns the heater ON. -/
def maintainWantsHeat (e : Env) (c : ScvPart) (target : Int) : Bool :=
  match c.held with
  | none => false
  | some t => !cabinStale c && decide (t < target - (e.params.tolerance : Int))

/-- R109: LSW tells PHP that a heater pause ends. A return to MAINTAIN is an entry into it, which clears LATE (R111). -/
def pauseEnds (e : Env) (b : Bay) (l : Live) : Live :=
  let p := (l.bay b).php
  let l1 := l.modPhp b fun q => { q with pauseRequested := false }
  match p.state with
  | .paused =>
    match p.resume with
    | .heating =>
      evalLate e b (addBayReason e b .heat (setHeater b true (l1.modPhp b fun q => { q with state := .heating })))
    | .maintain =>
      clearLate b (setHeater b (maintainWantsHeat e (l.bay b).scv p.target) (l1.modPhp b fun q => { q with state := .maintain }))
  | _ => l1

/-- R107, R109, R110: a valid cabin sample of value `t` is judged against the target. -/
def judgeCabinSample (e : Env) (b : Bay) (t : Int) (l : Live) : Live :=
  let p := (l.bay b).php
  let near : Bool := decide (p.target - (e.params.tolerance : Int) ≤ t)
  match p.state with
  | .none => l
  | .planned => if near then latchHeatGate e b l else l
  | .waitFeed => if near then latchHeatGate e b l else l
  | .heating =>
    if near then
      let l1 := l.modPhp b fun q => { q with state := .maintain }
      let l2 := if p.target ≤ t then setHeater b false l1 else l1
      addBayReason e b .heat (clearLate b (latchHeatGate e b l2))
    else l
  | .maintain =>
    if p.target ≤ t then setHeater b false l
    else if near then l
    else setHeater b true l
  | .paused =>
    if near then clearLate b (latchHeatGate e b (l.modPhp b fun q => { q with resume := .maintain })) else l

/-- R101: PHP records the heater actual of a PSTAT. -/
def phpPstat (b : Bay) (on : Bool) (l : Live) : Live := l.modPhp b fun q => { q with heaterReported := on }

/-- R107: at STALE onset in MAINTAIN the heater is desired OFF. -/
def staleInMaintain (b : Bay) (l : Live) : Live :=
  if (l.bay b).php.state = .maintain then setHeater b false l else l

end Sys2Proof.Machine
end

