-- ==== Sys2Proof/Machine/LampStep.lean ====
section
/-! DEFINITION. LSW's work that asks nothing of FAL: the profile lamp tables, the lamp gate, the walk of a window, the drive of
a lamp, the judgement of a sample (R71, R72, R79 to R82, R85, R92). -/
namespace Sys2Proof.Machine

/-- R73: the index of a lamp in a map and in its profile's table. -/
def lampIndex (g q : Nat) : Nat := (g - 1) * 12 + (q - 1)

/-- R71: the entry of a profile's lamp, as it stands. -/
def lampEntry (e : Env) (profile : Fin 8) (g q : Nat) : LampEntry :=
  (e.tables.lamps[profile.val * 96 + lampIndex g q]?).getD (.reset 0)

/-- R72: a lamp lies in the profile's grid. -/
def inGrid (h : ProfileHeader) (g q : Nat) : Bool := decide (g ≤ h.groups) && decide (q ≤ h.positions)

/-- R81: a lamp that is stepped: present and in the grid. -/
def steppable (e : Env) (l : Live) (b : Bay) (p : Nat × Nat) : Bool :=
  inGrid (profileOf e l b) p.1 p.2 && (lampEntry e (l.bay b).btb.profile p.1 p.2).present

/-- The numbers from `a` to `b`. -/
def span (a b : Nat) : List Nat := (List.range (b + 1 - a)).map (· + a)

/-- R81: the values of an axis in walking order. -/
def axis (first last : Nat) (reverse : Bool) : List Nat := if reverse then (span first last).reverse else span first last

/-- R81: the lamps of a window in walking order. -/
def walkOrder (w : SweepWindow) (o : SweepOrder) : List (Nat × Nat) :=
  let gs := axis w.groupFirst w.groupLast o.reverseGroup
  let qs := axis w.positionFirst w.positionLast o.reversePosition
  if o.positionMajor then qs.flatMap fun q => gs.map fun g => (g, q) else gs.flatMap fun g => qs.map fun q => (g, q)

/-- R81: the first lamp to step of a window. -/
def firstLamp (e : Env) (l : Live) (b : Bay) : Option (Nat × Nat) :=
  let s := (l.bay b).lsw
  (walkOrder s.window s.order).find? (steppable e l b)

/-- R81: the next lamp to step behind a lamp. -/
def lampAfter (e : Env) (l : Live) (b : Bay) (p : Nat × Nat) : Option (Nat × Nat) :=
  let s := (l.bay b).lsw
  (((walkOrder s.window s.order).dropWhile fun x => x != p).drop 1).find? (steppable e l b)

/-- The LDRV for a lamp entry (R82 step 2). -/
def driveFrame (x : LampEntry) (tag : Nat) : JobFrame := .ldrv x.circuit x.high x.res12 x.long tag

/-- R82: drive the lamp at the pointer. -/
def driveLamp (e : Env) (b : Bay) (p : Nat × Nat) (l : Live) : Live :=
  let x := lampEntry e (l.bay b).btb.profile p.1 p.2
  let tag := ((l.bay b).lsw.tagCounter + 1) % 16
  let l1 := l.modLsw b fun s =>
    { s with tagCounter := tag, stepTag := tag, pointer := some p, visits := 0, tries := s.tries + 1, driveSent := false }
  (placeJob b (driveFrame x tag) l1).modScv b fun c => { c with driveHigh := x.high }

/-- R81: the pointer lands on the lamp to step and LSW drives it, or it has passed the window end (`true`). -/
def pointAt (e : Env) (b : Bay) (p : Option (Nat × Nat)) (l : Live) : Live × Bool :=
  let l1 := l.modLsw b fun s => { s with tries := 0, visits := 0 }
  match p with
  | some x => (driveLamp e b x l1, false)
  | none => (l1, true)

/-- A result of a lamp in a map. -/
def resultAt (m : Vector LampResult 96) (g q : Nat) : LampResult := (m[lampIndex g q]?).getD .notTested

/-- The 96 lamps of the grid (section 4.2 of 00_scope). -/
def allLamps : List (Nat × Nat) := (span 1 8).flatMap fun g => (span 1 12).map fun q => (g, q)

/-- R92: what the lamp gate of a bay is now. -/
def lampGateNow (e : Env) (l : Live) (b : Bay) : Bool :=
  let r := l.bay b
  r.btb.occupancy == .occupied && !r.btb.profileMissing &&
    allLamps.all fun p =>
      !(steppable e l b p && (lampEntry e r.btb.profile p.1 p.2).critical) || resultAt r.lsw.map p.1 p.2 == .ok

/-- R92: LSW evaluates the lamp gate, and tells DPC of a change. -/
def evalLampGate (e : Env) (judging : Bool) (b : Bay) (l : Live) : Live :=
  let now := lampGateNow e l b
  if (l.bay b).lsw.gate = now then l else gateNotice e judging b .lamp now (l.modLsw b fun s => { s with gate := now })

/-- R80: a heater pause is ended when the pause marker is set. -/
def endPause (e : Env) (b : Bay) (l : Live) : Live :=
  if (l.bay b).lsw.pauseMarker then pauseEnds e b (l.modLsw b fun s => { s with pauseMarker := false }) else l

/-- R79: FAL tells LSW that the bay's lamp share is admitted; `true` when the sweep has passed its window end at once. -/
def lampAdmitted (e : Env) (b : Bay) (l : Live) : Live × Bool :=
  if (l.bay b).lsw.sweep = .waitPower then
    let l1 := l.modLsw b fun s => { s with sweep := .running }
    let l2 :=
      if (profileOf e l b).sharedSupply then pauseBegins e b (l1.modLsw b fun s => { s with pauseMarker := true }) else l1
    pointAt e b (firstLamp e l2 b) l2
  else (l, false)

/-- R87 steps 1 to 3: a sweep that has passed its window end. -/
def closeSweep (e : Env) (b : Bay) (l : Live) : Live :=
  endPause e b
    ((withdrawJob b .lsw l).modLsw b fun s => { s with sweep := .complete, pointer := none, tries := 0, visits := 0 })

/-- R87 steps 5 and 6, R88 steps 6 and 7: the gate is evaluated and LAMP_DONE is added. -/
def reportSweep (e : Env) (judging : Bool) (b : Bay) (l : Live) : Live :=
  addBayReason e b .lampDone (evalLampGate e judging b l)

/-- R86 step 2: one more of a result. -/
def SweepCounts.bump (r : LampResult) (c : SweepCounts) : SweepCounts :=
  match r with
  | .ok => { c with ok := c.ok + 1 }
  | .dim => { c with dim := c.dim + 1 }
  | .openCircuit => { c with openCircuit := c.openCircuit + 1 }
  | .overLimit => { c with overLimit := c.overLimit + 1 }
  | .noMeasure => { c with noMeasure := c.noMeasure + 1 }
  | .notTested => c

/-- R86 steps 1 and 2: a result is written at a lamp and counted. -/
def recordResult (b : Bay) (p : Nat × Nat) (r : LampResult) (l : Live) : Live :=
  l.modLsw b fun s => { s with map := s.map.setIfInBounds (lampIndex p.1 p.2) r, counts := s.counts.bump r }

/-- R85: the judgement of a sample of current `i` against a lamp's entry. -/
def judgeCurrent (x : LampEntry) (i : Nat) (overrange : Bool) : LampResult :=
  if overrange then .overLimit
  else if x.maximum < i then .overLimit
  else if x.minimum ≤ i then .ok
  else if x.minimum / 4 ≤ i then .dim
  else .openCircuit

end Sys2Proof.Machine
end

