-- ==== Sys2Proof/Machine/Feeder.lean ====
section
/-! DEFINITION. FAL: shares, the admission queue, admission passes and their notices, release, withdrawal, re-keying,
shedding, OVERCOMMIT (chapter 7). -/
namespace Sys2Proof.Machine

/-- The share of a kind in a bay's row. -/
def FalPart.share (f : FalPart) : ShareKind → Share
  | .base => f.base
  | .lamp => f.lamp
  | .heat => f.heat

/-- Write the share of a kind. -/
def FalPart.setShare (k : ShareKind) (s : Share) (f : FalPart) : FalPart :=
  match k with
  | .base => { f with base := s }
  | .lamp => { f with lamp := s }
  | .heat => { f with heat := s }

/-- A bay's share of a kind. -/
def shareOf (l : Live) (b : Bay) (k : ShareKind) : Share := (l.bay b).fal.share k

/-- What a share adds to the committed load. -/
def Share.load (s : Share) : Nat := if s.state = .admitted then s.amount else 0

/-- The admitted amounts of a bay's row. -/
def FalPart.load (f : FalPart) : Nat := f.base.load + f.lamp.load + f.heat.load

/-- R117: the committed load, the sum of the admitted share amounts. -/
def committed (l : Live) : Nat := (allBays.map fun b => (l.bay b).fal.load).sum

/-! ## The admission queue (R119) -/

/-- R119 step 2: BASE before LAMP before HEAT. -/
def ShareKind.rank : ShareKind → Nat
  | .base => 0
  | .lamp => 1
  | .heat => 2

/-- R119 step 3: earlier by the difference of the sequences modulo 2^32 into -2^31 to 2^31 - 1. -/
def earlierSequence (x y : Quad) : Bool := decide ((x - y).toInt < 0)

/-- R119 steps 2 and 3. -/
def beforeByKind (kx ky : ShareKind) (sx sy : Quad) : Bool :=
  if kx.rank < ky.rank then true else if ky.rank < kx.rank then false else earlierSequence sx sy

/-- R119: request `x` sorts before request `y`. -/
def sortsBefore (e : Env) (l : Live) (x y : Bay × ShareKind) : Bool :=
  let sx := (shareOf l x.1 x.2).sequence
  let sy := (shareOf l y.1 y.2).sequence
  match (l.bay x.1).fal.key, (l.bay y.1).fal.key with
  | some _, none => true
  | none, some _ => false
  | none, none => beforeByKind x.2 y.2 sx sy
  | some a, some c =>
    let dx := distance a e.clock.minute
    let dy := distance c e.clock.minute
    if dx < dy then true else if dy < dx then false else beforeByKind x.2 y.2 sx sy

/-- R119: immediately before the first request, counted from the head, that sorts after it. -/
def insertBefore (after : Bay × ShareKind → Bool) (x : Bay × ShareKind) : List (Bay × ShareKind) → List (Bay × ShareKind)
  | [] => [x]
  | y :: rest => if after y then x :: y :: rest else y :: insertBefore after x rest

/-- A request joins the queue (R119). -/
def enqueue (e : Env) (x : Bay × ShareKind) (l : Live) : Live :=
  { l with fal := { l.fal with queue := insertBefore (fun y => sortsBefore e l x y) x l.fal.queue } }

/-- A request leaves the queue. -/
def dequeue (x : Bay × ShareKind) (l : Live) : Live := { l with fal := { l.fal with queue := l.fal.queue.filter (· != x) } }

/-- Write the state of a share, keeping amount and sequence. -/
def setShareState (b : Bay) (k : ShareKind) (st : ShareState) (l : Live) : Live :=
  l.modFal b fun f => f.setShare k { f.share k with state := st }

/-- A share returns to NONE. -/
def dropShare (b : Bay) (k : ShareKind) (l : Live) : Live := l.modFal b fun f => f.setShare k .none

/-! ## The admission pass (R122) -/

/-- R118: a HELD share of a bay whose base share has been admitted joins the queue. -/
def releaseHeld (e : Env) (b : Bay) (k : ShareKind) (l : Live) : Live :=
  if (shareOf l b k).state = .held then enqueue e (b, k) (setShareState b k .queued l) else l

/-- R122 step 1: one request is admitted; an admitted BASE brings the bay's HELD shares into the queue, lamp before heat. -/
def grantShare (e : Env) (x : Bay × ShareKind) (l : Live) : Live :=
  let l1 := setShareState x.1 x.2 .admitted (dequeue x l)
  match x.2 with
  | .base => releaseHeld e x.1 .heat (releaseHeld e x.1 .lamp l1)
  | _ => l1

/-- R122: the request fits the limit. -/
def fits (e : Env) (l : Live) (x : Bay × ShareKind) : Bool :=
  decide (committed l + (shareOf l x.1 x.2).amount ≤ e.params.feederLimit)

/-- R122 step 1, with a bound on the number of requests: the head is admitted while it fits. -/
def admitHeads (e : Env) : Nat → Live × List (Bay × ShareKind) → Live × List (Bay × ShareKind)
  | 0, s => s
  | n + 1, (l, told) =>
    match l.fal.queue with
    | [] => (l, told)
    | x :: _ => if fits e l x then admitHeads e n (grantShare e x l, told ++ [x]) else (l, told)

/-- R122 step 2: each LAMP request of the rest of the queue that fits is admitted. -/
def passLamps (e : Env) : List (Bay × ShareKind) → Live × List (Bay × ShareKind) → Live × List (Bay × ShareKind)
  | [], s => s
  | x :: rest, (l, told) =>
    if x.2 = .lamp ∧ fits e l x = true then passLamps e rest (grantShare e x l, told ++ [x]) else passLamps e rest (l, told)

/-- The number of requests a pass could grant: those queued and two held ones of each bay. -/
def requestBound (l : Live) : Nat := l.fal.queue.length + 33

/-- One round of a pass (R122). -/
def passRound (e : Env) (l : Live) : Live × List (Bay × ShareKind) :=
  let s := admitHeads e (requestBound l) (l, [])
  passLamps e s.1.fal.queue.tail s

/-- R122: rounds until one admits nothing; the requests admitted, in order. -/
def passRounds (e : Env) : Nat → Live → List (Bay × ShareKind) → Live × List (Bay × ShareKind)
  | 0, l, told => (l, told)
  | n + 1, l, told =>
    let s := passRound e l
    if s.2.isEmpty then (s.1, told) else passRounds e n s.1 (told ++ s.2)

/-- R122: an admission pass, which OVERCOMMIT keeps from running. -/
def admissionPass (e : Env) (l : Live) : Live × List (Bay × ShareKind) :=
  if l.fal.overcommit then (l, []) else passRounds e (requestBound l) l []

/-- R126: the flag is judged after the committed load has fallen or B has risen; then the pass of R122. -/
def judgeOvercommit (e : Env) (l : Live) : Live × List (Bay × ShareKind) :=
  if l.fal.overcommit ∧ e.params.feederLimit < committed l then (l, [])
  else admissionPass e { l with fal := { l.fal with overcommit := false } }

/-- R124: an ADMITTED share returns to NONE and the pass it sets off is made; any other share is left alone. -/
def freeShare (e : Env) (b : Bay) (k : ShareKind) (l : Live) : Live × List (Bay × ShareKind) :=
  if (shareOf l b k).state = .admitted then judgeOvercommit e (dropShare b k l) else (l, [])

/-! ## Notices (R123) -/

/-- R123: the owners of admitted requests are told, in the order of admission. LSW may complete a sweep at once and release its
share, which sets off a pass of its own whose owners are told before the release is over: DESIGN CHOICE (log entry 8). The first argument
bounds the number of notices; `noticeBound` is never used up, since each notice ends one request and none is made here. -/
def tellOwners (e : Env) : Nat → List (Bay × ShareKind) → Live → Live
  | 0, _, l => l
  | _ + 1, [], l => l
  | n + 1, (b, .base) :: rest, l => tellOwners e n rest (setContactor b true l)
  | n + 1, (b, .heat) :: rest, l => tellOwners e n rest (heatAdmitted e b l)
  | n + 1, (b, .lamp) :: rest, l =>
    match lampAdmitted e b l with
    | (l1, false) => tellOwners e n rest l1
    | (l1, true) =>
      let s := freeShare e b .lamp (closeSweep e b l1)
      tellOwners e n rest (reportSweep e true b (tellOwners e n s.2 s.1))

/-- A bound on the notices that one pass can set off: those at hand, and every request still queued or held. -/
def noticeBound (l : Live) (told : List (Bay × ShareKind)) : Nat := told.length + requestBound l

/-- The owners admitted in a pass are told (R123). -/
def finishPass (e : Env) (s : Live × List (Bay × ShareKind)) : Live := tellOwners e (noticeBound s.1 s.2) s.2 s.1

/-- R122, R123: a pass and its notices. -/
def runPass (e : Env) (l : Live) : Live := finishPass e (admissionPass e l)

/-! ## Requests, withdrawals, releases, keys -/

/-- R118, R120: a request of an owner. -/
def requestShare (e : Env) (b : Bay) (k : ShareKind) (amount : Nat) (l : Live) : Live :=
  if (shareOf l b k).state = .none then
    let direct : Bool := k == .base || (shareOf l b .base).state == .admitted
    let s : Share := { state := if direct then .queued else .held, amount := amount, sequence := l.fal.sequence }
    let l1 := (l.modFal b fun f => f.setShare k s)
    let l2 := { l1 with fal := { l1.fal with sequence := l1.fal.sequence + 1 } }
    if direct then runPass e (enqueue e (b, k) l2) else l2
  else l

/-- R123: a request that is QUEUED or HELD returns to NONE. -/
def dropRequest (b : Bay) (k : ShareKind) (l : Live) : Live :=
  match (shareOf l b k).state with
  | .queued => dropShare b k (dequeue (b, k) l)
  | .held => dropShare b k l
  | _ => l

/-- R123: a withdrawal by an owner; that of a QUEUED request sets off a pass. -/
def withdrawShare (e : Env) (b : Bay) (k : ShareKind) (l : Live) : Live :=
  if (shareOf l b k).state = .queued then runPass e (dropRequest b k l) else dropRequest b k l

/-- R124: a release by an owner. -/
def releaseShare (e : Env) (b : Bay) (k : ShareKind) (l : Live) : Live := finishPass e (freeShare e b k l)

/-- Whether a bay has a request of a kind in the queue. -/
def isQueued (l : Live) (b : Bay) (k : ShareKind) : Bool := (shareOf l b k).state == .queued

/-- R121: a queued request is inserted again. -/
def requeue (e : Env) (b : Bay) (k : ShareKind) (l : Live) : Live := if isQueued l b k then enqueue e (b, k) l else l

/-- R121: DPC tells FAL the departure minute of the bay's entry. The bay's requests all leave the queue before the first is
inserted again: DESIGN CHOICE (log entry 12). -/
def setKey (e : Env) (b : Bay) (key : Option Nat) (l : Live) : Live :=
  if (l.bay b).fal.key = key then l
  else
    let l1 := l.modFal b fun f => { f with key := key }
    if isQueued l b .base || isQueued l b .lamp || isQueued l b .heat then
      let l2 := { l1 with fal := { l1.fal with queue := l1.fal.queue.filter fun x => x.1 != b } }
      runPass e (requeue e b .heat (requeue e b .lamp (requeue e b .base l2)))
    else l1

/-- R124: step 3 of a teardown clears the bay's row, as one release. -/
def clearRow (e : Env) (b : Bay) (l : Live) : Live :=
  let l1 := { l with fal := { l.fal with queue := l.fal.queue.filter fun x => x.1 != b } }
  finishPass e (judgeOvercommit e (l1.modFal b fun f => { f with key := none, base := .none, lamp := .none, heat := .none }))

/-! ## Shedding (R125) -/

/-- R125 step 1: a bay whose heat share can be taken back. -/
def sheddable (l : Live) (b : Bay) : Bool :=
  (shareOf l b .heat).state == .admitted && (l.bay b).blm.link != .silent

/-- R125 step 1: bay `x` departs later than bay `y`, or at the same distance has the higher number. -/
def departsLater (e : Env) (l : Live) (x y : Bay) : Bool :=
  match (l.bay x).fal.key, (l.bay y).fal.key with
  | none, some _ => true
  | some _, none => false
  | none, none => decide (y < x)
  | some a, some c =>
    let dx := distance a e.clock.minute
    let dy := distance c e.clock.minute
    if dy < dx then true else if dx < dy then false else decide (y < x)

/-- R125 step 1: the bay to shed next. -/
def chooseShed (e : Env) (l : Live) : Option Bay :=
  (allBays.filter (sheddable l)).foldl
    (fun best b => match best with
      | none => some b
      | some c => if departsLater e l b c then some b else some c) none

/-- R125 step 2: a heat share is revoked. -/
def revokeHeat (e : Env) (b : Bay) (l : Live) : Live := addBayReason e b .shed (dropShare b .heat l)

/-- R125 steps 1 to 3, at most one revocation a bay. -/
def shedLoop (e : Env) : Nat → Live → List Bay → Live × List Bay
  | 0, l, told => (l, told)
  | n + 1, l, told =>
    if e.params.feederLimit < committed l then
      match chooseShed e l with
      | none => (l, told)
      | some b => shedLoop e n (revokeHeat e b l) (told ++ [b])
    else (l, told)

/-- R108: PHP is told that the bay's heat share was revoked. -/
def heatRevoked (e : Env) (b : Bay) (l : Live) : Live :=
  let l1 := setHeater b false (l.modPhp b fun q => { q with state := .waitFeed })
  evalLate e b (requestShare e b .heat (profileOf e l b).heaterPower (evalLate e b l1))

/-- R125 step 4, R126: the flag is judged at the end of a shed. -/
def judgeShed (e : Env) (l : Live) : Live :=
  if e.params.feederLimit < committed l then
    if l.fal.overcommit then l else addReason e .row .overcommit { l with fal := { l.fal with overcommit := true } }
  else finishPass e (judgeOvercommit e l)

/-- R125: FAL sheds, then tells PHP of each revocation in order. -/
def shed (e : Env) (l : Live) : Live :=
  let s := shedLoop e 16 l []
  forBays s.2 (heatRevoked e) (judgeShed e s.1)

/-- R115: the effect of a write of B, which `e` already holds, on the old value. -/
def limitWritten (e : Env) (old : Nat) (l : Live) : Live :=
  let new := e.params.feederLimit
  if new = old then l
  else if old < new then finishPass e (judgeOvercommit e l)
  else if new < committed l then shed e l
  else l

/-- R127: FAL is handed a PSTAT. -/
def falPstat (e : Env) (b : Bay) (closed : Bool) (l : Live) : Live :=
  let l1 := l.modFal b fun f => { f with contactorReported := closed }
  if l1.fal.overcommit ∧ (shareOf l1 b .heat).state = .admitted then shed e l1 else l1

end Sys2Proof.Machine
end

