-- ==== Sys2Proof/Machine/Sweep.lean ====
section
/-! DEFINITION. LSW: starting, restarting, stepping, completing and aborting a sweep; its operations and notices (chapter 5). -/
namespace Sys2Proof.Machine

/-- R74: a sweep is in progress. -/
def SweepState.inProgress : SweepState → Bool
  | .waitPower => true
  | .running => true
  | _ => false

/-- R87: a sweep that has passed its window end completes. -/
def completeSweep (e : Env) (b : Bay) (l : Live) : Live :=
  reportSweep e true b (releaseShare e b .lamp (closeSweep e b l))

/-- R81: the pointer goes to a lamp, or the sweep completes in the same event. -/
def stepTo (e : Env) (b : Bay) (p : Option (Nat × Nat)) (l : Live) : Live :=
  match pointAt e b p l with
  | (l1, true) => completeSweep e b l1
  | (l1, false) => l1

/-- R86: the step at the pointer ends with a result. -/
def endStep (e : Env) (b : Bay) (r : LampResult) (l : Live) : Live :=
  match (l.bay b).lsw.pointer with
  | none => l
  | some p =>
    let l1 := recordResult b p r l
    stepTo e b (lampAfter e l1 b p) l1

/-- R88: a sweep in progress is aborted, its lamp share settled by `settleShare` (step 5); `silent` gives the lamp of the step NO_MEASURE
(R89); `judging` is off in a teardown of the bay (R161). -/
def abortWith (e : Env) (judging silent : Bool) (b : Bay) (settleShare : Live → Live) (l : Live) : Live :=
  let s := (l.bay b).lsw
  let l1 := match s.pointer with
    | some p => if silent ∧ s.sweep = .running then recordResult b p .noMeasure l else l
    | none => l
  let l2 := (withdrawJob b .lsw l1).modLsw b fun t => { t with sweep := .aborted, pointer := none, tries := 0, visits := 0 }
  reportSweep e judging b (settleShare (endPause e b l2))

/-- R88: a sweep in progress is aborted; in WAIT_POWER its request is withdrawn, in RUNNING its share is released. -/
def abortSweep (e : Env) (judging silent : Bool) (b : Bay) (l : Live) : Live :=
  abortWith e judging silent b
    (if (l.bay b).lsw.sweep = .waitPower then withdrawShare e b .lamp else releaseShare e b .lamp) l

/-- R88: the abort of a sweep, if one is in progress. -/
def stopSweep (e : Env) (judging silent : Bool) (b : Bay) (l : Live) : Live :=
  if (l.bay b).lsw.sweep.inProgress then abortSweep e judging silent b l else l

/-- R76: a sweep starts. -/
def startSweep (e : Env) (b : Bay) (w : SweepWindow) (o : SweepOrder) (l : Live) : Live :=
  let l1 := l.modLsw b fun s =>
    { s with window := w, order := o, counts := .zero, pointer := none, tries := 0, visits := 0, sweep := .waitPower }
  requestShare e b .lamp (profileOf e l b).lampLoad l1

/-- R77: a sweep in progress is replaced. -/
def restartSweep (e : Env) (b : Bay) (w : SweepWindow) (o : SweepOrder) (l : Live) : Live :=
  let l1 := l.modLsw b fun s => { s with window := w, order := o, counts := .zero }
  if (l.bay b).lsw.sweep = .running then stepTo e b (firstLamp e l1 b) l1 else l1

/-- R75: the departure entry bound to the bay is CLEARED or RELEASED. -/
def entryCleared (l : Live) (b : Bay) : Bool :=
  match boundEntry l b with
  | none => false
  | some x => x.state == .cleared || x.state == .released

/-- R75: LAMP CHECK for a bay. -/
def lampCheck (e : Env) (b : Bay) (w : SweepWindow) (o : SweepOrder) (l : Live) : Status × Live :=
  let r := l.bay b
  let h := profileOf e l b
  if r.btb.occupancy ≠ .occupied then (.state, l)
  else if r.btb.profileMissing then (.state, l)
  else if entryCleared l b then (.state, l)
  else if w.groupFirst = 0 ∨ h.groups < w.groupFirst ∨ w.positionFirst = 0 ∨ h.positions < w.positionFirst then (.range, l)
  else
    let w' := { w with groupLast := min w.groupLast h.groups, positionLast := min w.positionLast h.positions }
    if w'.groupLast < w'.groupFirst ∨ w'.positionLast < w'.positionFirst then (.range, l)
    else if r.lsw.sweep.inProgress then (.done, restartSweep e b w' o l)
    else (.done, startSweep e b w' o l)

/-- R78: LAMP STOP for a bay. -/
def lampStop (e : Env) (b : Bay) (l : Live) : Status × Live :=
  if (l.bay b).btb.occupancy ≠ .occupied then (.state, l) else (.done, stopSweep e true false b l)

/-- R84: step visits have reached 3. -/
def visitLimit (e : Env) (b : Bay) (l : Live) : Live :=
  let s := (l.bay b).lsw
  match s.pointer with
  | none => l
  | some p => if s.tries ≤ 1 then driveLamp e b p l else endStep e b .noMeasure l

/-- R84: the end of an exchange with the bay is announced to LSW. -/
def lswExchangeEnd (e : Env) (b : Bay) (l : Live) : Live :=
  let s := (l.bay b).lsw
  if s.sweep = .running ∧ s.driveSent = true then
    let l1 := l.modLsw b fun t => { t with visits := t.visits + 1 }
    if 3 ≤ s.visits + 1 then visitLimit e b l1 else l1
  else l

/-- R83, R85: SCV hands LSW a converted lamp sample. -/
def lampSample (e : Env) (b : Bay) (tag current : Nat) (overrange : Bool) (l : Live) : Live :=
  let s := (l.bay b).lsw
  match s.pointer with
  | none => l
  | some p =>
    if s.sweep = .running ∧ s.stepTag = tag then
      endStep e b (judgeCurrent (lampEntry e (l.bay b).btb.profile p.1 p.2) current overrange) l
    else l

/-- R93: the window of a sweep over the whole grid of the bay's profile. -/
def wholeWindow (e : Env) (l : Live) (b : Bay) : SweepWindow :=
  if (l.bay b).btb.profileMissing then .whole
  else { groupFirst := 1, groupLast := (profileOf e l b).groups, positionFirst := 1, positionLast := (profileOf e l b).positions }

/-- R93: BTB tells LSW that the bay has become OCCUPIED. -/
def lswOccupied (e : Env) (diverted : Bool) (b : Bay) (l : Live) : Live :=
  let w := wholeWindow e l b
  let l1 := l.modLsw b fun s =>
    { s with sweep := .idle, window := w, order := .plain, counts := .zero, pointer := none, tries := 0, visits := 0,
             pauseMarker := false }
  let l2 := evalLampGate e true b l1
  if e.params.autoLamp ∧ (l2.bay b).btb.profileMissing = false ∧ diverted = false ∧ entryCleared l2 b = false then
    startSweep e b w .plain l2
  else l2

/-- R91: the bays of a list whose sweep waits for power. -/
def waitingForPower (l : Live) (bays : List Bay) : List Bay := bays.filter fun b => (l.bay b).lsw.sweep == .waitPower

/-- R91: the sweep of a bay that has lost its profile is aborted. Its request, if it waited for power, has been dropped already, with
those of the other bays that lost the profile, so that no pass admits one of them in between; the pass of a QUEUED one is due here. -/
def abortLost (e : Env) (queued : List Bay) (b : Bay) (l : Live) : Live :=
  match (l.bay b).lsw.sweep with
  | .waitPower => abortWith e true false b (fun l => if b ∈ queued then runPass e l else l) l
  | .running => abortSweep e true false b l
  | _ => l

/-- R91: the lamp gates of the OCCUPIED bays of a profile are evaluated after a load. By ascending number: DESIGN CHOICE
(log entry 37). -/
def evalProfileGates (e : Env) (p : Fin 8) (l : Live) : Live :=
  forBays allBays
    (fun b l => if (l.bay b).btb.occupancy = .occupied ∧ (l.bay b).btb.profile = p then evalLampGate e true b l else l) l

end Sys2Proof.Machine
end

