-- ==== Sys2Proof/Machine/Preheat.lean ====
section
/-! DEFINITION. PHP: the lead, the plan of a bay, recompute events, leaving the plan (R101 to R105, R112). -/
namespace Sys2Proof.Machine

/-- Division of natural numbers rounded up (section 4.1 of 00_scope). -/
def ceilDiv (a b : Nat) : Nat := (a + b - 1) / b

/-- What a lead computation gives (R103). -/
structure LeadResult where
  lead : Nat
  unreachable : Bool
  capped : Bool
  deriving DecidableEq, Repr

/-- R103 stage 3: the loss in watts. -/
def heatLoss (h : ProfileHeader) (target cabin outside : Int) : Nat :=
  let x := target + cabin - 2 * outside
  if x ≤ 0 then 0 else h.lossFactor * x.toNat / 4

/-- R103: the lead of a cabin at `cabin` for a target, in stages. -/
def computeLead (h : ProfileHeader) (target cabin outside : Int) : LeadResult :=
  if target - cabin ≤ 0 then { lead := 0, unreachable := false, capped := false }
  else
    let energy := h.heatCapacity * 500 * (target - cabin).toNat
    let loss := heatLoss h target cabin outside
    let heater := h.heaterPower * 100
    if heater - heater / 8 ≤ loss then { lead := Config.leadMax, unreachable := true, capped := false }
    else
      let seconds := ceilDiv energy (heater - loss)
      let lead := ceilDiv seconds 60 + h.margin
      if Config.leadMax < lead then { lead := Config.leadMax, unreachable := false, capped := true }
      else { lead := lead, unreachable := false, capped := false }

/-- R102: the cabin temperature of the computation: the held value, or To when that is STALE. -/
def planningCabin (e : Env) (c : ScvPart) : Int := if cabinStale c then e.clock.outside else c.held.getD e.clock.outside

/-- R103, R104: the lead of a bay is computed and kept; HEAT is added when UNREACHABLE has become set. -/
def computeBayLead (e : Env) (b : Bay) (l : Live) : Live :=
  let r := l.bay b
  let x := computeLead (profileOf e l b) r.php.target (planningCabin e r.scv) e.clock.outside
  let l1 := l.modPhp b fun q =>
    { q with lead := x.lead, unreachable := x.unreachable, capped := x.capped, staleCabin := cabinStale r.scv }
  if x.unreachable ∧ r.php.unreachable = false then addBayReason e b .heat l1 else l1

/-- R105: PHP acts by the heat state on the lead it holds and the distance as it stands. -/
def heatAct (e : Env) (b : Bay) (l : Live) : Live :=
  let p := (l.bay b).php
  match boundDistance e l b with
  | none => l
  | some d =>
    match p.state with
    | .none => l
    | .planned =>
      if 0 < p.lead ∧ d ≤ p.lead then
        evalLate e b (requestShare e b .heat (profileOf e l b).heaterPower
          (evalLate e b (setHeater b false (l.modPhp b fun q => { q with state := .waitFeed }))))
      else l
    | .waitFeed =>
      if p.lead = 0 ∨ (p.lead : Int) < d then
        withdrawShare e b .heat (clearLate b (setHeater b false (l.modPhp b fun q => { q with state := .planned })))
      else evalLate e b l
    | _ => evalLate e b l

/-- R105: a recompute event of a bay; a bay whose heat state is NONE is not computed. -/
def recompute (e : Env) (b : Bay) (l : Live) : Live :=
  if (l.bay b).php.state = .none then l else heatAct e b (computeBayLead e b l)

/-- R101: the target of a plannable bay's entry; none when the bay is not plannable. -/
def plannableTarget (l : Live) (b : Bay) : Option Int :=
  let r := l.bay b
  match boundEntry l b with
  | none => none
  | some x =>
    if r.btb.occupancy = .occupied ∧ r.btb.profileMissing = false ∧ x.state ≠ .waiting then x.target else none

/-- R112: the bay leaves its plan; in a teardown DPC does not judge (R161) and no HEAT reason is added. The pass that step 1 sets off
(R123, R124) and its notices come before steps 2 to 5: DESIGN CHOICE (log entry 47). -/
def leavePlan (e : Env) (teardown : Bool) (b : Bay) (l : Live) : Live :=
  let p := (l.bay b).php
  let l1 := match p.state with
    | .waitFeed => withdrawShare e b .heat l
    | .heating => releaseShare e b .heat l
    | .maintain => releaseShare e b .heat l
    | .paused => releaseShare e b .heat l
    | _ => l
  let l2 := setHeater b false l1
  let l3 :=
    if (l2.bay b).php.gate then gateNotice e (!teardown) b .heat false (l2.modPhp b fun q => { q with gate := false }) else l2
  let l4 := (clearLate b l3).modPhp b fun q =>
    { q with unreachable := false, capped := false, staleCabin := false, lead := 0, state := .none }
  if p.state ≠ .none ∧ teardown = false then addBayReason e b .heat l4 else l4

/-- R101: a bay in NONE that has become plannable enters PLANNED, which is a recompute event. -/
def enterPlan (e : Env) (b : Bay) (target : Int) (l : Live) : Live :=
  recompute e b (setHeater b false (l.modPhp b fun q =>
    { q with target := target, unreachable := false, capped := false, staleCabin := false, late := false, state := .planned }))

/-- R101, R105: PHP is told of a change to what makes the bay plannable, or to the target or minute of its entry. -/
def planNotice (e : Env) (b : Bay) (l : Live) : Live :=
  let p := (l.bay b).php
  match plannableTarget l b with
  | none => if p.state = .none then l else leavePlan e false b l
  | some t =>
    if p.state = .none then enterPlan e b t l else recompute e b (l.modPhp b fun q => { q with target := t })

/-- R101: BTB tells PHP of an identification or a change of PROFILE_MISSING: only plannability is judged. -/
def plannabilityNotice (e : Env) (b : Bay) (l : Live) : Live :=
  let p := (l.bay b).php
  match plannableTarget l b with
  | none => if p.state = .none then l else leavePlan e false b l
  | some t => if p.state = .none then enterPlan e b t l else l

/-- R64, R105, R107: SCV tells PHP of a valid cabin sample. PHP judges it and then recomputes: DESIGN CHOICE (log entry 9). -/
def cabinSample (e : Env) (b : Bay) (t : Int) (l : Live) : Live := recompute e b (judgeCabinSample e b t l)

/-- R65, R105, R107: SCV tells PHP of a STALE onset. -/
def cabinStaleOnset (e : Env) (b : Bay) (l : Live) : Live := recompute e b (staleInMaintain b l)

/-- R100, R105: a header load that leaves profile `p` valid. By ascending number: DESIGN CHOICE (log entry 37). -/
def recomputeProfile (e : Env) (p : Fin 8) (l : Live) : Live :=
  forBays allBays (fun b l => if (l.bay b).btb.profile = p then recompute e b l else l) l

/-- R98 step 3: a TIME frame that changes To. By ascending number: DESIGN CHOICE (log entry 37). -/
def recomputeAll (e : Env) (l : Live) : Live := forBays allBays (recompute e) l

/-- R105, R111: PHP's action at a minute event, for each bay, without a computation. By ascending number: DESIGN CHOICE
(log entry 37). -/
def phpMinute (e : Env) (l : Live) : Live := forBays allBays (heatAct e) l

end Sys2Proof.Machine
end

