-- ==== Sys2Proof/Machine/Departures.lean ====
section
/-! DEFINITION. DPC: the ordered list, binding, the operations on entries and latches, the minute event, the end of an entry at
a teardown (R152 to R163). -/
namespace Sys2Proof.Machine

/-! ## The ordered list (R152) -/

/-- R152: immediately after the last entry whose distance is equal to or less than the new entry's, at the head if none is. -/
def insertAfter (upTo : DepEntry → Bool) (x : DepEntry) : List DepEntry → List DepEntry
  | [] => [x]
  | y :: rest => if upTo y || rest.any upTo then y :: insertAfter upTo x rest else x :: y :: rest

/-- R152: an entry is placed in the list by its distance. -/
def insertEntry (e : Env) (x : DepEntry) (list : List DepEntry) : List DepEntry :=
  insertAfter (fun y => decide (y.distance e ≤ x.distance e)) x list

/-- R152: no entry has a greater distance than the entry behind it. -/
def ascending (e : Env) : List DepEntry → Bool
  | [] => true
  | [_] => true
  | x :: y :: rest => decide (x.distance e ≤ y.distance e) && ascending e (y :: rest)

/-- R152: sorted by distance; entries of equal distance keep their relative order. -/
def sortEntries (e : Env) (list : List DepEntry) : List DepEntry := list.foldl (fun acc x => insertEntry e x acc) []

/-- R152: the order is checked, and restored where it does not hold. -/
def restoreOrder (e : Env) (l : Live) : Live :=
  if ascending e l.departures then l else { l with departures := sortEntries e l.departures }

/-! ## Binding and unbinding (R156) -/

/-- The state and flags an unbound entry takes (R155, R161). -/
def DepEntry.unbound (x : DepEntry) : DepEntry :=
  { x with bay := none, state := .waiting, mismatch := false, late := false, held := false }

/-- R156: an entry bound to a bay is judged against the bay's coach. -/
def DepEntry.boundTo (b : Bay) (r : BtbPart) (x : DepEntry) : DepEntry :=
  if r.occupancy = .occupied then
    if x.coach = none ∨ x.coach = some r.coach then { x with bay := some b, state := .preparing, mismatch := false }
    else { x with bay := some b, state := .waiting, mismatch := true }
  else { x with bay := some b, state := .waiting, mismatch := false }

/-- R121, R101, R112, R156: at a binding, an unbinding or a removal FAL is told the key of the bay, with the pass that sets off, and then
PHP that the bay's plan may have changed: DESIGN CHOICE (log entry 13). -/
def tellBay (e : Env) (b : Bay) (key : Option Nat) (l : Live) : Live := planNotice e b (setKey e b key l)

/-- R156: the entry with an id is bound to a bay, or judged afresh against the bay it is bound to; FAL and PHP are told, and a
PREPARING entry is judged for clearance. FAL before PHP before the judgement: DESIGN CHOICE (log entry 13). -/
def bindEntry (e : Env) (id : Nat) (b : Bay) (l : Live) : Live :=
  let l1 := updateEntry id (·.boundTo b (l.bay b).btb) l
  judge e b (tellBay e b ((entryById l1 id).map (·.minute)) l1)

/-- R156: BTB tells DPC that a bay has become OCCUPIED. The entry bound to it is judged against the coach; with none bound, the
first unbound entry that expects the coach is bound. -/
def dpcOccupied (e : Env) (b : Bay) (l : Live) : Live :=
  match boundEntry l b with
  | some x => bindEntry e x.id b l
  | none =>
    match l.departures.find? fun x => x.bay == none && x.coach == some (l.bay b).btb.coach with
    | some x => bindEntry e x.id b l
    | none => l

/-- R154, R155: another entry is bound to the bay. -/
def takenByOther (l : Live) (id : Nat) (b : Bay) : Bool := l.departures.any fun x => x.bay == some b && x.id != id

/-! ## Operations on the list -/

/-- R154: the minute is out of range, by itself or by its distance. -/
def minuteOutOfRange (e : Env) (minute : Nat) : Bool :=
  decide (Config.weekMinutes ≤ minute) || decide (distance minute e.clock.minute < -60) ||
    decide (1440 < distance minute e.clock.minute)

/-- R154: a target clamped into +20 to +56, and whether that moved it. -/
def clampTarget (t : Option Int) : Option Int × Bool :=
  match t with
  | none => (none, false)
  | some v => (some (max 20 (min 56 v)), decide (v < 20) || decide (56 < v))

/-- R154: DEP ADD. The bay number is 0 to 16 or out of range. -/
def depAdd (e : Env) (id minute bay : Nat) (coach : Option Nat) (target : Option Int) (gates : GateMask) (l : Live) :
    Status × Live :=
  if id = 0 ∨ 16 < bay then (.range, l)
  else if minuteOutOfRange e minute then (.range, l)
  else if (entryById l id).isSome then (.duplicate, l)
  else if Config.departureMax ≤ l.departures.length then (.full, l)
  else
    let x : DepEntry :=
      { id := id, minute := minute, bay := none, coach := coach, target := (clampTarget target).1, gates := gates,
        state := .waiting, clamped := (clampTarget target).2, mismatch := false, late := false, held := false }
    let l1 := { l with departures := insertEntry e x l.departures }
    match bayOf bay with
    | none => (.done, l1)
    | some b =>
      if (l.bay b).btb.occupancy = .disabled then (.disabled, l)
      else if takenByOther l id b then (.taken, l)
      else (.done, bindEntry e id b l1)

/-- What a DEP CHANGE names (R155); an inner none of target is a target taken away, a bay of 0 is none. -/
structure DepNames where
  minute : Option Nat
  target : Option (Option Int)
  gates : Option GateMask
  bay : Option Nat
  deriving DecidableEq, Repr

/-- R155: the entry with its new minute, target and mask. -/
def DepNames.apply (n : DepNames) (x : DepEntry) : DepEntry :=
  let x1 := match n.minute with
    | some m => { x with minute := m }
    | none => x
  let x2 := match n.target with
    | some t => { x1 with target := (clampTarget t).1, clamped := (clampTarget t).2 }
    | none => x1
  match n.gates with
  | some g => { x2 with gates := g }
  | none => x2

/-- R155: the bay the entry is bound to after the change. -/
def DepNames.bayAfter (n : DepNames) (x : DepEntry) : Option Bay :=
  match n.bay with
  | some k => bayOf k
  | none => x.bay

/-- R155: FAL, with its pass, and then PHP are told of what changed for an entry that stays at its bay: DESIGN CHOICE (log entry 13). -/
def tellStay (e : Env) (n : DepNames) (b : Bay) (x : DepEntry) (l : Live) : Live :=
  let l1 := if n.minute.isSome then setKey e b (some x.minute) l else l
  if n.minute.isSome || n.target.isSome then planNotice e b l1 else l1

/-- R155: the accepted change of entry `x`. All values are written before any block is told: DESIGN CHOICE (log entry 14). -/
def changeEntry (e : Env) (n : DepNames) (x : DepEntry) (l : Live) : Live :=
  let x1 := n.apply x
  let moved : Bool := n.bayAfter x != x.bay
  let x2 := if moved then x1.unbound else x1
  let others := l.departures.filter fun y => y.id != x.id
  let l1 :=
    if n.minute.isSome then { l with departures := insertEntry e x2 others } else updateEntry x.id (fun _ => x2) l
  if moved then
    let l2 := match x.bay with
      | some b => tellBay e b none l1
      | none => l1
    match n.bayAfter x with
    | some b => bindEntry e x.id b l2
    | none => l2
  else
    match x.bay with
    | some b => judge e b (tellStay e n b x2 l1)
    | none => l1

/-- R155: a named value is out of range. -/
def DepNames.outOfRange (e : Env) (n : DepNames) : Bool :=
  (match n.minute with
    | some m => minuteOutOfRange e m
    | none => false) ||
  (match n.bay with
    | some k => decide (16 < k)
    | none => false)

/-- R155: the bay named, if one of 1 to 16 is. -/
def DepNames.namedBay (n : DepNames) : Option Bay := n.bay.bind bayOf

/-- R155: DEP CHANGE. -/
def depChange (e : Env) (id : Nat) (n : DepNames) (l : Live) : Status × Live :=
  if n.outOfRange e then (.range, l)
  else
    match entryById l id with
    | none => (.notFound, l)
    | some x =>
      if x.state = .released ∧ (n.minute.isSome ∨ n.gates.isSome ∨ n.bay.isSome) then (.state, l)
      else
        match n.namedBay with
        | none => (.done, changeEntry e n x l)
        | some b =>
          if (l.bay b).btb.occupancy = .disabled then (.disabled, l)
          else if takenByOther l id b then (.taken, l)
          else (.done, changeEntry e n x l)

/-- R163: the latch of the bay of a RELEASED entry that leaves the list is locked. -/
def lockIfReleased (x : DepEntry) (l : Live) : Live :=
  match x.state, x.bay with
  | .released, some b => setLatch b .none false l
  | _, _ => l

/-- R163: DEP CANCEL. -/
def depCancel (e : Env) (id : Nat) (l : Live) : Status × Live :=
  if id = 0 then (.range, l)
  else
    match entryById l id with
    | none => (.notFound, l)
    | some x =>
      let l1 := lockIfReleased x (removeEntry id l)
      match x.bay with
      | some b => (.done, tellBay e b none l1)
      | none => (.done, l1)

/-- R163: RELEASE NOW. -/
def releaseNow (e : Env) (id : Nat) (l : Live) : Status × Live :=
  if id = 0 then (.range, l)
  else
    match entryById l id with
    | none => (.notFound, l)
    | some x =>
      match x.state, x.bay with
      | .cleared, some b => (.done, releaseEntry e b x l)
      | _, _ => (.state, l)

/-! ## Latch operations (R162) -/

/-- R162: LATCH SHUNT. -/
def latchShunt (b : Bay) (l : Live) : Status × Live :=
  let o := (l.bay b).btb.occupancy
  if o = .unknown ∨ o = .vacant ∨ o = .disabled then (.state, l)
  else if entryCleared l b then (.state, l)
  else (.done, setLatch b .shunt true l)

/-- R162: LATCH LOCK. -/
def latchLock (b : Bay) (l : Live) : Status × Live :=
  if (l.bay b).btb.occupancy = .disabled then (.state, l)
  else
    let l1 := setLatch b .none false l
    match boundEntry l b with
    | some x => if x.state = .released then (.done, updateEntry x.id (fun y => { y with state := .cleared, held := true }) l1)
                else (.done, l1)
    | none => (.done, l1)

/-! ## The minute event (R160) -/

/-- R160 step 1: the entry with an id, which has expired. -/
def expireEntry (e : Env) (id : Nat) (l : Live) : Live :=
  match entryById l id with
  | none => l
  | some x =>
    let l1 := lockIfReleased x (removeEntry id l)
    match x.bay with
    | none => l1
    | some b => tellBay e b none (addBayReason e b .expired (l1.modDpc b fun d => { d with lastOutcome := .expired id }))

/-- R160 step 1: every entry whose distance is below -60. In list order, FAL and PHP told of each before the next: DESIGN CHOICE
(log entry 40). -/
def expireAll (e : Env) (l : Live) : Live :=
  ((l.departures.filter fun x => decide (x.distance e < -60)).map (·.id)).foldl (fun l id => expireEntry e id l) l

/-- R160 step 4: an entry that is due for release. -/
def releaseDue (e : Env) (x : DepEntry) : Bool :=
  x.state == .cleared && !x.held && decide (x.distance e ≤ e.params.releaseLead)

/-- R160 step 4: every CLEARED entry that is due, in list order: DESIGN CHOICE (log entry 40). -/
def releaseAll (e : Env) (l : Live) : Live :=
  (l.departures.filter (releaseDue e)).foldl
    (fun l x => match x.bay with
      | some b => releaseEntry e b x l
      | none => l) l

/-- R160: DPC at a minute event. -/
def dpcMinute (e : Env) (l : Live) : Live := releaseAll e (judgeAll e (restoreOrder e (expireAll e l)))

/-! ## The end of an entry at a teardown (R161) -/

/-- R161: step 6 of a teardown, with the purpose as it stood at the plug-out. -/
def settleEntry (e : Env) (purpose : Purpose) (b : Bay) (l : Live) : Live :=
  let l1 := match boundEntry l b with
    | none => l
    | some x =>
      if purpose = .depart then
        addBayReason e b .departed ((removeEntry x.id l).modDpc b fun d => { d with lastOutcome := .departed x.id })
      else
        addBayReason e b .uncleared
          ((updateEntry x.id DepEntry.unbound l).modDpc b fun d => { d with lastOutcome := .uncleared x.id })
  (tellBay e b none l1).modDpc b fun d => { d with lampGate := false, faultGate := false, heatGate := false }

end Sys2Proof.Machine
end

