-- ==== Sys2Proof/Machine/FaultRead.lean ====
section
/-! DEFINITION. FRD and the Parked Coach Cache it draws cells from: reads, parsing, the filter, the fault list, the cell pool, the
fault gate, clears, alerts (chapter 8, R18, R19). -/
namespace Sys2Proof.Machine

/-! ## Cells and the cache (R18, R19, R140) -/

/-- R140: the cells a record with so many freeze bytes needs. -/
def cellsFor (freezeLength : Nat) : Nat := 1 + (freezeLength + 7) / 8

/-- The cells a stored record occupies. -/
def FaultRecord.cells (r : FaultRecord) : Nat := cellsFor r.freeze.length

/-- The cells a fault list occupies (Table 8-1: held cells). -/
def heldCells (list : List FaultRecord) : Nat := (list.map FaultRecord.cells).sum

/-- R19: a slot's cells return to the free pool as it leaves the cache. -/
def freeCells (n : Nat) (l : Live) : Live := { l with pool := { l.pool with free := l.pool.free + n } }

/-- R18: the oldest slot is evicted, if the cache holds one. -/
def evictOldest (l : Live) : Live :=
  match l.cache with
  | [] => l
  | x :: rest => freeCells (heldCells x.list) { l with cache := rest }

/-- R141: evictions are demanded until `n` cells are free or no slot remains; the first argument bounds the demands. -/
def evictUntil (n : Nat) : Nat → Live → Live
  | 0, l => l
  | k + 1, l => if n ≤ l.pool.free ∨ l.cache = [] then l else evictUntil n k (evictOldest l)

/-- How a placement of cells ends (R140). -/
inductive Placement where
  | taken | quota | starved
  deriving DecidableEq, Repr

/-- R140: cells are placed for a bay whose list holds `held`. -/
def placeCells (held n : Nat) (l : Live) : Placement × Live :=
  if Config.bayCellQuota < held + n then (.quota, l)
  else
    let l1 := evictUntil n l.cache.length l
    if l1.pool.free < n then (.starved, l1) else (.taken, { l1 with pool := { l1.pool with free := l1.pool.free - n } })

/-- R140: STARVED is counted and reported. -/
def countStarved (e : Env) (p : Placement) (l : Live) : Live :=
  if p = .starved then addReason e .row .starved { l with pool := { l.pool with starved := bump l.pool.starved } } else l

/-- R132 step 2, R146: the list of a bay is emptied and its cells return to the pool. -/
def emptyList (b : Bay) (l : Live) : Live :=
  (freeCells (heldCells (l.bay b).frd.list) l).modFrd b fun c => { c with list := [], blocking := 0, lost := 0 }

/-! ## The fault gate (R143) -/

/-- R143: what the fault gate of a bay is now. -/
def faultGateNow (r : BayRec) : Bool :=
  r.btb.occupancy == .occupied && r.frd.status == .complete && r.frd.blocking == 0

/-- R143: FRD evaluates the gate and tells DPC of a change. -/
def evalFaultGate (e : Env) (judging : Bool) (b : Bay) (l : Live) : Live :=
  let now := faultGateNow (l.bay b)
  if (l.bay b).frd.gate = now then l else gateNotice e judging b .fault now (l.modFrd b fun c => { c with gate := now })

/-! ## Starting and ending a read (R132, R134, R137) -/

/-- FRD places a frame for the step in progress. -/
def placeFrd (b : Bay) (f : JobFrame) (l : Live) : Live :=
  placeJob b f (l.modFrd b fun c => { c with current := some f, carried := false })

/-- R134: the CRD for the read point. -/
def nextCrd (c : FrdPart) : JobFrame :=
  let room := min Config.chunkMax (Config.imageMax - c.readPoint)
  .crd c.readPoint (match c.imageEnd with
    | some x => min room (x - c.readPoint)
    | none => room)

/-- R134: a CRD is placed for a new read point. -/
def placeChunk (b : Bay) (l : Live) : Live :=
  placeFrd b (nextCrd (l.bay b).frd) (l.modFrd b fun c => { c with attempts := 0, busy := 0 })

/-- R132. -/
def startRead (e : Env) (b : Bay) (l : Live) : Live :=
  let l1 := emptyList b (withdrawJob b .frd l)
  let l2 := l1.modFrd b fun c =>
    { c with imageRecords := 0, parsed := 0, readPoint := 0, imageEnd := none, partialBytes := [], attempts := 0, busy := 0,
             status := .reading, cause := .none, current := none, carried := false }
  placeChunk b (evalFaultGate e true b l2)

/-- R137: a read or clear ends. -/
def endRead (e : Env) (judging : Bool) (b : Bay) (status : ReadStatus) (cause : AbortCause) (l : Live) : Live :=
  let l1 := (withdrawJob b .frd l).modFrd b fun c =>
    { c with status := status, cause := cause, partialBytes := [], current := none, carried := false }
  addBayReason e b .faultDone (evalFaultGate e judging b l1)

/-- A read or clear ends COMPLETE. -/
def completeRead (e : Env) (b : Bay) (l : Live) : Live := endRead e true b .complete .none l

/-- A read or clear is aborted with a cause. -/
def abortRead (e : Env) (b : Bay) (cause : AbortCause) (l : Live) : Live := endRead e true b .aborted cause l

/-- R149: a read or clear is in progress. -/
def ReadStatus.inProgress : ReadStatus → Bool
  | .reading => true
  | .clearing => true
  | _ => false

/-- R149: a read or clear in progress is aborted; `judging` is off in a teardown. -/
def stopRead (e : Env) (judging : Bool) (cause : AbortCause) (b : Bay) (l : Live) : Live :=
  if (l.bay b).frd.status.inProgress then endRead e judging b .aborted cause l else l

/-! ## The filter and the list (R138 to R141) -/

/-- A record as read from the image. -/
structure ReadRecord where
  source : Nat
  code : Nat
  occurrences : Nat
  active : Bool
  freeze : List Byte
  deriving DecidableEq, Repr

/-- R138: a record matches an entry. -/
def FilterEntry.matchesRecord (x : FilterEntry) (r : ReadRecord) : Bool :=
  x.inUse && x.source == r.source && decide (x.codeLow ≤ r.code) && decide (r.code ≤ x.codeHigh)

/-- R138: the effective action of a record. -/
def effectiveAction (e : Env) (r : ReadRecord) : FaultAction :=
  match e.tables.filter.toList.find? (·.matchesRecord r) with
  | some x =>
    match x.action with
    | .block => if r.active || x.storedBlocks then .block else .advise
    | .advise => .advise
    | .ignore => .ignore
  | none =>
    match e.params.defaultAction with
    | .block => if r.active then .block else .advise
    | a => a

/-- The record with its effective action, as it is stored. -/
def ReadRecord.stored (r : ReadRecord) (block : Bool) : FaultRecord :=
  { source := r.source, code := r.code, occurrences := r.occurrences, active := r.active, block := block, freeze := r.freeze }

/-- R139: one more blocking record, 255 at most (Table 8-1): DEDUCED (log entry 31). -/
def countBlocking (b : Bay) (block : Bool) (l : Live) : Live :=
  if block then l.modFrd b fun c => { c with blocking := bumpTo 255 c.blocking } else l

/-- R139: a new record is stored at the tail, or lost. -/
def storeNew (e : Env) (b : Bay) (x : FaultRecord) (l : Live) : Live :=
  let p := placeCells (heldCells (l.bay b).frd.list) x.cells l
  let l1 := countStarved e p.1 p.2
  let l2 := l1.modFrd b fun c =>
    if p.1 = .taken then { c with list := c.list ++ [x] } else { c with lost := bumpTo 255 c.lost }
  countBlocking b x.block l2

/-- R139: the fields of a stored record after a merge, but for its freeze bytes. -/
def mergeFields (old new : FaultRecord) : FaultRecord :=
  { old with occurrences := min 255 (old.occurrences + new.occurrences), active := old.active || new.active,
             block := old.block || new.block }

/-- A record's name in a list: source and fault code. -/
def FaultRecord.sameFault (x y : FaultRecord) : Bool := x.source == y.source && x.code == y.code

/-- Write the record of the same source and code, in its place. -/
def putRecord (b : Bay) (x : FaultRecord) (l : Live) : Live :=
  l.modFrd b fun c => { c with list := c.list.map fun y => if y.sameFault x then x else y }

/-- R139: a record merges into the stored one `old`. -/
def mergeRecord (e : Env) (b : Bay) (old x : FaultRecord) (l : Live) : Live :=
  let kept := mergeFields old x
  let resized := { kept with freeze := x.freeze }
  let l1 :=
    if x.cells ≤ old.cells then putRecord b resized (freeCells (old.cells - x.cells) l)
    else
      let p := placeCells (heldCells (l.bay b).frd.list) (x.cells - old.cells) l
      putRecord b (if p.1 = .taken then resized else kept) (countStarved e p.1 p.2)
  countBlocking b (x.block && !old.block) l1

/-- R139: a completed record is ignored, stored, lost or merged. -/
def storeRecord (e : Env) (b : Bay) (r : ReadRecord) (l : Live) : Live :=
  match effectiveAction e r with
  | .ignore => l
  | a =>
    let x := r.stored (a == .block)
    match (l.bay b).frd.list.find? (·.sameFault x) with
    | none => storeNew e b x l
    | some old => mergeRecord e b old x l

/-! ## Parsing (R131) -/

/-- The six bytes of a record head and its freeze bytes, as a record. -/
def recordOf (bytes : List Byte) : Option ReadRecord :=
  match bytes with
  | source :: hi :: lo :: occurrences :: status :: _ :: freeze =>
    some { source := source.toNat, code := num16 hi lo, occurrences := occurrences.toNat, active := bitAt status 0,
           freeze := freeze }
  | _ => none

/-- The freeze length of a record whose head has arrived. -/
def freezeLength (bytes : List Byte) : Option Nat := (bytes[5]?).map (·.toNat)

/-- R131 step 4: a complete record is judged and counted; the last one completes the read. -/
def completeRecord (e : Env) (b : Bay) (bytes : List Byte) (l : Live) : Live :=
  match recordOf bytes with
  | none => l
  | some r =>
    let l1 := (storeRecord e b r (l.modFrd b fun c => { c with partialBytes := [] })).modFrd b fun c =>
      { c with parsed := c.parsed + 1 }
    if (l1.bay b).frd.parsed = (l1.bay b).frd.imageRecords then completeRead e b l1 else l1

/-- R131 step 3: the last record's head gives the image end, where that lies within the image (Table 8-1): DEDUCED
(log entry 27). -/
def imageEndAt (c : FrdPart) (offset freeze : Nat) : Option Nat :=
  if c.parsed + 1 = c.imageRecords ∧ offset + 1 + freeze ≤ Config.imageMax then some (offset + 1 + freeze) else c.imageEnd

/-- R131 steps 3 and 4: one byte of a record. -/
def parseRecordByte (e : Env) (b : Bay) (offset : Nat) (x : Byte) (l : Live) : Live :=
  let bytes := (l.bay b).frd.partialBytes ++ [x]
  let l1 := l.modFrd b fun c => { c with partialBytes := bytes }
  match freezeLength bytes with
  | none => l1
  | some n =>
    if 16 < n then abortRead e b .badImage l1
    else
      let l2 := if bytes.length = 6 then l1.modFrd b fun c => { c with imageEnd := imageEndAt c offset n } else l1
      if bytes.length = 6 + n then completeRecord e b bytes l2 else l2

/-- R131: one byte of the image, at its offset. Of the record count, the first byte waits where a partial record would: DESIGN
CHOICE (log entry 28). -/
def parseByte (e : Env) (b : Bay) (offset : Nat) (x : Byte) (l : Live) : Live :=
  match offset with
  | 0 =>
    if x = 0x00#8 then completeRead e b l
    else if x = 0x5A#8 then l
    else abortRead e b .badImage l
  | 1 => l.modFrd b fun c => { c with partialBytes := [x] }
  | 2 =>
    let count := num16 ((l.bay b).frd.partialBytes.headD 0) x
    let l1 := l.modFrd b fun c => { c with partialBytes := [] }
    if 255 < count then abortRead e b .badImage l1
    else if count = 0 then completeRead e b l1
    else l1.modFrd b fun c => { c with imageRecords := count }
  | _ => parseRecordByte e b offset x l

/-- R131: the bytes taken are parsed in order while the read goes on; a need for offset 1,024 is an OVERFLOW. -/
def parseBytes (e : Env) (b : Bay) : Nat → List Byte → Live → Live
  | offset, [], l =>
    if (l.bay b).frd.status = .reading ∧ Config.imageMax ≤ offset then abortRead e b .overflow l else l
  | offset, x :: rest, l =>
    if (l.bay b).frd.status = .reading then parseBytes e b (offset + 1) rest (parseByte e b offset x l) else l

/-! ## CDATA and the end of an exchange (R135, R136, R144) -/

/-- R135: FRD takes the bytes of a CDATA. -/
def takeChunk (e : Env) (b : Bay) (offset : Nat) (bytes : List Byte) (l : Live) : Live :=
  let l1 := l.modFrd b fun c => { c with readPoint := offset + bytes.length }
  let l2 := parseBytes e b offset bytes l1
  if (l2.bay b).frd.status = .reading then placeChunk b l2 else l2

/-- R135: a CDATA reaches FRD. -/
def frdCdata (e : Env) (b : Bay) (offset : Nat) (data : List Byte) (l : Live) : Live :=
  let c := (l.bay b).frd
  match c.status, c.current with
  | .reading, some (.crd o n) => if o = offset ∧ data ≠ [] then takeChunk e b offset (data.take n) l else l
  | _, _ => l

/-- R144: a CDONE reaches FRD. -/
def frdCdone (e : Env) (b : Bay) (l : Live) : Live :=
  if (l.bay b).frd.status = .clearing then startRead e b l else l

/-- How an exchange ended: in a miss, or in a reply with its content (R136). -/
inductive ExchangeEnd where
  | miss
  | reply (c : ReplyContent)
  deriving DecidableEq, Repr

/-- R136: one more failed answer for the current chunk; `again` places the same CRD. -/
def countAttempt (e : Env) (b : Bay) (again : Bool) (f : JobFrame) (l : Live) : Live :=
  let l1 := l.modFrd b fun c => { c with attempts := c.attempts + 1 }
  if 3 ≤ (l1.bay b).frd.attempts then abortRead e b .coachSilent l1
  else if again then placeFrd b f l1
  else l1

/-- R136: one more CBUSY for the current chunk. -/
def countBusy (e : Env) (b : Bay) (f : JobFrame) (l : Live) : Live :=
  let l1 := l.modFrd b fun c => { c with busy := c.busy + 1 }
  if 20 < (l1.bay b).frd.busy then abortRead e b .coachBusy l1 else placeFrd b f l1

/-- R144: the frame that follows one FRD frame answered while CLEARING. -/
def clearFrame (f : JobFrame) (c : ReplyContent) : JobFrame :=
  match f, c with
  | .cclr, .cbusy => .cclr
  | .cclr, .cnak => .cclr
  | _, _ => .cqry

/-- R136, R144: the end of an exchange that carried FRD's current frame is settled. -/
def settleFrd (e : Env) (b : Bay) (f : JobFrame) (x : ExchangeEnd) (l : Live) : Live :=
  match (l.bay b).frd.status, x with
  | .reading, .reply .cbusy => countBusy e b f l
  | .reading, .reply _ => countAttempt e b true f l
  | .reading, .miss => countAttempt e b false f l
  | .clearing, .reply c => placeFrd b (clearFrame f c) l
  | _, _ => l

/-- R136: BLM announces the end of an exchange to FRD. -/
def frdExchangeEnd (e : Env) (b : Bay) (x : ExchangeEnd) (l : Live) : Live :=
  let c := (l.bay b).frd
  match c.carried, c.current with
  | true, some f => settleFrd e b f x (l.modFrd b fun c => { c with carried := false })
  | _, _ => l

/-! ## Alerts, identification, the clear timer (R145, R147, R148) -/

/-- R147: a rising alert starts a read. -/
def alertStarts (r : BayRec) (alert : Bool) : Bool :=
  alert && !r.frd.alertSeen && r.btb.occupancy == .occupied && !r.btb.profileMissing && !r.frd.status.inProgress

/-- R147: FRD judges the alert of a PSTAT and then records it. -/
def frdPstat (e : Env) (b : Bay) (alert : Bool) (l : Live) : Live :=
  (if alertStarts (l.bay b) alert then startRead e b l else l).modFrd b fun c => { c with alertSeen := alert }

/-- R148: BTB tells FRD that the bay has become OCCUPIED. -/
def frdOccupied (e : Env) (b : Bay) (l : Live) : Live :=
  let l1 := evalFaultGate e true b (l.modFrd b fun c => { c with alertSeen := false, clearTimer := 0 })
  if e.params.autoRead ∧ (l1.bay b).btb.profileMissing = false ∧ (l1.bay b).frd.status ≠ .complete then startRead e b l1
  else l1

/-- R145: the clear timer of a bay reaches 0. -/
def clearExpires (e : Env) (b : Bay) (l : Live) : Live :=
  abortRead e b .clearTimeout (l.modFrd b fun c => { c with clearTimer := 0 })

/-- R145: one second tick for one bay. -/
def frdTickBay (e : Env) (b : Bay) (l : Live) : Live :=
  let c := (l.bay b).frd
  if c.status = .clearing then
    if c.clearTimer ≤ 1 then clearExpires e b l else l.modFrd b fun c => { c with clearTimer := c.clearTimer - 1 }
  else l

/-- R145: a second tick. By ascending number: DESIGN CHOICE (log entry 37). -/
def frdTick (e : Env) (l : Live) : Live := forBays allBays (frdTickBay e) l

/-! ## Operations (R133, R144, R146) -/

/-- R133 checks 2 to 4. -/
def readable (r : BayRec) : Bool :=
  r.btb.occupancy == .occupied && !r.btb.profileMissing && !r.frd.status.inProgress

/-- R133: FAULT READ. -/
def faultRead (e : Env) (b : Bay) (l : Live) : Status × Live :=
  if readable (l.bay b) then (.done, startRead e b l) else (.state, l)

/-- R144: FAULT CLEAR. -/
def faultClear (e : Env) (b : Bay) (l : Live) : Status × Live :=
  if readable (l.bay b) then
    (.done, evalFaultGate e true b
      ((placeFrd b .cclr l).modFrd b fun c => { c with status := .clearing, cause := .none, clearTimer := 30 }))
  else (.state, l)

/-- R146: FAULT FLUSH. -/
def faultFlush (e : Env) (b : Bay) (l : Live) : Status × Live :=
  if (l.bay b).btb.occupancy = .occupied ∧ (l.bay b).frd.status.inProgress = false then
    (.done, evalFaultGate e true b ((emptyList b l).modFrd b fun c => { c with status := .none, cause := .none }))
  else (.state, l)

end Sys2Proof.Machine
end

