-- ==== Sys2Proof/Machine/BayTable.lean ====
section
/-! DEFINITION. BTB: plug observation, identification, the Parked Coach Cache, teardown, enable and disable (chapter 1). -/
namespace Sys2Proof.Machine

/-! ## Identification (R3 to R6, R9) -/

/-- R3 step 2, R9: an IDENT is placed; one already in the slot stays there and is not duplicated. -/
def placeIdent (b : Bay) (l : Live) : Live :=
  match (l.bay b).blm.job with
  | some ⟨.ident, _⟩ => l
  | _ => placeJob b .ident l

/-- R3: identification begins. -/
def beginIdent (b : Bay) (l : Live) : Live :=
  placeIdent b (l.modBtb b fun r =>
    { r with coach := 0, attempts := 0, identFailed := false, dupCoach := false, profileMissing := false })

/-- R4: identification is in progress. -/
def identifying (r : BtbPart) : Bool := r.occupancy == .plugged && !r.identFailed && !r.dupCoach

/-- R4: identification gives up. -/
def giveUpIdent (e : Env) (b : Bay) (l : Live) : Live :=
  withdrawJob b .btb (addBayReason e b .ident (l.modBtb b fun r => { r with attempts := 3, identFailed := true }))

/-- R4: the end of an exchange that carried IDENT is counted while identification is in progress, and IDENT placed again
where a reply took it away. That an IDRP which answered another frame is not counted is DEDUCED (log entry 15); that the exchange of an
IDRP found duplicate, which has ended identification, is not counted is a DESIGN CHOICE (log entry 42). -/
def btbExchangeEnd (e : Env) (b : Bay) (carriedIdent : Bool) (l : Live) : Live :=
  let r := (l.bay b).btb
  if carriedIdent ∧ identifying r = true then
    if 3 ≤ r.attempts + 1 then giveUpIdent e b l
    else placeIdent b (l.modBtb b fun r => { r with attempts := r.attempts + 1 })
  else l

/-- R5 step 2: another OCCUPIED bay holds the coach id. -/
def heldElsewhere (l : Live) (b : Bay) (coach : Nat) : Bool :=
  allBays.any fun c => c != b && (l.bay c).btb.occupancy == .occupied && (l.bay c).btb.coach == coach

/-- R5 step 2: the bay is marked DUP_COACH. -/
def markDuplicate (e : Env) (b : Bay) (coach : Nat) (profile : Fin 8) (l : Live) : Live :=
  withdrawJob b .btb (addBayReason e b .ident
    (l.modBtb b fun r => { r with coach := coach, profile := profile, dupCoach := true }))

/-- R19: the slot that holds a coach id is evicted. -/
def evictCoach (coach : Nat) (l : Live) : Live :=
  match l.cache.find? fun x => x.coach == coach with
  | none => l
  | some x => freeCells (heldCells x.list) { l with cache := l.cache.eraseP fun y => y.coach == coach }

/-- R20: a slot's results become the bay's and the slot leaves the cache; no cell passes through the pool but those of a list
the bay held, which is empty. -/
def divertSlot (b : Bay) (x : ParkedSlot) (l : Live) : Live :=
  let l1 := freeCells (heldCells (l.bay b).frd.list) { l with cache := l.cache.eraseP fun y => y.coach == x.coach }
  (l1.modLsw b fun s => { s with map := x.map }).modFrd b fun c =>
    { c with list := x.list, lost := x.lost, status := x.status, cause := x.cause, blocking := x.blocking }

/-- R20: the accepted coach is looked up in the cache; `true` when its slot was diverted. -/
def lookUpCoach (b : Bay) (coach : Nat) (profile : Fin 8) (l : Live) : Live × Bool :=
  match l.cache.find? fun x => x.coach == coach with
  | none => (l, false)
  | some x => if x.profile = profile then (divertSlot b x l, true) else (evictCoach coach l, false)

/-- R7, R8: the amount of the base share requested at identification. -/
def baseAmount (e : Env) (profile : Fin 8) : Nat :=
  if e.tables.profiles[profile].valid then e.tables.profiles[profile].baseLoad else 0

/-- R6: an identity is accepted. Of the blocks told at step 6 LSW is first: DESIGN CHOICE (log entry 43). -/
def acceptIdentity (e : Env) (b : Bay) (coach : Nat) (profile : Fin 8) (l : Live) : Live :=
  let l1 := withdrawJob b .btb (l.modBtb b fun r =>
    { r with coach := coach, profile := profile, dupCoach := false, identFailed := false })
  let s := lookUpCoach b coach profile l1
  let l2 := addBayReason e b .ident (s.1.modBtb b fun r =>
    { r with occupancy := .occupied, profileMissing := !e.tables.profiles[profile].valid })
  let l3 := requestShare e b .base (baseAmount e profile) l2
  frdOccupied e b (lswOccupied e s.2 b (dpcOccupied e b l3))

/-- R5: BTB takes an IDRP. -/
def takeIdrp (e : Env) (b : Bay) (coach : Nat) (profile : Fin 8) (l : Live) : Live :=
  if (l.bay b).btb.occupancy = .plugged then
    if coach = 0 then l
    else if heldElsewhere l b coach then markDuplicate e b coach profile l
    else acceptIdentity e b coach profile l
  else l

/-- R9: IDENT for a bay. -/
def ident (b : Bay) (l : Live) : Status × Live :=
  if (l.bay b).btb.occupancy = .plugged then (.done, beginIdent b l) else (.state, l)

/-! ## Teardown (R10 to R12, R16) -/

/-- R11, R16: the slot a coach is parked in. -/
def parkedSlot (e : Env) (r : BayRec) : ParkedSlot :=
  { coach := r.btb.coach, profile := r.btb.profile, map := r.lsw.map, list := r.frd.list, lost := r.frd.lost,
    status := r.frd.status, cause := r.frd.cause, blocking := r.frd.blocking, parkedMinute := e.clock.minute }

/-- R16: the coach is parked; the oldest slot is evicted from a full cache first. The cells move with the list. That the counts left
to the bay are 0 is a DESIGN CHOICE (log entry 46). -/
def parkCoach (e : Env) (b : Bay) (l : Live) : Live :=
  let l1 := if Config.cacheMax ≤ l.cache.length then evictOldest l else l
  { (l1.modFrd b fun c => { c with list := [], blocking := 0, lost := 0 }) with
    cache := l1.cache ++ [parkedSlot e (l.bay b)] }

/-- R11: the coach is parked. -/
def parks (e : Env) (r : BayRec) (purpose : Purpose) : Bool :=
  r.btb.occupancy == .occupied && purpose != .depart && e.params.holdTime != 0

/-- R10 step 7, R11: the coach is parked or forgotten. That the counts of a forgotten list become 0 is a DESIGN CHOICE
(log entry 46). -/
def parkOrForget (e : Env) (purpose : Purpose) (b : Bay) (l : Live) : Live :=
  if parks e (l.bay b) purpose then parkCoach e b l else emptyList b l

/-- R10 step 8, R66, R90, R143: the bay is VACANT. DPC is not told of the two gates. -/
def vacate (e : Env) (b : Bay) (l : Live) : Live :=
  let l1 := l.modBtb b fun r =>
    { r with occupancy := .vacant, coach := 0, attempts := 0, identFailed := false, dupCoach := false, profileMissing := false,
             purpose := .none }
  let l2 := l1.modLsw b fun s => { s with map := untestedMap, gate := false }
  let l3 := l2.modFrd b fun c => { c with status := .none, cause := .none, gate := false }
  let l4 := l3.modScv b fun c => { c with held := none, age := Config.cabinAgeMax }
  addBayReason e b .plug l4

/-- R12: the plug-out is a breakaway. -/
def breakaway (purpose : Purpose) (p : Pstat) : Bool := purpose == .none && !p.latchReleased

/-- R10: the teardown, on the PSTAT that showed plug OUT. The release of the lamp share at step 1 runs a pass of its own, before the
pass of the cleared row: DESIGN CHOICE (log entry 38). -/
def teardown (e : Env) (b : Bay) (p : Pstat) (l : Live) : Live :=
  let purpose := (l.bay b).btb.purpose
  let l1 := stopRead e false .plugOut b (stopSweep e false false b l)
  let l2 := clearRow e b l1
  let l3 := if (l2.bay b).php.state = .none then l2 else leavePlan e true b l2
  let l4 := l3.modBlm b fun m => { m.clearFrames with desired := .off, dirty := true }
  let l5 := parkOrForget e purpose b (settleEntry e purpose b l4)
  let l6 := vacate e b l5
  if breakaway purpose p then addBayReason e b .breakaway l6 else l6

/-! ## Plug observation (R2) -/

/-- R2: a plug seen IN makes the bay PLUGGED. -/
def plugIn (e : Env) (b : Bay) (l : Live) : Live :=
  beginIdent b (addBayReason e b .plug (l.modBtb b fun r => { r with occupancy := .plugged }))

/-- R2, Table 1-2: BTB uses a PSTAT. -/
def btbPstat (e : Env) (b : Bay) (p : Pstat) (l : Live) : Live :=
  match (l.bay b).btb.occupancy, p.plugIn with
  | .unknown, true => plugIn e b l
  | .unknown, false => addBayReason e b .plug (l.modBtb b fun r => { r with occupancy := .vacant })
  | .vacant, true => plugIn e b l
  | .vacant, false => l
  | .plugged, false => teardown e b p l
  | .plugged, true => l
  | .occupied, false => teardown e b p l
  | .occupied, true => l
  | .disabled, _ => l

/-! ## The minute event (R17) -/

/-- R16: the age of a slot. -/
def ParkedSlot.age (e : Env) (x : ParkedSlot) : Int := distance e.clock.minute x.parkedMinute

/-- R17: a slot is due for eviction. -/
def slotExpired (e : Env) (x : ParkedSlot) : Bool :=
  decide ((e.params.holdTime : Int) < x.age e) || e.params.holdTime == 0

/-- R17: every slot that is due is evicted. -/
def expireSlots (e : Env) (l : Live) : Live :=
  freeCells ((l.cache.filter (slotExpired e)).map fun x => heldCells x.list).sum
    { l with cache := l.cache.filter fun x => !slotExpired e x }

/-! ## Enable and disable (R14, R15) -/

/-- R38: an exchange in flight with the bay no longer counts, not even to BTB where the bay is enabled before its end: DEDUCED
(log entry 25). -/
def dropExchange (b : Bay) (l : Live) : Live :=
  match l.walk.slot with
  | some ⟨.exchange c sent, t, .counts⟩ =>
    if c = b then { l with walk := { l.walk with slot := some ⟨.exchange c sent, t, .bayDisabled⟩ } } else l
  | _ => l

/-- R14 step 3. The most recent exchange stands: DESIGN CHOICE (log entry 32). -/
def performDisable (b : Bay) (l : Live) : Live :=
  let l1 := l.modBlm b fun m =>
    { m.clearFrames with link := .unheard, missCount := 0, turn := .office, desired := .off, dirty := false }
  let l2 := l1.modBtb b fun r =>
    { r with coach := 0, attempts := 0, identFailed := false, dupCoach := false, profileMissing := false, purpose := .none,
             occupancy := .disabled }
  dropExchange b (l2.modScv b fun c => { c with held := none, age := Config.cabinAgeMax })

/-- R14: BAY DISABLE for a bay. -/
def bayDisable (b : Bay) (l : Live) : Status × Live :=
  let o := (l.bay b).btb.occupancy
  if o = .plugged ∨ o = .occupied ∨ o = .disabled then (.state, l)
  else if (boundEntry l b).isSome then (.taken, l)
  else (.done, performDisable b l)

/-- R15: BAY ENABLE for a bay. -/
def bayEnable (b : Bay) (l : Live) : Status × Live :=
  if (l.bay b).btb.occupancy = .disabled then
    (.done, (l.modBtb b fun r => { r with occupancy := .unknown }).modBlm b fun m =>
      { m with link := .unheard, missCount := 0, turn := .office, dirty := true })
  else (.state, l)

end Sys2Proof.Machine
end

