-- ==== Sys2Proof/Machine/Samples.lean ====
section
/-! DEFINITION. SCV: the checks, normalization, conversion and dispatch of a sample; cabin ages (chapter 4). -/
namespace Sys2Proof.Machine

/-- The channel of a sample (R59 check 1, section 11.3). -/
inductive Channel where
  | cabin | lamp
  deriving DecidableEq, Repr

/-- R59 check 1, R176: channel values 2 and 3 are malformed. -/
def channelOf (flags : Byte) : Option Channel :=
  match bitField flags 0 2 with
  | 0 => some .cabin
  | 1 => some .lamp
  | _ => none

/-- R59 check 2, R176: resolution values 2 and 3 are malformed; `true` is 12 bits. -/
def resolutionOf (flags : Byte) : Option Bool :=
  match bitField flags 2 2 with
  | 0 => some false
  | 1 => some true
  | _ => none

/-- R61: an 8-bit code on the 12-bit scale, and whether it is OVERRANGE. -/
def normalize8 (code : Nat) : Nat × Bool :=
  if 255 ≤ code then (4095, true) else if code = 0 then (0, false) else (16 * code + 8, false)

/-- R62: a 12-bit code, and whether it is OVERRANGE. -/
def normalize12 (code : Nat) : Nat × Bool := if 4095 ≤ code then (4095, true) else (code, false)

/-- R61, R62. -/
def normalize (res12 : Bool) (code : Nat) : Nat × Bool := if res12 then normalize12 code else normalize8 code

/-- R63: the cabin temperature of a normalized code. -/
def cabinTemperature (p : Params) (n : Nat) : Int := max (-80) (min 99 ((n * p.cabinSpan / 4096 : Nat) + p.cabinOffset))

/-- R68: the lamp current of a normalized code on a range. -/
def lampCurrent (p : Params) (high : Bool) (n : Nat) : Nat :=
  n * (if high then p.fullScaleHigh else p.fullScaleLow) / 4096

/-- R64: a cabin sample at dispatch. -/
def takeCabin (e : Env) (b : Bay) (n : Nat) (overrange : Bool) (l : Live) : Live :=
  let o := (l.bay b).btb.occupancy
  if (o = .plugged ∨ o = .occupied) ∧ overrange = false then
    let t := cabinTemperature e.params n
    cabinSample e b t (l.modScv b fun c => { c with held := some t, age := 0 })
  else l

/-- R68, R69: a lamp sample at dispatch is converted on the drive range and handed to LSW. -/
def takeLamp (e : Env) (b : Bay) (tag n : Nat) (overrange : Bool) (l : Live) : Live :=
  lampSample e b tag (lampCurrent e.params (l.bay b).scv.driveHigh n) overrange l

/-- R59, R60, R70: SCV takes an SMP. -/
def takeSample (e : Env) (b : Bay) (flags tag : Byte) (code : Nat) (l : Live) : Live :=
  match channelOf flags, resolutionOf flags with
  | some channel, some res12 =>
    if bitAt flags 4 then
      let n := normalize res12 code
      match channel with
      | .cabin => takeCabin e b n.1 n.2 l
      | .lamp => takeLamp e b (bitField tag 0 4) n.1 n.2 l
    else l
  | _, _ => { l with sampleRejects := bump l.sampleRejects }

/-- R65: the age of a bay rises at a minute event, and PHP is told of a STALE onset. -/
def ageBay (e : Env) (b : Bay) (l : Live) : Live :=
  let age := (l.bay b).scv.age
  let l1 := l.modScv b fun c => { c with age := bumpTo Config.cabinAgeMax c.age }
  if age + 1 = Config.staleAge then cabinStaleOnset e b l1 else l1

/-- R65: SCV at a minute event. Bay by bay, each onset told before the next bay is aged: DESIGN CHOICE (log entry 37). -/
def scvMinute (e : Env) (l : Live) : Live := forBays allBays (ageBay e) l

end Sys2Proof.Machine
end

