-- ==== Sys2Proof/Machine/Trunk.lean ====
section
/-! DEFINITION. TSW's queues, counters, route decisions and up frames (chapter 3). -/
namespace Sys2Proof.Machine

/-! ## Counters (R55) -/

/-- Change TSW's state. -/
def Live.modTsw (l : Live) (f : TswState → TswState) : Live := { l with tsw := f l.tsw }

/-- Change the counters of a port. -/
def TswState.modCounts (p : Port) (f : PortCounts → PortCounts) (t : TswState) : TswState :=
  match p with
  | .tu => { t with tuCounts := f t.tuCounts }
  | .td => { t with tdCounts := f t.tdCounts }

/-- R42, R44, R45: one more bad frame. -/
def countBad (p : Port) (l : Live) : Live := l.modTsw (·.modCounts p fun c => { c with badFrame := bump c.badFrame })

/-- R46: one more frame whose hops had expired. -/
def countHop (p : Port) (l : Live) : Live := l.modTsw (·.modCounts p fun c => { c with hopExpired := bump c.hopExpired })

/-- R44, R46, R54: one more overflow. -/
def countOverflow (p : Port) (l : Live) : Live := l.modTsw (·.modCounts p fun c => { c with overflow := bump c.overflow })

/-! ## Relaying (R46) -/

/-- The forward queue toward a port. -/
def TswState.queue (t : TswState) : Port → List TrunkFrame
  | .tu => t.tuQueue
  | .td => t.tdQueue

/-- A frame joins the forward queue toward a port. -/
def TswState.append (p : Port) (f : TrunkFrame) (t : TswState) : TswState :=
  match p with
  | .tu => { t with tuQueue := t.tuQueue ++ [f] }
  | .td => { t with tdQueue := t.tdQueue ++ [f] }

/-- The opposite port. -/
def oppositePort : Port → Port
  | .tu => .td
  | .td => .tu

/-- R46 steps 3 and 4; a loss counts against port `counted`. -/
def offerForward (toward counted : Port) (f : TrunkFrame) (l : Live) : Live :=
  if Config.forwardQueueMax ≤ (l.tsw.queue toward).length then countOverflow counted l else l.modTsw (·.append toward f)

/-- Table 3-1: a frame relayed toward a port runs with the trunk. -/
def runsWithTrunk (row : Nat) (toward : Port) (dr : Nat) : Bool :=
  match toward with
  | .td => decide (row < dr)
  | .tu => decide (dr < row)

/-- R46, R56: a frame that arrived at a port is relayed; an unaddressed part leaves HOP alone. -/
def relay (p : Straps) (arrival : Port) (f : TrunkFrame) (l : Live) : Live :=
  let toward := oppositePort arrival
  if toward = .td ∧ p.endOfTrunk = true then l
  else if p.addressed = false ∨ runsWithTrunk p.row.val toward f.dr = true then offerForward toward arrival f l
  else if f.hop = 0 then countHop arrival l
  else offerForward toward arrival { f with hop := f.hop - 1 } l

/-! ## Down decisions (R52, R53) -/

/-- R51: the route entry of an office kind. -/
def routeEntry (e : Env) (kind : Byte) : RouteEntry := (e.tables.route[kind.toNat - 0x20]?).getD .reset

/-- R52 step 3: the mask flag of an entry for an occupancy; a DISABLED bay has none. -/
def RouteEntry.admits (r : RouteEntry) : Occupancy → Bool
  | .unknown => r.maskUnknown
  | .vacant => r.maskVacant
  | .plugged => r.maskPlugged
  | .occupied => r.maskOccupied
  | .disabled => false

/-- R33: BLM accepts an offer. -/
def acceptsOffer (m : BlmPart) (payload : List Byte) : Bool :=
  decide (m.queue.length < Config.outboundQueueMax) && decide (payload.length ≤ Config.bayPayloadMax)

/-- R52: a refusal is recorded for the bay. -/
def refuseDown (e : Env) (b : Bay) (kind : Byte) (l : Live) : Live :=
  addBayReason e b .downRefused (l.modBtb b fun r => { r with lastRefused := kind })

/-- R52: the down decision for one bay. -/
def downDecision (e : Env) (kind : Byte) (payload : List Byte) (b : Bay) (l : Live) : Live :=
  let r := routeEntry e kind
  if r.downPass = false then l
  else if r.admits (l.bay b).btb.occupancy = true ∧ acceptsOffer (l.bay b).blm payload = true then
    l.modBlm b fun m => { m with queue := m.queue ++ [{ kind := kind, payload := payload }] }
  else refuseDown e b kind l

/-- R53: the down decision for each bay that is not DISABLED. By ascending number: DESIGN CHOICE (log entry 37). -/
def downAll (e : Env) (kind : Byte) (payload : List Byte) (l : Live) : Live :=
  forBays allBays
    (fun b l => if (l.bay b).btb.occupancy = .disabled then l else downDecision e kind payload b l) l

/-- R45: a taken frame whose DB is not 0. -/
def takeForBay (e : Env) (arrival : Port) (f : TrunkFrame) (l : Live) : Live :=
  if 16 < f.db ∧ f.db ≠ 31 then countBad arrival l
  else if f.kind.toNat < 0x20 then countBad arrival l
  else
    match bayOf f.db with
    | some b => downDecision e f.kind f.payload b l
    | none => downAll e f.kind f.payload l

/-! ## Up frames (R54) -/

/-- R54: the trunk frame built from a post's office frame. -/
def upFrame (e : Env) (b : Bay) (f : OfficeFrame) : TrunkFrame :=
  { dr := 0, db := 0, sr := e.straps.row.val, sb := bayNumber b, kind := f.kind, hop := 15, payload := f.payload }

/-- R54: a post's office frame goes up, or is dropped by its route entry. -/
def sendUp (e : Env) (b : Bay) (f : OfficeFrame) (l : Live) : Live :=
  if (routeEntry e f.kind).upPass then offerForward .tu .tu (upFrame e b f) l else l

/-! ## Management frames (R44) -/

/-- R44: a MGMT frame joins MGU's input queue. -/
def queueMgmt (arrival : Port) (payload : List Byte) (l : Live) : Live :=
  if Config.mgmtQueueMax ≤ l.mgu.queue.length then countOverflow arrival l
  else { l with mgu := { l.mgu with queue := l.mgu.queue ++ [payload] } }

end Sys2Proof.Machine
end

