-- ==== Sys2Proof/Machine/BayLine.lean ====
section
/-! DEFINITION. BLM: the walk, the choice of a frame, the end of an exchange, link states (chapter 2). -/
namespace Sys2Proof.Machine

/-! ## The choice of a frame (R27 to R29) -/

/-- R28: the job frame that waits, owned by LSW or FRD, with its sent mark. -/
def BlmPart.waitingJob (m : BlmPart) : Option JobInSlot := m.job.filter fun j => j.frame.owner != .btb

/-- R29: a sample POLL is due when the most recent exchange was no sample POLL and sample-pending was set in its reply, or in the reply
of the sample POLL just before it. That either indication is enough is a DESIGN CHOICE (log entry 35). -/
def BlmPart.samplePollDue (m : BlmPart) : Bool :=
  match m.recent with
  | .reply pending wasSamplePoll => !wasSamplePoll && (pending || m.sampleOwed)
  | .miss => m.sampleOwed
  | .none => m.sampleOwed

/-- R29, R30 step 7, R32 step 4: an exchange has ended, and is the most recent one. -/
def BlmPart.recordEnd (r : Recent) (m : BlmPart) : BlmPart := { m with recent := r, sampleOwed := m.recent == .reply true true }

/-- R28: a job frame or an office frame, if one waits. -/
def BlmPart.sharedChoice (m : BlmPart) : Option SentFrame :=
  match m.waitingJob, m.queue with
  | none, [] => none
  | some j, [] => some (.job j.frame)
  | none, f :: _ => some (.office f)
  | some j, f :: _ =>
    if j.sent then some (.job j.frame)
    else if m.headSent then some (.office f)
    else match m.turn with
      | .office => some (.job j.frame)
      | .job => some (.office f)

/-- R27: the frame an exchange with the bay carries. -/
def BlmPart.chooseFrame (m : BlmPart) : SentFrame :=
  if m.dirty then .actuate m.desired
  else if m.job.any fun j => j.frame.owner == .btb then .job .ident
  else if m.samplePollDue then .samplePoll
  else m.sharedChoice.getD .poll

/-- R28, R33, R34: what sending a frame does to the marks and the alternation memory; a frame sent again under its mark leaves
the memory alone. -/
def BlmPart.afterSend (s : SentFrame) (m : BlmPart) : BlmPart :=
  match s with
  | .job f =>
    let again := m.job.any (·.sent)
    { m with job := m.job.map fun j => { j with sent := true },
             turn := if again || f.owner == .btb then m.turn else .job }
  | .office _ => { m with headSent := true, turn := if m.headSent then m.turn else .office }
  | _ => m

/-- R84, R136: LSW and FRD count from the transmission of their frame. -/
def markCarried (b : Bay) (s : SentFrame) (l : Live) : Live :=
  match s with
  | .job f =>
    match f.owner with
    | .lsw => l.modLsw b fun t => { t with driveSent := true }
    | .frd => l.modFrd b fun c => { c with carried := true }
    | .btb => l
  | _ => l

/-! ## The walk (R24, R25) -/

/-- The walk may begin a slot: the part is addressed and the loader does not run (R24). -/
def walkRuns (e : Env) (l : Live) : Bool := e.straps.addressed && !l.mgu.loader.running

/-- R24: the bay an entry gives its turn, when it is not DISABLED. -/
def slotBay (e : Env) (l : Live) : Option Bay :=
  e.tables.poll[l.walk.pointer].target.filter fun b => (l.bay b).btb.occupancy != .disabled

/-- R24, R26: a slot begins, with an exchange or an idle interval. -/
def startSlot (e : Env) (l : Live) : Live :=
  match slotBay e l with
  | none => { l with walk := { l.walk with slot := some ⟨.idle, e.params.replyTimeout, .counts⟩ } }
  | some b =>
    let s := (l.bay b).blm.chooseFrame
    let l1 := markCarried b s (l.modBlm b (·.afterSend s))
    { l1 with walk := { l1.walk with slot := some ⟨.exchange b s, e.params.replyTimeout, .counts⟩ } }

/-- R24: the next slot begins, if none is in progress and the walk runs. -/
def beginSlot (e : Env) (l : Live) : Live :=
  if l.walk.slot.isNone ∧ walkRuns e l = true then startSlot e l else l

/-- R24: the entry behind the one just served. -/
def nextPointer (e : Env) (p : Fin 32) : Fin 32 := if e.tables.poll[p].last ∨ p = 31 then 0 else p + 1

/-- R24, R25, R40: the slot in progress ends and the pointer moves on or returns to entry 0. -/
def endSlot (e : Env) (fate : SlotFate) (l : Live) : Live :=
  { l with walk :=
    { pointer := if l.walk.restart ∨ fate = .rowReset then 0 else nextPointer e l.walk.pointer, restart := false, slot := none } }

/-! ## The end of an exchange in a reply (R30, R31, R36) -/

/-- R30 step 1. -/
def BlmPart.heard (m : BlmPart) : BlmPart := { m with missCount := 0, link := .online }

/-- The actuals a PSTAT reports. -/
def Pstat.actuators (p : Pstat) : Actuators := { heater := p.heaterOn, latch := p.latchReleased, contactor := p.contactorClosed }

/-- R30 step 2, R37: the actuals are recorded and compared with the desired state. -/
def BlmPart.compare (p : Pstat) (m : BlmPart) : BlmPart :=
  { m with plugIn := p.plugIn, actual := p.actuators, dirty := m.desired != p.actuators }

/-- R30 step 3: the PSTAT is handed on, to BTB first. Behind it DPC, then PHP, then FAL, then FRD acts (R153, R147): DESIGN CHOICE
(log entry 50). -/
def handPstat (e : Env) (b : Bay) (p : Pstat) (l : Live) : Live :=
  frdPstat e b p.alert (falPstat e b p.contactorClosed (phpPstat b p.heaterOn (dpcPstat e b p.latchReleased (btbPstat e b p l))))

/-- R30 step 4: the frame sent is removed, if it still is in its place with its mark. -/
def BlmPart.removeAnswered (s : SentFrame) (m : BlmPart) : BlmPart :=
  match s with
  | .job f => if m.job = some ⟨f, true⟩ then m.emptySlot else m
  | .office f => if m.headSent ∧ m.queue.head? = some f then { m with queue := m.queue.tail, headSent := false } else m
  | _ => m

/-- R31: the content is delivered by its kind. -/
def deliver (e : Env) (b : Bay) (c : ReplyContent) (l : Live) : Live :=
  match c with
  | .stat => l
  | .idrp coach profile => takeIdrp e b coach profile l
  | .smp flags tag code => takeSample e b flags tag code l
  | .cdata offset data => frdCdata e b offset data l
  | .cbusy => l
  | .cnak => l
  | .cdone => frdCdone e b l
  | .office f => sendUp e b f l

/-- R36: the link has returned to ONLINE. -/
def linkReturn (e : Env) (was : Link) (b : Bay) (l : Live) : Live :=
  let l1 := l.modBlm b fun m => { m with dirty := true }
  match was with
  | .online => l
  | .unheard => l1
  | .silent => addBayReason e b .online l1

/-- R30 step 7, R32 step 4: the end of an exchange is announced. BTB, then LSW, then FRD acts on it: DESIGN CHOICE (log entry 43). -/
def announceEnd (e : Env) (b : Bay) (s : SentFrame) (x : ExchangeEnd) (l : Live) : Live :=
  frdExchangeEnd e b x (lswExchangeEnd e b (btbExchangeEnd e b (s == .job .ident) l))

/-- R30: an exchange ends in a reply. -/
def handleReply (e : Env) (b : Bay) (s : SentFrame) (r : Reply) (l : Live) : Live :=
  let was := (l.bay b).blm.link
  let l1 := l.modBlm b fun m => m.heard.compare r.pstat
  let l2 := (handPstat e b r.pstat l1).modBlm b (·.removeAnswered s)
  let l3 := linkReturn e was b (deliver e b r.content l2)
  let l4 := l3.modBlm b (·.recordEnd (.reply r.pstat.samplePending (s == .samplePoll)))
  announceEnd e b s (.reply r.content) l4

/-! ## The end of an exchange in a miss (R32, R35) -/

/-- R35: the link becomes SILENT; LSW, then FRD, then DPC acts: DESIGN CHOICE (log entry 48). -/
def goSilent (e : Env) (b : Bay) (l : Live) : Live :=
  let l1 := addBayReason e b .silent (l.modBlm b fun m => { m with link := .silent })
  judge e b (stopRead e true .postSilent b (stopSweep e true true b l1))

/-- R32: an exchange ends as a miss. -/
def handleMiss (e : Env) (b : Bay) (s : SentFrame) (l : Live) : Live :=
  let l1 := l.modBlm b fun m => { m with missCount := bumpTo 15 m.missCount }
  let m := (l1.bay b).blm
  let l2 := if m.link ≠ .silent ∧ e.params.missLimit ≤ m.missCount then goSilent e b l1 else l1
  announceEnd e b s .miss (l2.modBlm b (·.recordEnd .miss))

/-! ## The slot in progress ends -/

/-- The exchange in flight, if one is: its bay, its frame and whether its end counts. -/
def exchangeInFlight (l : Live) : Option (Bay × SentFrame × SlotFate) :=
  match l.walk.slot with
  | some ⟨.exchange b s, _, fate⟩ => some (b, s, fate)
  | _ => none

/-- R26, R32, R38, R40: the exchange in flight ends as a miss. -/
def slotMiss (e : Env) (l : Live) : Live :=
  match exchangeInFlight l with
  | none => l
  | some (b, s, .counts) => endSlot e .counts (handleMiss e b s l)
  | some (_, _, fate) => endSlot e fate l

/-- R26, R30, R38, R40: the exchange in flight ends with the bytes received. -/
def slotReply (e : Env) (bytes : List Byte) (l : Live) : Live :=
  match exchangeInFlight l with
  | none => l
  | some (b, s, .counts) =>
    match parseReply b bytes with
    | some r => endSlot e .counts (handleReply e b s r l)
    | none => endSlot e .counts (handleMiss e b s l)
  | some (_, _, fate) => endSlot e fate l

/-- R24: the idle interval ends. -/
def slotIdleEnd (e : Env) (l : Live) : Live :=
  match l.walk.slot with
  | some ⟨.idle, _, fate⟩ => endSlot e fate l
  | _ => l

end Sys2Proof.Machine
end

