-- ==== Sys2Proof/Machine/Snapshots.lean ====
section
/-! DEFINITION. What the office sees: table entries, snapshots and READ items as bytes (R167, R173, sections 11.4 to 11.6). -/
namespace Sys2Proof.Machine

/-- A byte made of flags and fields. -/
def flagByte (bits : List Bool) : Byte := byteOf (packBits bits)

/-- Two nibbles, the high one first. -/
def nibbles (hi lo : Nat) : Byte := byteOf (hi % 16 * 16 + lo % 16)

/-- A number as so many bits, bit 0 first. -/
def bitsOf (n : Nat) : Nat → List Bool
  | 0 => []
  | k + 1 => decide (n % 2 = 1) :: bitsOf (n / 2) k

/-! ## Codes -/

/-- FILTER actions (Table 11-6). -/
def FaultAction.code : FaultAction → Nat
  | .block => 0
  | .advise => 1
  | .ignore => 2

/-- Table ids (section 11.5). -/
def TableId.code : TableId → Nat
  | .route => 1
  | .poll => 2
  | .profile => 3
  | .lamp => 4
  | .filter => 5
  | .rowparam => 6

/-- The table a table id names. -/
def tableOf (b : Byte) : Option TableId :=
  match b.toNat with
  | 1 => some .route
  | 2 => some .poll
  | 3 => some .profile
  | 4 => some .lamp
  | 5 => some .filter
  | 6 => some .rowparam
  | _ => none

/-- Entries of a table (Table 10-2). -/
def TableId.size : TableId → Nat
  | .route => 224
  | .poll => 32
  | .profile => 8
  | .lamp => 768
  | .filter => 64
  | .rowparam => 1

/-- Bytes of an entry (Table 10-2). -/
def TableId.entryBytes : TableId → Nat
  | .route => 2
  | .poll => 1
  | .profile => 13
  | .lamp => 6
  | .filter => 6
  | .rowparam => 18

/-- Response statuses (section 11.4). -/
def Status.code : Status → Nat
  | .done => 0
  | .format => 1
  | .noTable => 2
  | .range => 3
  | .state => 4
  | .taken => 5
  | .duplicate => 6
  | .full => 7
  | .disabled => 8
  | .notFound => 9
  | .loading => 10

/-- Lamp results (section 11.4). -/
def LampResult.code : LampResult → Nat
  | .notTested => 0
  | .ok => 1
  | .dim => 2
  | .openCircuit => 3
  | .overLimit => 4
  | .noMeasure => 5

/-- Loader results (section 11.4). -/
def LoaderResult.code : LoaderResult → Nat
  | .ok => 0
  | .noImage => 1
  | .noack => 2
  | .overflow => 3
  | .badRecord => 4

/-- Occupancies (Table 11-7). -/
def Occupancy.code : Occupancy → Nat
  | .unknown => 0
  | .vacant => 1
  | .plugged => 2
  | .occupied => 3
  | .disabled => 4

/-- Release purposes (Table 11-7). -/
def Purpose.code : Purpose → Nat
  | .none => 0
  | .depart => 1
  | .shunt => 2

/-- Link states (Table 11-7). -/
def Link.code : Link → Nat
  | .unheard => 0
  | .online => 1
  | .silent => 2

/-- Sweep states, in the order of Table 5-4. -/
def SweepState.code : SweepState → Nat
  | .idle => 0
  | .waitPower => 1
  | .running => 2
  | .complete => 3
  | .aborted => 4

/-- Read statuses, in the order of Table 8-2. -/
def ReadStatus.code : ReadStatus → Nat
  | .none => 0
  | .reading => 1
  | .complete => 2
  | .aborted => 3
  | .clearing => 4

/-- Abort causes, none first and then in the order of Table 8-1. -/
def AbortCause.code : AbortCause → Nat
  | .none => 0
  | .badImage => 1
  | .overflow => 2
  | .coachBusy => 3
  | .coachSilent => 4
  | .postSilent => 5
  | .clearTimeout => 6
  | .plugOut => 7

/-- Heat states, in the order of Table 6-4. -/
def HeatState.code : HeatState → Nat
  | .none => 0
  | .planned => 1
  | .waitFeed => 2
  | .heating => 3
  | .maintain => 4
  | .paused => 5

/-- Share states (Table 11-7). -/
def ShareState.code : ShareState → Nat
  | .none => 0
  | .held => 1
  | .queued => 2
  | .admitted => 3

/-- Share kinds (section 11.4). -/
def ShareKind.code : ShareKind → Nat
  | .base => 0
  | .lamp => 1
  | .heat => 2

/-- Entry states (Table 11-7). -/
def EntryState.code : EntryState → Nat
  | .waiting => 0
  | .preparing => 1
  | .cleared => 2
  | .released => 3

/-- Last outcomes (Table 11-7): code and id. The id sent where there is none is 0: DESIGN CHOICE (log entry 51). -/
def LastOutcome.code : LastOutcome → Nat × Nat
  | .none => (0, 0)
  | .departed id => (1, id)
  | .uncleared id => (2, id)
  | .expired id => (3, id)

/-! ## Table entries (Table 11-6) -/

/-- A ROUTE entry. -/
def RouteEntry.encode (x : RouteEntry) : List Byte :=
  [flagByte [x.downPass, x.upPass], flagByte [x.maskUnknown, x.maskVacant, x.maskPlugged, x.maskOccupied]]

/-- A POLL entry. -/
def PollEntry.encode (x : PollEntry) : List Byte :=
  [byteOf ((match x.target with
    | some b => bayNumber b
    | none => 0) + if x.last then 128 else 0)]

/-- A PROFILE header. -/
def ProfileHeader.encode (x : ProfileHeader) : List Byte :=
  [flagByte [x.valid, x.sharedSupply]] ++ be16 x.baseLoad ++ be16 x.lampLoad ++ [nibbles x.groups x.positions] ++
    be16 x.heaterPower ++ be16 x.heatCapacity ++ be16 x.lossFactor ++ [byteOf x.margin]

/-- A LAMP entry. -/
def LampEntry.encode (x : LampEntry) : List Byte :=
  [flagByte [x.present, x.critical, x.high, x.res12, x.long], byteOf x.circuit] ++ be16 x.minimum ++ be16 x.maximum

/-- A FILTER entry. -/
def FilterEntry.encode (x : FilterEntry) : List Byte :=
  [flagByte ([x.inUse] ++ bitsOf x.action.code 2 ++ [x.storedBlocks]), byteOf x.source] ++ be16 x.codeLow ++ be16 x.codeHigh

/-- The ROWPARAM entry. -/
def Params.encode (p : Params) : List Byte :=
  [byteOf p.replyTimeout, byteOf p.missLimit, signedByte p.cabinOffset, byteOf p.cabinSpan] ++ be16 p.fullScaleLow ++
    be16 p.fullScaleHigh ++ [byteOf p.holdTime, byteOf p.tolerance, byteOf p.clearWindow, byteOf p.releaseLead] ++
    be16 p.feederLimit ++ [flagByte (bitsOf p.defaultAction.code 2 ++ [p.autoLamp, p.autoRead])] ++ be24 p.reportMask.toNat

/-- The bytes of a table's entries, as loaded. -/
def tableItems (e : Env) : TableId → List (List Byte)
  | .route => e.tables.route.toList.map RouteEntry.encode
  | .poll => e.tables.poll.toList.map PollEntry.encode
  | .profile => e.tables.profiles.toList.map ProfileHeader.encode
  | .lamp => e.tables.lamps.toList.map LampEntry.encode
  | .filter => e.tables.filter.toList.map FilterEntry.encode
  | .rowparam => [e.params.encode]

/-! ## Snapshots (R173, section 11.6) -/

/-- The row snapshot. -/
def rowSnapshot (e : Env) (l : Live) : List Byte :=
  be16 e.clock.minute ++ [byteOf e.clock.second, signedByte e.clock.outside] ++
    [flagByte [e.clock.timeStale, l.fal.overcommit, l.mgu.loader.running]] ++ be16 e.params.feederLimit ++
    be16 (committed l) ++ be16 l.pool.free ++ be16 l.pool.starved ++ [byteOf l.mgu.loader.result.code] ++
    be16 l.mgu.loader.resultWritten ++ [byteOf e.straps.row.val]

/-- Table 11-7, offsets 0 to 7: the occupancy part. -/
def BtbPart.snapshot (r : BtbPart) : List Byte :=
  [byteOf r.occupancy.code] ++ be32 r.coach ++ [byteOf r.profile.val,
    flagByte (bitsOf r.attempts 2 ++ [r.identFailed, r.dupCoach, r.profileMissing] ++ bitsOf r.purpose.code 2), r.lastRefused]

/-- Table 11-7, offsets 8 and 9: BLM. -/
def BlmPart.snapshot (m : BlmPart) : List Byte :=
  [flagByte (bitsOf m.link.code 2 ++ [false, false] ++ bitsOf m.missCount 4),
    flagByte (m.desired.bits ++ [m.dirty, m.plugIn, m.actual.latch, m.actual.heater, m.actual.contactor])]

/-- The order of a sweep as in LAMP CHECK. -/
def SweepOrder.bits (o : SweepOrder) : List Bool := [o.positionMajor, o.reverseGroup, o.reversePosition]

/-- Table 11-7, offsets 10 and 11: SCV. -/
def ScvPart.snapshot (c : ScvPart) : List Byte := [signedByte (c.held.getD (-128)), byteOf c.age]

/-- Table 11-7, offsets 12 to 21: the sweep, behind the STALE flag of SCV. -/
def LswPart.snapshot (stale : Bool) (s : LswPart) : List Byte :=
  [flagByte ([stale] ++ bitsOf s.sweep.code 3 ++ [s.gate] ++ s.order.bits), nibbles s.window.groupFirst s.window.groupLast,
    byteOf s.window.positionFirst, byteOf s.window.positionLast,
    (match s.pointer with
      | some p => nibbles p.1 p.2
      | none => 0),
    byteOf s.counts.ok, byteOf s.counts.dim, byteOf s.counts.openCircuit, byteOf s.counts.overLimit, byteOf s.counts.noMeasure]

/-- Table 11-7, offsets 22 to 28: FRD. -/
def FrdPart.snapshot (c : FrdPart) : List Byte :=
  [flagByte (bitsOf c.status.code 3 ++ [c.gate] ++ bitsOf c.cause.code 4), byteOf c.imageRecords, byteOf c.parsed,
    byteOf c.list.length, byteOf (heldCells c.list), byteOf c.blocking, byteOf c.lost]

/-- Table 11-7, offsets 29 to 32: PHP. -/
def PhpPart.snapshot (p : PhpPart) : List Byte :=
  [flagByte (bitsOf p.state.code 3 ++ [p.gate, p.unreachable, p.capped, p.staleCabin, p.late]), signedByte p.target,
    byteOf p.lead, flagByte [p.heaterReported]]

/-- The three share states, two bits each. -/
def FalPart.stateBits (f : FalPart) : List Bool :=
  bitsOf f.base.state.code 2 ++ bitsOf f.lamp.state.code 2 ++ bitsOf f.heat.state.code 2

/-- The three amounts, two bytes each. -/
def FalPart.amounts (f : FalPart) : List Byte := be16 f.base.amount ++ be16 f.lamp.amount ++ be16 f.heat.amount

/-- Table 11-7, offset 42: state and flags of an entry. -/
def DepEntry.stateByte (x : DepEntry) : Byte := flagByte (bitsOf x.state.code 2 ++ [x.clamped, x.mismatch, x.late, x.held])

/-- Table 11-7, offsets 40 to 42: the bound entry; the id of none is 0. The state byte beside it is 0 as well: DESIGN CHOICE
(log entry 51). -/
def entrySnapshot : Option DepEntry → List Byte
  | some x => be16 x.id ++ [x.stateByte]
  | none => [0, 0, 0]

/-- Table 11-7, offsets 43 to 46: DPC. -/
def DpcPart.snapshot (d : DpcPart) : List Byte :=
  [flagByte [d.lampGate, d.faultGate, d.heatGate, d.latchReported]] ++ be16 d.lastOutcome.code.2 ++ [byteOf d.lastOutcome.code.1]

/-- Table 11-7: the bay snapshot. -/
def baySnapshot (l : Live) (b : Bay) : List Byte :=
  let r := l.bay b
  r.btb.snapshot ++ r.blm.snapshot ++ r.scv.snapshot ++ r.lsw.snapshot (cabinStale r.scv) ++ r.frd.snapshot ++ r.php.snapshot ++
    [flagByte r.fal.stateBits] ++ r.fal.amounts ++ entrySnapshot (boundEntry l b) ++ r.dpc.snapshot

/-! ## Reports (R172, section 11.6) -/

/-- The number of a report. -/
def ReportNumber.code : ReportNumber → Nat
  | .row => 0
  | .bay b => bayNumber b

/-- R172: the payload of the RPT for a number. -/
def reportPayload (e : Env) (l : Live) (n : ReportNumber) : List Byte :=
  [byteOf n.code] ++ be24 ((l.reports.of n) &&& e.params.reportMask).toNat ++
    match n with
    | .row => rowSnapshot e l
    | .bay b => baySnapshot l b

/-! ## READ (R167, Table 10-4) -/

/-- The data bytes a response has room for: a payload of 120 bytes less tag, operation and status. -/
def responseRoom : Nat := Config.trunkPayloadMax - 3

/-- R167: the items that fit in so many bytes. -/
def fitItems : Nat → List (List Byte) → List (List Byte)
  | _, [] => []
  | room, x :: rest => if x.length ≤ room then x :: fitItems (room - x.length) rest else []

/-- An item count and the items, behind what the data opens with: DEDUCED (log entry 23). -/
def itemData (opening : List Byte) (items : List (List Byte)) : List Byte :=
  let shown := fitItems (responseRoom - opening.length - 1) items
  opening ++ [byteOf shown.length] ++ shown.flatten

/-- A stored fault record. -/
def FaultRecord.encode (r : FaultRecord) : List Byte :=
  [byteOf r.source] ++ be16 r.code ++ [byteOf r.occurrences, flagByte [r.active, r.block], byteOf r.freeze.length] ++ r.freeze

/-- The gates of a mask (Table 11-5). -/
def GateMask.bits (g : GateMask) : List Bool := [g.lamp, g.fault, g.heat]

/-- A departure entry with its distance. -/
def DepEntry.encode (e : Env) (x : DepEntry) : List Byte :=
  be16 x.id ++ be16 x.minute ++ [byteOf ((x.bay.map bayNumber).getD 0)] ++ be32 (x.coach.getD 0) ++
    [signedByte (x.target.getD (-128)), flagByte x.gates.bits, x.stateByte] ++ signed16 (x.distance e)

/-- A key: 0xFFFF is NONE. -/
def keyCode (k : Option Nat) : Nat := k.getD 0xFFFF

/-- A bay row of the allocation table. -/
def FalPart.encode (f : FalPart) : List Byte :=
  be16 (keyCode f.key) ++ [flagByte (f.stateBits ++ [f.contactorReported])] ++ f.amounts

/-- A request of the admission queue. -/
def queueItem (l : Live) (x : Bay × ShareKind) : List Byte :=
  let s := shareOf l x.1 x.2
  [byteOf (bayNumber x.1), byteOf x.2.code] ++ be16 s.amount ++ be16 (keyCode (l.bay x.1).fal.key) ++ be32 s.sequence.toNat

/-- The items of the allocation: sixteen bay rows, then the queue from its head. -/
def allocationItems (l : Live) : List (List Byte) :=
  allBays.map (fun b => (l.bay b).fal.encode) ++ l.fal.queue.map (queueItem l)

/-- A parked slot with its age and cells. -/
def ParkedSlot.encode (e : Env) (x : ParkedSlot) : List Byte :=
  be32 x.coach ++ [byteOf x.profile.val] ++ be16 x.parkedMinute ++ signed16 (x.age e) ++
    [byteOf (heldCells x.list), byteOf x.status.code, byteOf x.blocking]

/-- The nine counters. -/
def counterItems (l : Live) : List (List Byte) :=
  [l.tsw.tuCounts.badFrame, l.tsw.tuCounts.hopExpired, l.tsw.tuCounts.overflow, l.tsw.tdCounts.badFrame,
    l.tsw.tdCounts.hopExpired, l.tsw.tdCounts.overflow, l.sampleRejects, l.pool.free, l.pool.starved].map be16

/-- R167: the READ of a bay target. -/
def readBay (bay : Byte) (f : Bay → List (List Byte)) : Status × List Byte :=
  match bayOf bay.toNat with
  | some b => (.done, itemData [] (f b))
  | none => (.range, [])

/-- R167: the READ of a table. -/
def readTable (e : Env) (id hi lo count : Byte) : Status × List Byte :=
  match tableOf id with
  | none => (.noTable, [])
  | some t =>
    let start := num16 hi lo
    if t.size ≤ start then (.range, []) else (.done, itemData [] (((tableItems e t).drop start).take count.toNat))

/-- R167: a READ. A refused one carries no data, not even a count of 0: DESIGN CHOICE (log entry 24). That the OVERCOMMIT byte of the
allocation is 1 when set and 0 when clear is a DESIGN CHOICE (log entry 45). A length that does not suit
the target is FORMAT and an unknown target NO_TABLE (R177). -/
def readTarget (e : Env) (l : Live) (target : Byte) (selectors : List Byte) : Status × List Byte :=
  match target.toNat, selectors with
  | 0x01, [id, hi, lo, count] => readTable e id hi lo count
  | 0x02, [bay] => readBay bay fun b => [baySnapshot l b]
  | 0x03, [] => (.done, itemData [] [rowSnapshot e l])
  | 0x04, [bay] => readBay bay fun b => (l.bay b).lsw.map.toList.map fun r => [byteOf r.code]
  | 0x05, [bay, index, count] =>
    readBay bay fun b => (((l.bay b).frd.list.map FaultRecord.encode).drop index.toNat).take count.toNat
  | 0x06, [position, count] => (.done, itemData [] (((l.departures.map (·.encode e)).drop position.toNat).take count.toNat))
  | 0x07, [position] =>
    (.done, itemData (be16 e.params.feederLimit ++ be16 (committed l) ++ [flagByte [l.fal.overcommit]])
      ((allocationItems l).drop position.toNat))
  | 0x08, [] => (.done, itemData [] (l.cache.map (·.encode e)))
  | 0x09, [] => (.done, itemData [] (counterItems l))
  | 0x0A, [] => (.done, itemData [] [byteOf l.mgu.loader.result.code :: be16 l.mgu.loader.resultWritten])
  | _, _ => (.noTable, [])

end Sys2Proof.Machine
end

