-- ==== Sys2Proof/Machine/TableWrites.lean ====
section
/-! DEFINITION. A burst entry checked and written, and what its owning block does at once (R166, R7, R25, R91, R100, R115, R171). -/
namespace Sys2Proof.Machine

/-! ## The field checks (Table 10-2, Table 10-3, Table 11-6) -/

/-- A ROUTE entry; set bits outside the layout fail. -/
def parseRoute : List Byte → Option RouteEntry
  | [a, m] =>
    if a.toNat < 4 ∧ m.toNat < 16 then
      some { downPass := bitAt a 0, upPass := bitAt a 1, maskUnknown := bitAt m 0, maskVacant := bitAt m 1,
             maskPlugged := bitAt m 2, maskOccupied := bitAt m 3 }
    else none
  | _ => none

/-- A POLL entry; set bits outside the layout and targets 17 to 31 fail. -/
def parsePoll : List Byte → Option PollEntry
  | [a] =>
    if bitField a 5 2 = 0 ∧ bitField a 0 5 ≤ 16 then some { target := bayOf (bitField a 0 5), last := bitAt a 7 } else none
  | _ => none

/-- R166: the checks of a header marked valid. -/
def headerInRange (h : ProfileHeader) : Bool :=
  decide (h.baseLoad ≤ 400) && decide (h.lampLoad ≤ 400) && decide (1 ≤ h.groups) && decide (h.groups ≤ 8) &&
    decide (1 ≤ h.positions) && decide (h.positions ≤ 12) && decide (1 ≤ h.heaterPower) && decide (h.heaterPower ≤ 400) &&
    decide (1 ≤ h.heatCapacity) && decide (h.heatCapacity ≤ 2000) && decide (h.lossFactor ≤ 4000) && decide (h.margin ≤ 60)

/-- A PROFILE header; one marked not valid is not checked. -/
def parseProfile : List Byte → Option ProfileHeader
  | [flags, b1, b0, l1, l0, grid, p1, p0, c1, c0, k1, k0, m] =>
    let h : ProfileHeader :=
      { valid := bitAt flags 0, sharedSupply := bitAt flags 1, baseLoad := num16 b1 b0, lampLoad := num16 l1 l0,
        groups := bitField grid 4 4, positions := bitField grid 0 4, heaterPower := num16 p1 p0, heatCapacity := num16 c1 c0,
        lossFactor := num16 k1 k0, margin := m.toNat }
    if h.valid = false ∨ headerInRange h = true then some h else none
  | _ => none

/-- A LAMP entry. -/
def parseLamp : List Byte → Option LampEntry
  | [flags, circuit, n1, n0, x1, x0] =>
    let x : LampEntry :=
      { present := bitAt flags 0, critical := bitAt flags 1, high := bitAt flags 2, res12 := bitAt flags 3,
        long := bitAt flags 4, circuit := circuit.toNat, minimum := num16 n1 n0, maximum := num16 x1 x0 }
    if 1 ≤ x.circuit ∧ x.circuit ≤ 96 ∧ x.maximum ≤ 16000 ∧ x.minimum ≤ x.maximum then some x else none
  | _ => none

/-- An action code; 3 names none. -/
def actionOf (n : Nat) : Option FaultAction :=
  match n with
  | 0 => some .block
  | 1 => some .advise
  | 2 => some .ignore
  | _ => none

/-- A FILTER entry. -/
def parseFilter : List Byte → Option FilterEntry
  | [flags, source, l1, l0, h1, h0] =>
    match actionOf (bitField flags 1 2) with
    | none => none
    | some a =>
      if num16 l1 l0 ≤ num16 h1 h0 then
        some { inUse := bitAt flags 0, source := source.toNat, codeLow := num16 l1 l0, codeHigh := num16 h1 h0, action := a,
               storedBlocks := bitAt flags 3 }
      else none
  | _ => none

/-- Table 10-3: every field of the row parameters is in range. -/
def paramsInRange (p : Params) : Bool :=
  decide (1 ≤ p.replyTimeout) && decide (p.replyTimeout ≤ 15) && decide (1 ≤ p.missLimit) && decide (p.missLimit ≤ 15) &&
    decide (1 ≤ p.cabinSpan) && decide (1 ≤ p.fullScaleLow) && decide (p.fullScaleLow ≤ 16000) &&
    decide (1 ≤ p.fullScaleHigh) && decide (p.fullScaleHigh ≤ 16000) && decide (p.holdTime ≤ 120) &&
    decide (1 ≤ p.tolerance) && decide (p.tolerance ≤ 10) && decide (p.clearWindow ≤ 240) && decide (p.releaseLead ≤ 60) &&
    decide (p.feederLimit ≤ Config.feederMax)

/-- The ROWPARAM entry; it is taken when every field passes. -/
def parseParams : List Byte → Option Params
  | [timeout, miss, offset, spanByte, l1, l0, h1, h0, hold, tol, window, lead, f1, f0, options, m2, m1, m0] =>
    match actionOf (bitField options 0 2) with
    | none => none
    | some a =>
      let p : Params :=
        { replyTimeout := timeout.toNat, missLimit := miss.toNat, cabinOffset := offset.toInt, cabinSpan := spanByte.toNat,
          fullScaleLow := num16 l1 l0, fullScaleHigh := num16 h1 h0, holdTime := hold.toNat, tolerance := tol.toNat,
          clearWindow := window.toNat, releaseLead := lead.toNat, feederLimit := num16 f1 f0, defaultAction := a,
          autoLamp := bitAt options 2, autoRead := bitAt options 3,
          reportMask := BitVec.ofNat 22 ((m2.toNat * 256 + m1.toNat) * 256 + m0.toNat) }
      if paramsInRange p then some p else none
  | _ => none

/-! ## The writes -/

/-- Change the tables. -/
def Dev.modTables (d : Dev) (f : Tables → Tables) : Dev := { d with env := { d.env with tables := f d.env.tables } }

/-- Change the row parameters. -/
def Dev.modParams (d : Dev) (f : Params → Params) : Dev := { d with env := { d.env with params := f d.env.params } }

/-- Let the blocks act on what the part holds. -/
def Dev.act (d : Dev) (f : Env → Live → Live) : Dev := { d with live := f d.env d.live }

/-- R25: a POLL write sets a restart of the walk pending. -/
def pendRestart (l : Live) : Live := { l with walk := { l.walk with restart := true } }

/-- R7: the OCCUPIED bays of profile `p` whose PROFILE_MISSING the header as written changes. -/
def profileChanged (e : Env) (p : Fin 8) (l : Live) : List Bay :=
  allBays.filter fun b =>
    let r := (l.bay b).btb
    r.occupancy == .occupied && r.profile == p && e.tables.profiles[p].valid == r.profileMissing

/-- R7: PROFILE_MISSING of the bays is written. -/
def setMissing (missing : Bool) (bays : List Bay) (l : Live) : Live :=
  forBays bays (fun b l => l.modBtb b fun r => { r with profileMissing := missing }) l

/-- R7, R91, R101: the bays' profile has lost its valid header. The flag is set on every bay, LSW takes back the requests of the sweeps
that wait for power, and then each bay's sweep is aborted, its lamp gate evaluated and its plan left, by ascending number: DESIGN CHOICE
(log entry 16). -/
def profileLost (e : Env) (bays : List Bay) (l : Live) : Live :=
  let l1 := setMissing true bays l
  let waiting := waitingForPower l1 bays
  let l2 := forBays waiting (dropRequest · .lamp) l1
  forBays bays
    (fun b l => plannabilityNotice e b (evalLampGate e true b (abortLost e (waiting.filter (isQueued l1 · .lamp)) b l))) l2

/-- R7, R91, R101: the bays' profile has a valid header again: the flag is cleared on every bay, then each lamp gate is evaluated and the
plan judged, by ascending number: DESIGN CHOICE (log entry 16). -/
def profileFound (e : Env) (bays : List Bay) (l : Live) : Live :=
  forBays bays (fun b l => plannabilityNotice e b (evalLampGate e true b l)) (setMissing false bays l)

/-- R7, R91, R100: a header of profile `p` has been written. The flags and their notices, then the lamp gates, then the leads: DESIGN
CHOICE (log entry 16). -/
def profileWritten (p : Fin 8) (e : Env) (l : Live) : Live :=
  let bays := profileChanged e p l
  if e.tables.profiles[p].valid then recomputeProfile e p (evalProfileGates e p (profileFound e bays l))
  else profileLost e bays l

/-- The numbers of the ring in ascending order, row first. -/
def allNumbers : List ReportNumber := .row :: allBays.map .bay

/-- R171: the ring at a write of the report mask. -/
def maskWritten (mask : Reasons) (r : Reports) : Reports :=
  let stay := r.ring.filter fun n => r.of n &&& mask != 0
  { r with ring := stay ++ allNumbers.filter fun n => !r.ring.contains n && r.of n &&& mask != 0 }

/-- R166: the row parameters are written: all fields but B and the mask, then the clearances judged (R164), then B (R115), then
the mask (R171): DESIGN CHOICE (log entry 17). -/
def writeParams (p : Params) (d : Dev) : Dev :=
  let old := d.env.params
  let d1 := (d.modParams fun _ => { p with feederLimit := old.feederLimit, reportMask := old.reportMask }).act judgeAll
  let d2 := (d1.modParams fun q => { q with feederLimit := p.feederLimit }).act (limitWritten · old.feederLimit)
  (d2.modParams fun q => { q with reportMask := p.reportMask }).act fun _ l =>
    { l with reports := maskWritten p.reportMask l.reports }

/-- R166: an entry is checked and written, and its block acts; none when a field check fails. -/
def writeEntry (t : TableId) (i : Nat) (bytes : List Byte) (d : Dev) : Option Dev :=
  match t with
  | .route => (parseRoute bytes).map fun x => d.modTables fun s => { s with route := s.route.setIfInBounds i x }
  | .poll => (parsePoll bytes).map fun x =>
      (d.modTables fun s => { s with poll := s.poll.setIfInBounds i x }).act fun _ => pendRestart
  | .profile => (parseProfile bytes).map fun x =>
      (d.modTables fun s => { s with profiles := s.profiles.setIfInBounds i x }).act (profileWritten (Fin.ofNat 8 i))
  | .lamp => (parseLamp bytes).map fun x =>
      (d.modTables fun s => { s with lamps := s.lamps.setIfInBounds i x }).act (evalProfileGates · (Fin.ofNat 8 (i / 96)))
  | .filter => (parseFilter bytes).map fun x => d.modTables fun s => { s with filter := s.filter.setIfInBounds i x }
  | .rowparam => (parseParams bytes).map fun x => writeParams x d

/-! ## LOAD (R166) -/

/-- How a LOAD stands: the part, the entries written, and, once it has ended, its status with the table id and stop index. -/
structure LoadRun where
  dev : Dev
  written : Nat
  stop : Option (Status × Byte × Half)
  rest : List Byte

/-- R166: the entries of one record from `index` on, `remaining` of them. An index outside the table comes before an entry not
wholly inside: DESIGN CHOICE (log entry 18). -/
def loadEntries (t : TableId) (id : Byte) : Nat → Nat → LoadRun → LoadRun
  | _, 0, r => r
  | index, remaining + 1, r =>
    if t.size ≤ index then { r with stop := some (.range, id, BitVec.ofNat 16 index) }
    else if r.rest.length < t.entryBytes then { r with stop := some (.format, id, BitVec.ofNat 16 index) }
    else
      match writeEntry t index (r.rest.take t.entryBytes) r.dev with
      | none => { r with stop := some (.range, id, BitVec.ofNat 16 index) }
      | some d =>
        loadEntries t id (index + 1) remaining
          { dev := d, written := r.written + 1, stop := none, rest := r.rest.drop t.entryBytes }

/-- The start index of a record; one cut off before it is whole is a free value: DESIGN CHOICE
(log entry 4). -/
def startIndex : List Byte → Half
  | _ :: hi :: lo :: _ => BitVec.ofNat 16 (num16 hi lo)
  | short => Config.truncatedStopIndex short

/-- R166: one record. An unknown table id comes before a header cut off, and a header cut off before a start index beyond the table, which
is FORMAT where the count byte is missing: DESIGN CHOICE (log entry 41). Of a whole header the start index beyond the table comes before
a count of 0: DESIGN CHOICE (log entry 18). -/
def loadRecord (r : LoadRun) : LoadRun :=
  match r.rest with
  | [] => r
  | id :: more =>
    match tableOf id with
    | none => { r with stop := some (.noTable, id, startIndex r.rest) }
    | some t =>
      match more with
      | hi :: lo :: count :: entries =>
        let start := num16 hi lo
        if t.size ≤ start then { r with stop := some (.range, id, startIndex r.rest) }
        else if count = 0 then { r with stop := some (.format, id, startIndex r.rest) }
        else loadEntries t id start count.toNat { r with rest := entries }
      | _ => { r with stop := some (.format, id, startIndex r.rest) }

/-- R166: the records of a LOAD; the first argument bounds their number. -/
def loadRecords : Nat → LoadRun → LoadRun
  | 0, r => r
  | n + 1, r => if r.rest.isEmpty ∨ r.stop.isSome = true then r else loadRecords n (loadRecord r)

/-- R166: LOADED is reported when at least one entry was written. -/
def reportLoaded (written : Nat) (d : Dev) : Dev := if 0 < written then d.act fun e => addReason e .row .loaded else d

/-- Section 11.4: the data of a LOAD's answer. -/
def loadData (r : LoadRun) : List Byte :=
  be16 r.written ++ match r.stop with
    | none => []
    | some (_, id, index) => id :: be16 index.toNat

/-- The status of a LOAD. -/
def LoadRun.status (r : LoadRun) : Status :=
  match r.stop with
  | none => .done
  | some (s, _, _) => s

/-- R166: LOAD. -/
def runLoad (records : List Byte) (d : Dev) : Status × List Byte × Dev :=
  let r := loadRecords records.length { dev := d, written := 0, stop := none, rest := records }
  (r.status, loadData r, reportLoaded r.written r.dev)

end Sys2Proof.Machine
end

