-- ==== Sys2Proof/Machine/Loader.lean ====
section
/-! DEFINITION. The configuration loader (R174). -/
namespace Sys2Proof.Machine

/-- Change the loader. -/
def Live.modLoader (l : Live) (f : Loader → Loader) : Live := { l with mgu := { l.mgu with loader := f l.mgu.loader } }

/-- R174: the size of the configuration memory. -/
def memorySize (p : Straps) : Nat :=
  match p.memSize.val with
  | 0 => 256
  | 1 => 4096
  | 2 => 32768
  | _ => 65536

/-- R174 step 4, R25: the walk resumes at entry 0; a slot that has not ended yet ends first: DEDUCED
(log entry 19). -/
def resumeWalk (w : Walk) : Walk :=
  match w.slot with
  | none => { w with pointer := 0, restart := false }
  | some _ => { w with restart := true }

/-- R174: the run ends with a result. -/
def endLoader (result : LoaderResult) (d : Dev) : Dev :=
  d.act fun e l =>
    let l1 := l.modLoader fun m => { m with running := false, result := result, resultWritten := m.written }
    let l2 := addReason e .row .start l1
    { l2 with walk := resumeWalk l2.walk }

/-- What the loader does with a byte: goes on, or ends. -/
inductive LoaderStep where
  | more (d : Dev)
  | ended (d : Dev) (result : LoaderResult)

/-- The loader goes on in a phase. -/
def Dev.phase (d : Dev) (ph : LoaderPhase) : LoaderStep := .more { d with live := d.live.modLoader fun m => { m with phase := ph } }

/-- R174: the count byte of a record has arrived. -/
def loaderCount (t : TableId) (start count : Nat) (d : Dev) : LoaderStep :=
  if count = 0 ∨ t.size ≤ start then .ended d .badRecord else d.phase (.entry t start count [])

/-- R174, R166: the last byte of an entry has arrived. -/
def loaderEntry (t : TableId) (index remaining : Nat) (bytes : List Byte) (d : Dev) : LoaderStep :=
  match writeEntry t index bytes d with
  | none => .ended d .badRecord
  | some d1 =>
    let d2 := { d1 with live := d1.live.modLoader fun m => { m with written := m.written + 1 } }
    if remaining = 1 then d2.phase .recordTable
    else if t.size ≤ index + 1 then .ended d2 .badRecord
    else d2.phase (.entry t (index + 1) (remaining - 1) [])

/-- R174: the loader acts on a byte. -/
def loaderAct (x : Byte) (d : Dev) : LoaderStep :=
  match d.live.mgu.loader.phase with
  | .marker => if x = 0xC3#8 then d.phase .lengthHigh else .ended d .noImage
  | .lengthHigh => d.phase (.lengthLow x)
  | .lengthLow hi =>
    Dev.phase { d with live := d.live.modLoader fun m => { m with length := num16 hi x } } .recordTable
  | .recordTable =>
    match tableOf x with
    | some t => d.phase (.recordStartHigh t)
    | none => .ended d .badRecord
  | .recordStartHigh t => d.phase (.recordStartLow t x)
  | .recordStartLow t hi => d.phase (.recordCount t (num16 hi x))
  | .recordCount t start => loaderCount t start x.toNat d
  | .entry t index remaining bytes =>
    if (bytes ++ [x]).length = t.entryBytes then loaderEntry t index remaining (bytes ++ [x]) d
    else d.phase (.entry t index remaining (bytes ++ [x]))

/-- R174: the address of the next byte is judged: behind L bytes of records the run ends, OK between two records and
BAD_RECORD inside one; a byte beyond the memory is an OVERFLOW. The order of the two is a DESIGN CHOICE (log entry 26). -/
def loaderBound (d : Dev) : Dev :=
  let m := d.live.mgu.loader
  match m.phase with
  | .marker => d
  | .lengthHigh => d
  | .lengthLow _ => d
  | ph =>
    if 3 + m.length ≤ m.address then endLoader (if ph = .recordTable then .ok else .badRecord) d
    else if memorySize d.env.straps ≤ m.address then endLoader .overflow d
    else d

/-- R174: a byte arrives from the configuration memory. -/
def loaderByte (x : Byte) (d : Dev) : Dev :=
  if d.live.mgu.loader.running then
    match loaderAct x d with
    | .ended d1 result => endLoader result d1
    | .more d1 => loaderBound { d1 with live := d1.live.modLoader fun m => { m with address := m.address + 1 } }
  else d

/-- R174: the memory does not acknowledge. -/
def loaderNoack (d : Dev) : Dev := if d.live.mgu.loader.running then endLoader .noack d else d

end Sys2Proof.Machine
end

