-- ==== Sys2Proof/Machine/Resets.lean ====
section
/-! DEFINITION. ROW RESET and RELOAD (R169, R170, R22, R40, R57). -/
namespace Sys2Proof.Machine

/-- R40: the slot in progress ends without effect, and the walk returns to entry 0 at its end. For an idle interval, which
R40 does not name, likewise: DESIGN CHOICE (log entry 20). -/
def rowResetWalk (w : Walk) : Walk := { w with slot := w.slot.map fun s => { s with fate := .rowReset } }

/-- R57: ROW RESET clears the counters of TSW and leaves its queues, transmissions and arbiter. -/
def rowResetTsw (t : TswState) : TswState := { t with tuCounts := .reset, tdCounts := .reset }

/-- R169: the live state after ROW RESET. The input queue, the MRSP slot and the loader stand. -/
def rowReset (l : Live) : Live :=
  { Live.reset with tsw := rowResetTsw l.tsw, mgu := l.mgu, walk := rowResetWalk l.walk }

/-- R170: RELOAD starts the loader. -/
def startReload (l : Live) : Live := l.modLoader Loader.start

end Sys2Proof.Machine
end

