-- ==== Sys2Proof/WellFormed.lean ====
section
/-! DEFINITION. Which commands can come about: the sizes the frame formats of chapter 11 allow. -/
namespace Sys2Proof

/-- How many selector bytes a READ target takes (section 11.4); none for a code that names no target. -/
def readSelectorBytes (target : Byte) : Option Nat :=
  match target.toNat with
  | 0x01 => some 4
  | 0x02 => some 1
  | 0x03 => some 0
  | 0x04 => some 1
  | 0x05 => some 3
  | 0x06 => some 2
  | 0x07 => some 1
  | 0x08 => some 0
  | 0x09 => some 0
  | 0x0A => some 0
  | _ => none

/-- Table 11-5: a READ has 1 to 5 parameter bytes, those of its target; an unknown target code may have any of them. -/
def readLengthSuits (target : Byte) (selectors : List Byte) : Bool :=
  match readSelectorBytes target with
  | some n => selectors.length == n
  | none => selectors.length ≤ 4

/-- A command whose operands have the sizes chapter 11 gives them. Operands of fixed width are well formed by their type. -/
def Instr.wellFormed : Instr → Bool
  | .trunkFrameReceived _ bytes => bytes.length ≤ 7 + 255 + 2
  | .exchangeReply bytes => bytes.length ≤ 4 + 255 + 2
  | .mgmtFormatError payload => payload.length ≤ Config.trunkPayloadMax
  | .load _ records => 4 ≤ records.length && records.length + 2 ≤ Config.trunkPayloadMax
  | .read _ target selectors => readLengthSuits target selectors
  | _ => true

end Sys2Proof
end

