-- ==== Sys2Proof/Machine/Management.lean ====
section
/-! DEFINITION. MGU: requests parsed, executed and answered (R165 to R170, section 11.4). -/
namespace Sys2Proof.Machine

/-- An operation of MGU with the parameter fields of Table 11-5, as wide as the frame gives them. -/
inductive MgmtOp where
  | load (records : List Byte)
  | read (target : Byte) (selectors : List Byte)
  | ident (bay : Byte)
  | lampCheck (bay groupFirst groupLast positionFirst positionLast order : Byte)
  | lampStop (bay : Byte)
  | faultRead (bay : Byte)
  | faultClear (bay : Byte)
  | faultFlush (bay : Byte)
  | latchShunt (bay : Byte)
  | latchLock (bay : Byte)
  | bayEnable (bay : Byte)
  | bayDisable (bay : Byte)
  | depAdd (id minute : Half) (bay : Byte) (coach : Quad) (target gates : Byte)
  | depChange (id : Half) (names : Byte) (minute : Half) (bay target gates : Byte)
  | depCancel (id : Half)
  | releaseNow (id : Half)
  | feederSet (limit : Half)
  | rowReset
  | reload
  deriving DecidableEq, Repr

/-! ## Payloads (section 11.4, R166 to R170) -/

/-- The operation code (R166 to R170). -/
def MgmtOp.code : MgmtOp → Byte
  | .load _ => 0x01
  | .read .. => 0x02
  | .ident _ => 0x10
  | .lampCheck .. => 0x11
  | .lampStop _ => 0x12
  | .faultRead _ => 0x13
  | .faultClear _ => 0x14
  | .faultFlush _ => 0x15
  | .latchShunt _ => 0x16
  | .latchLock _ => 0x17
  | .bayEnable _ => 0x18
  | .bayDisable _ => 0x19
  | .depAdd .. => 0x20
  | .depChange .. => 0x21
  | .depCancel _ => 0x22
  | .releaseNow _ => 0x23
  | .feederSet _ => 0x30
  | .rowReset => 0x31
  | .reload => 0x32

/-- A two-byte field as bytes. -/
def halfBytes (h : Half) : List Byte := be16 h.toNat

/-- A two-byte field. -/
def halfOf (hi lo : Byte) : Half := BitVec.ofNat 16 (num16 hi lo)

/-- The parameter bytes of an operation (Table 11-5). -/
def MgmtOp.params : MgmtOp → List Byte
  | .load records => records
  | .read target selectors => target :: selectors
  | .ident bay => [bay]
  | .lampCheck bay gf gl pf pl order => [bay, gf, gl, pf, pl, order]
  | .lampStop bay => [bay]
  | .faultRead bay => [bay]
  | .faultClear bay => [bay]
  | .faultFlush bay => [bay]
  | .latchShunt bay => [bay]
  | .latchLock bay => [bay]
  | .bayEnable bay => [bay]
  | .bayDisable bay => [bay]
  | .depAdd id minute bay coach target gates =>
    halfBytes id ++ halfBytes minute ++ [bay] ++ be32 coach.toNat ++ [target, gates]
  | .depChange id names minute bay target gates => halfBytes id ++ [names] ++ halfBytes minute ++ [bay, target, gates]
  | .depCancel id => halfBytes id
  | .releaseNow id => halfBytes id
  | .feederSet limit => halfBytes limit
  | .rowReset => []
  | .reload => []

/-- The MGMT payload of an operation. -/
def MgmtOp.payload (tag : Byte) (m : MgmtOp) : List Byte := tag :: m.code :: m.params

/-- R165, R177: the operation a code and its parameter bytes name; none is answered FORMAT. -/
def parseOperation (code : Byte) (params : List Byte) : Option MgmtOp :=
  match code.toNat, params with
  | 0x01, records => if 4 ≤ records.length then some (.load records) else none
  | 0x02, target :: selectors => if readLengthSuits target selectors then some (.read target selectors) else none
  | 0x10, [bay] => some (.ident bay)
  | 0x11, [bay, gf, gl, pf, pl, order] => some (.lampCheck bay gf gl pf pl order)
  | 0x12, [bay] => some (.lampStop bay)
  | 0x13, [bay] => some (.faultRead bay)
  | 0x14, [bay] => some (.faultClear bay)
  | 0x15, [bay] => some (.faultFlush bay)
  | 0x16, [bay] => some (.latchShunt bay)
  | 0x17, [bay] => some (.latchLock bay)
  | 0x18, [bay] => some (.bayEnable bay)
  | 0x19, [bay] => some (.bayDisable bay)
  | 0x20, [i1, i0, m1, m0, bay, c3, c2, c1, c0, target, gates] =>
    some (.depAdd (halfOf i1 i0) (halfOf m1 m0) bay (BitVec.ofNat 32 (num32 c3 c2 c1 c0)) target gates)
  | 0x21, [i1, i0, names, m1, m0, bay, target, gates] =>
    some (.depChange (halfOf i1 i0) names (halfOf m1 m0) bay target gates)
  | 0x22, [i1, i0] => some (.depCancel (halfOf i1 i0))
  | 0x23, [i1, i0] => some (.releaseNow (halfOf i1 i0))
  | 0x30, [l1, l0] => some (.feederSet (halfOf l1 l0))
  | 0x31, [] => some .rowReset
  | 0x32, [] => some .reload
  | _, _ => none

/-! ## Execution -/

/-- An operation of a bay: a bay number outside 1 to 16 is refused with RANGE. -/
def onBay (bay : Byte) (f : Env → Bay → Live → Status × Live) (d : Dev) : Status × List Byte × Dev :=
  match bayOf bay.toNat with
  | none => (.range, [], d)
  | some b =>
    let s := f d.env b d.live
    (s.1, [], { d with live := s.2 })

/-- An operation of the row. -/
def onRow (f : Env → Live → Status × Live) (d : Dev) : Status × List Byte × Dev :=
  let s := f d.env d.live
  (s.1, [], { d with live := s.2 })

/-- The order byte of LAMP CHECK. -/
def orderOf (b : Byte) : SweepOrder := { positionMajor := bitAt b 0, reverseGroup := bitAt b 1, reversePosition := bitAt b 2 }

/-- The window of LAMP CHECK. -/
def windowOf (gf gl pf pl : Byte) : SweepWindow :=
  { groupFirst := gf.toNat, groupLast := gl.toNat, positionFirst := pf.toNat, positionLast := pl.toNat }

/-- The gate mask byte. -/
def gatesOf (b : Byte) : GateMask := { lamp := bitAt b 0, fault := bitAt b 1, heat := bitAt b 2 }

/-- The target byte: -128 is none. -/
def targetOf (b : Byte) : Option Int := if b.toInt = -128 then none else some b.toInt

/-- The coach field: 0 is none. -/
def coachOf (c : Quad) : Option Nat := if c.toNat = 0 then none else some c.toNat

/-- What a DEP CHANGE names; fields not named by their bit are ignored. -/
def namesOf (names : Byte) (minute : Half) (bay target gates : Byte) : DepNames :=
  { minute := if bitAt names 0 then some minute.toNat else none,
    target := if bitAt names 1 then some (targetOf target) else none,
    gates := if bitAt names 2 then some (gatesOf gates) else none,
    bay := if bitAt names 3 then some bay.toNat else none }

/-- R116: FEEDER SET. -/
def feederSet (limit : Nat) (d : Dev) : Status × List Byte × Dev :=
  if Config.feederMax < limit then (.range, [], d)
  else (.done, [], (d.modParams fun p => { p with feederLimit := limit }).act (limitWritten · d.env.params.feederLimit))

/-- R166 to R170: the operation is executed: status, data, and the part it leaves. -/
def MgmtOp.run (m : MgmtOp) (d : Dev) : Status × List Byte × Dev :=
  match m with
  | .load records => runLoad records d
  | .read target selectors =>
    let s := readTarget d.env d.live target selectors
    (s.1, s.2, d)
  | .ident bay => onBay bay (fun _ => Machine.ident) d
  | .lampCheck bay gf gl pf pl order => onBay bay (fun e b => Machine.lampCheck e b (windowOf gf gl pf pl) (orderOf order)) d
  | .lampStop bay => onBay bay Machine.lampStop d
  | .faultRead bay => onBay bay Machine.faultRead d
  | .faultClear bay => onBay bay Machine.faultClear d
  | .faultFlush bay => onBay bay Machine.faultFlush d
  | .latchShunt bay => onBay bay (fun _ => Machine.latchShunt) d
  | .latchLock bay => onBay bay (fun _ => Machine.latchLock) d
  | .bayEnable bay => onBay bay (fun _ => Machine.bayEnable) d
  | .bayDisable bay => onBay bay (fun _ => Machine.bayDisable) d
  | .depAdd id minute bay coach target gates =>
    onRow (fun e => Machine.depAdd e id.toNat minute.toNat bay.toNat (coachOf coach) (targetOf target) (gatesOf gates)) d
  | .depChange id names minute bay target gates =>
    onRow (fun e => Machine.depChange e id.toNat (namesOf names minute bay target gates)) d
  | .depCancel id => onRow (fun e => Machine.depCancel e id.toNat) d
  | .releaseNow id => onRow (fun e => Machine.releaseNow e id.toNat) d
  | .feederSet limit => Machine.feederSet limit.toNat d
  | .rowReset => (.done, [], { d with live := Machine.rowReset d.live })
  | .reload => (.done, [], { d with live := startReload d.live })

/-- R165, R167: a READ. -/
def MgmtOp.isRead : MgmtOp → Bool
  | .read .. => true
  | _ => false

/-- R165: while the loader runs, every operation but READ is answered LOADING and changes nothing. -/
def MgmtOp.execute (m : MgmtOp) (d : Dev) : Status × List Byte × Dev :=
  if d.live.mgu.loader.running ∧ m.isRead = false then (.loading, [], d) else m.run d

/-- R165: the response is placed in the MRSP slot. -/
def respond (tag op : Byte) (r : Status × List Byte × Dev) : Dev :=
  { r.2.2 with live := { r.2.2.live with mgu := { r.2.2.live.mgu with
      mrsp := some { tag := tag, op := op, status := r.1, data := r.2.1 } } } }

/-- R165: an operation is executed and answered. -/
def MgmtOp.answer (tag : Byte) (m : MgmtOp) (d : Dev) : Dev := respond tag m.code (m.execute d)

/-- R165: a request is executed and answered; one that cannot be parsed is answered FORMAT. -/
def answerPayload (payload : List Byte) (d : Dev) : Dev :=
  match payload with
  | tag :: code :: params =>
    match parseOperation code params with
    | some m => m.answer tag d
    | none => respond tag code (.format, [], d)
  | _ => respond 0 0 (.format, [], d)

/-- R165: MGU is free to execute: the MRSP slot is empty and the part is addressed. -/
def mguFree (d : Dev) : Bool := d.env.straps.addressed && d.live.mgu.mrsp.isNone

/-- R165: MGU executes the frame at the head of its queue. -/
def runMgu (d : Dev) : Dev :=
  match d.live.mgu.queue with
  | payload :: rest =>
    if mguFree d then answerPayload payload { d with live := { d.live with mgu := { d.live.mgu with queue := rest } } } else d
  | [] => d

end Sys2Proof.Machine
end

