-- ==== Sys2Proof/Machine/Transmit.lean ====
section
/-! DEFINITION. The transmitters and the local lane, and what the part does of itself once a command has been taken (R47 to R50,
R165, R172, R24). -/
namespace Sys2Proof.Machine

/-! ## TD (R48) -/

/-- R48: the head of the TD-bound queue is transmitted when the transmitter is idle. -/
def grantTd (d : Dev) : Dev :=
  match d.live.tsw.tdSending, d.live.tsw.tdQueue with
  | none, f :: rest => { d with live := d.live.modTsw fun t => { t with tdSending := some f, tdQueue := rest } }
  | _, _ => d

/-! ## The local lane (R49, R172) -/

/-- R49: a frame of the local lane. -/
def laneFrame (e : Env) (kind : Byte) (payload : List Byte) : TrunkFrame :=
  { dr := 0, db := 0, sr := e.straps.row.val, sb := 0, kind := kind, hop := 15, payload := payload }

/-- Section 11.4: the payload of a response. -/
def Mrsp.payload (m : Mrsp) : List Byte := [m.tag, m.op, byteOf m.status.code] ++ m.data

/-- R172: the number at the head of the ring leaves it and its reason set is emptied. -/
def Reports.take (n : ReportNumber) (rest : List ReportNumber) (r : Reports) : Reports := { r.put n 0 with ring := rest }

/-- R49: the lane has a frame waiting; the lane of an unaddressed part has nothing to send (R56). -/
def laneWaits (d : Dev) : Bool := d.env.straps.addressed && (d.live.mgu.mrsp.isSome || !d.live.reports.ring.isEmpty)

/-- R49: the lane's transmission, with the response first. -/
def grantLane (d : Dev) : Dev :=
  match d.live.mgu.mrsp, d.live.reports.ring with
  | some m, _ =>
    { d with live := d.live.modTsw fun t => { t with tuSending := some ⟨laneFrame d.env 0x02 m.payload, true⟩ } }
  | none, n :: rest =>
    let f := laneFrame d.env 0x03 (reportPayload d.env d.live n)
    { d with live := { (d.live.modTsw fun t => { t with tuSending := some ⟨f, false⟩ }) with
        reports := d.live.reports.take n rest } }
  | none, [] => d

/-- R47, R50: the forward queue's transmission. -/
def grantForward (d : Dev) : Dev :=
  match d.live.tsw.tuQueue with
  | f :: rest => { d with live := d.live.modTsw fun t => { t with tuSending := some ⟨f, false⟩, tuQueue := rest } }
  | [] => d

/-! ## The TU arbiter (R50) -/

/-- R50: the requester to be granted, if one has a frame waiting. -/
def arbiterChoice (d : Dev) : Option Requester :=
  match !d.live.tsw.tuQueue.isEmpty, laneWaits d with
  | false, false => none
  | true, false => some .forward
  | false, true => some .localLane
  | true, true => match d.live.tsw.lastGrant with
    | .localLane => some .forward
    | .forward => some .localLane

/-- R50: one grant is made when the transmitter is idle and a frame waits. -/
def grantTu (d : Dev) : Dev :=
  match d.live.tsw.tuSending, arbiterChoice d with
  | none, some .forward => grantForward { d with live := d.live.modTsw fun t => { t with lastGrant := .forward } }
  | none, some .localLane => grantLane { d with live := d.live.modTsw fun t => { t with lastGrant := .localLane } }
  | _, _ => d

/-! ## Transmission ends -/

/-- R47: the transmission on TD ends. -/
def tdEnd (d : Dev) : Dev := { d with live := d.live.modTsw fun t => { t with tdSending := none } }

/-- R49, R50: the transmission on TU ends; a response sent leaves the MRSP slot. -/
def tuEnd (d : Dev) : Dev :=
  match d.live.tsw.tuSending with
  | none => d
  | some t =>
    let l := d.live.modTsw fun t => { t with tuSending := none }
    { d with live := { l with mgu := { l.mgu with mrsp := if t.isMrsp then none else l.mgu.mrsp } } }

/-! ## After every command -/

/-- What the part does of itself once a command has been taken: idle transmitters are granted, MGU executes when free, a slot
begins when none is in progress. The grant before MGU's next operation: DESIGN CHOICE (log entry 7); the grant only after the whole
command: DESIGN CHOICE (log entry 36). -/
def settle (d : Dev) : Dev := (grantTu (runMgu (grantTu (grantTd d)))).act beginSlot

/-- A command that changes the part by `f`. -/
def State.after (s : State) (f : Dev → Dev) : State := { s with dev := settle (f s.dev) }

/-- An event of a block of an addressed part; an unaddressed part holds its reset state (00_scope section 7, R56). -/
def whenAddressed (f : Dev → Dev) (d : Dev) : Dev := if d.env.straps.addressed then f d else d

/-- An event of a block that changes the live state by `f`. -/
def event (f : Env → Live → Live) (d : Dev) : Dev := whenAddressed (fun d => d.act f) d

end Sys2Proof.Machine
end

