-- ==== Sys2Proof/Machine/Clock.lean ====
section
/-! DEFINITION. The depot clock: second ticks, minute events, TIME frames (R96, R98, R99). -/
namespace Sys2Proof.Machine

/-- Change the clock. -/
def Dev.modClock (d : Dev) (f : Clock → Clock) : Dev := { d with env := { d.env with clock := f d.env.clock } }

/-- R96: the minute event reaches BTB, DPC and SCV. The order is a DESIGN CHOICE (log entry 6). -/
def announceMinute (e : Env) (l : Live) : Live := scvMinute e (dpcMinute e (expireSlots e l))

/-- R99: TIME_STALE is set and reported. -/
def setTimeStale (d : Dev) : Dev :=
  (d.modClock fun c => { c with minutesNoTime := 15, timeStale := true }).act fun e => addReason e .row .timeStale

/-- R99: one more minute of the timebase without a TIME frame. -/
def countNoTime (d : Dev) : Dev :=
  if d.env.clock.minutesNoTime < 14 then d.modClock fun c => { c with minutesNoTime := c.minutesNoTime + 1 }
  else if d.env.clock.minutesNoTime = 14 then setTimeStale d
  else d

/-- R96: the week minute advances. -/
def Clock.nextMinute (c : Clock) : Clock :=
  { c with second := 0, minute := if c.minute + 1 < Config.weekMinutes then c.minute + 1 else 0 }

/-- R96, R99: a minute event of the timebase; of an unaddressed part only the clock moves: DEDUCED
(log entry 21). -/
def timebaseMinute (d : Dev) : Dev :=
  whenAddressed (fun d => (countNoTime (d.act announceMinute)).act phpMinute) (d.modClock Clock.nextMinute)

/-- R96: a second of the timebase: FRD counts it, and behind second 59 the minute event follows. FRD first: DESIGN CHOICE
(log entry 39). -/
def secondTick (d : Dev) : Dev :=
  let d1 := event frdTick d
  if d1.env.clock.second < 59 then d1.modClock fun c => { c with second := c.second + 1 } else timebaseMinute d1

/-- R98, section 11.2: the values of a TIME frame, in range. -/
def parseTime : List Byte → Option (Nat × Nat × Int)
  | [m1, m0, second, out] =>
    if num16 m1 m0 < Config.weekMinutes ∧ second.toNat < 60 ∧ -80 ≤ out.toInt ∧ out.toInt ≤ 99 then
      some (num16 m1 m0, second.toNat, out.toInt)
    else none
  | _ => none

/-- R98: PHP takes a TIME frame. -/
def setTime (minute second : Nat) (outside : Int) (d : Dev) : Dev :=
  let old := d.env.clock
  let d1 := d.modClock fun _ =>
    { minute := minute, second := second, outside := outside, minutesNoTime := 0, timeStale := false }
  let d2 := if outside = old.outside then d1 else d1.act recomputeAll
  if minute = old.minute then d2 else (d2.act announceMinute).act phpMinute

/-- R98: a TIME frame is handed to PHP. -/
def takeTime (payload : List Byte) (d : Dev) : Dev :=
  match parseTime payload with
  | some (m, s, t) => setTime m s t d
  | none => d

end Sys2Proof.Machine
end

