-- ==== Sys2Proof/Machine/Receive.lean ====
section
/-! DEFINITION. A frame received at a trunk port (R42 to R45, R56). -/
namespace Sys2Proof.Machine

/-- R44: a taken frame whose DB is 0. -/
def takeForRow (arrival : Port) (f : TrunkFrame) (d : Dev) : Dev :=
  match f.kind.toNat with
  | 0x01 => { d with live := queueMgmt arrival f.payload d.live }
  | 0x04 => takeTime f.payload d
  | _ => { d with live := countBad arrival d.live }

/-- R43 to R45: a frame is taken. -/
def takeFrame (arrival : Port) (f : TrunkFrame) (d : Dev) : Dev :=
  if f.db = 0 then takeForRow arrival f d else d.act fun e => takeForBay e arrival f

/-- R43, R56: the frame is relayed. -/
def relayed (p : Straps) (f : TrunkFrame) : Bool := !p.addressed || f.dr != p.row.val

/-- R43, R56: the frame is taken. -/
def taken (p : Straps) (f : TrunkFrame) : Bool := p.addressed && (f.dr == p.row.val || f.dr == 63)

/-- R43: a good frame is relayed, taken, or both. The two copies are independent. -/
def sortFrame (arrival : Port) (f : TrunkFrame) (d : Dev) : Dev :=
  let d1 := if relayed d.env.straps f then d.act fun e => relay e.straps arrival f else d
  if taken d.env.straps f then takeFrame arrival f d1 else d1

/-- R42: a frame has been received to its end. -/
def receiveFrame (arrival : Port) (bytes : List Byte) (d : Dev) : Dev :=
  match parseTrunk bytes with
  | none => { d with live := countBad arrival d.live }
  | some f => sortFrame arrival f d

end Sys2Proof.Machine
end

