-- ==== Sys2Proof/Machine/Commands.lean ====
section
/-! DEFINITION. The meanings of the commands that are events: resets, the loader, the trunk, the bay line, the clock, and the
events of one bay. An event that the present state does not allow has no effect: DESIGN CHOICE (log entry 5). -/
namespace Sys2Proof.Machine

/-! ## Resets and the loader -/

/-- POWER_ON_RESET (R21, R174). -/
def execPowerOnReset (row : Fin 64) (endOfTrunk : Bool) (memSize : Fin 4) (s : State) : Host.Outcome State Fault Refusal :=
  .next (s.after fun _ => .reset { row := row, endOfTrunk := endOfTrunk, memSize := memSize })

/-- PIN_RESET (R21, R174). -/
def execPinReset (row : Fin 64) (endOfTrunk : Bool) (memSize : Fin 4) (s : State) : Host.Outcome State Fault Refusal :=
  .next (s.after fun _ => .reset { row := row, endOfTrunk := endOfTrunk, memSize := memSize })

/-- LOADER_BYTE_READ (R174). -/
def execLoaderByteRead (value : Byte) (s : State) : Host.Outcome State Fault Refusal := .next (s.after (loaderByte value))

/-- NOACK (R174). -/
def execNoack (s : State) : Host.Outcome State Fault Refusal := .next (s.after loaderNoack)

/-! ## The trunk -/

/-- TRUNK_FRAME_RECEIVED (R42 to R56). -/
def execTrunkFrameReceived (port : Port) (bytes : List Byte) (s : State) : Host.Outcome State Fault Refusal :=
  .next (s.after (receiveFrame port bytes))

/-- RECEPTION_BREAKS_OFF (R42). -/
def execReceptionBreaksOff (port : Port) (s : State) : Host.Outcome State Fault Refusal :=
  .next (s.after fun d => { d with live := countBad port d.live })

/-- TU_TRANSMIT_END (R47, R49, R50). -/
def execTuTransmitEnd (s : State) : Host.Outcome State Fault Refusal := .next (s.after tuEnd)

/-- TD_TRANSMIT_END (R47, R48). -/
def execTdTransmitEnd (s : State) : Host.Outcome State Fault Refusal := .next (s.after tdEnd)

/-! ## The bay line -/

/-- EXCHANGE_REPLY (R26, R30). -/
def execExchangeReply (bytes : List Byte) (s : State) : Host.Outcome State Fault Refusal :=
  .next (s.after fun d => d.act fun e => slotReply e bytes)

/-- BAD_REPLY (R26, R32). -/
def execBadReply (s : State) : Host.Outcome State Fault Refusal := .next (s.after fun d => d.act slotMiss)

/-- REPLY_TIMEOUT (R26, R32). -/
def execReplyTimeout (s : State) : Host.Outcome State Fault Refusal := .next (s.after fun d => d.act slotMiss)

/-- POLL_SLOT_IDLE_END (R24). -/
def execPollSlotIdleEnd (s : State) : Host.Outcome State Fault Refusal := .next (s.after fun d => d.act slotIdleEnd)

/-! ## Events of one bay -/

/-- R32, R35: the misses that make a link SILENT have come together; the count they leave is a DESIGN CHOICE (log entry 30). -/
def missesReachLimit (e : Env) (b : Bay) (l : Live) : Live :=
  if (l.bay b).blm.link ≠ .silent ∧ (l.bay b).btb.occupancy ≠ .disabled then
    goSilent e b (l.modBlm b fun m => { m with missCount := min 15 (max (m.missCount + 1) e.params.missLimit) })
  else l

/-- LINK_SILENT (R35). -/
def execLinkSilent (b : Bay) (s : State) : Host.Outcome State Fault Refusal :=
  .next (s.after (event fun e => missesReachLimit e b))

/-- IDENT_FAILED (R4). -/
def execIdentFailed (b : Bay) (s : State) : Host.Outcome State Fault Refusal :=
  .next (s.after (event fun e l => if identifying (l.bay b).btb then giveUpIdent e b l else l))

/-- STEP_VISIT_LIMIT (R84). -/
def execStepVisitLimit (b : Bay) (s : State) : Host.Outcome State Fault Refusal :=
  .next (s.after (event fun e l => if (l.bay b).lsw.sweep = .running then visitLimit e b l else l))

/-- COACH_BUSY (R136). -/
def execCoachBusy (b : Bay) (s : State) : Host.Outcome State Fault Refusal :=
  .next (s.after (event fun e l =>
    if (l.bay b).frd.status = .reading then abortRead e b .coachBusy (l.modFrd b fun c => { c with busy := 21 }) else l))

/-- COACH_SILENT (R136). -/
def execCoachSilent (b : Bay) (s : State) : Host.Outcome State Fault Refusal :=
  .next (s.after (event fun e l =>
    if (l.bay b).frd.status = .reading then abortRead e b .coachSilent (l.modFrd b fun c => { c with attempts := 3 }) else l))

/-- CLEAR_TIMEOUT (R145). -/
def execClearTimeout (b : Bay) (s : State) : Host.Outcome State Fault Refusal :=
  .next (s.after (event fun e l => if (l.bay b).frd.status = .clearing then clearExpires e b l else l))

/-- CABIN_STALE_ONSET (R65). -/
def execCabinStaleOnset (b : Bay) (s : State) : Host.Outcome State Fault Refusal :=
  .next (s.after (event fun e l =>
    if (l.bay b).scv.age < Config.staleAge then
      cabinStaleOnset e b (l.modScv b fun c => { c with age := Config.staleAge })
    else l))

/-! ## The clock -/

/-- SECOND_TICK (R96, R145). -/
def execSecondTick (s : State) : Host.Outcome State Fault Refusal := .next (s.after secondTick)

/-- MINUTE_EVENT (R96, R99). -/
def execMinuteEvent (s : State) : Host.Outcome State Fault Refusal := .next (s.after timebaseMinute)

/-- TIME_STALE (R99). -/
def execTimeStale (s : State) : Host.Outcome State Fault Refusal :=
  .next (s.after (whenAddressed fun d => if d.env.clock.minutesNoTime < 15 then setTimeStale d else d))

/-- PARKED_SLOT_EXPIRY (R17). -/
def execParkedSlotExpiry (s : State) : Host.Outcome State Fault Refusal := .next (s.after (event expireSlots))

end Sys2Proof.Machine
end

