-- ==== Sys2Proof/Machine/Operations.lean ====
section
/-! DEFINITION. The meanings of the commands that are management operations (R165 to R170). The office's frame has been taken, its
operation is executed when MGU is free and waits in the input queue when it is not; that it came by TU is a DESIGN CHOICE
(log entry 22). -/
namespace Sys2Proof.Machine

/-- R165: MGU takes a request: it executes it at once when its queue and its MRSP slot are empty, and queues it otherwise. -/
def takeRequest (payload : List Byte) (d : Dev) : Dev :=
  if d.live.mgu.queue.isEmpty ∧ d.live.mgu.mrsp.isNone = true then answerPayload payload d
  else { d with live := queueMgmt .tu payload d.live }

/-- A management operation comes to an addressed part; an unaddressed part takes no frame (R56). -/
def submit (payload : List Byte) (s : State) : State := s.after (whenAddressed (takeRequest payload))

/-- R165: the payload names an operation of Table 11-5. -/
def wellFormedRequest : List Byte → Bool
  | _ :: code :: params => (parseOperation code params).isSome
  | _ => false

/-- MGMT_FORMAT_ERROR (R165, R177). A payload that is no such error has no effect: DESIGN CHOICE (log entry 5). -/
def execMgmtFormatError (payload : List Byte) (s : State) : Host.Outcome State Fault Refusal :=
  .next (if wellFormedRequest payload then s else submit payload s)

/-- LOAD (R166). -/
def execLoad (tag : Byte) (records : List Byte) (s : State) : Host.Outcome State Fault Refusal :=
  .next (submit ((MgmtOp.load records).payload tag) s)

/-- READ (R167). -/
def execRead (tag target : Byte) (selectors : List Byte) (s : State) : Host.Outcome State Fault Refusal :=
  .next (submit ((MgmtOp.read target selectors).payload tag) s)

/-- IDENT (R9). -/
def execIdent (tag bay : Byte) (s : State) : Host.Outcome State Fault Refusal :=
  .next (submit ((MgmtOp.ident bay).payload tag) s)

/-- LAMP CHECK (R75). -/
def execLampCheck (tag bay groupFirst groupLast positionFirst positionLast order : Byte) (s : State) :
    Host.Outcome State Fault Refusal :=
  .next (submit ((MgmtOp.lampCheck bay groupFirst groupLast positionFirst positionLast order).payload tag) s)

/-- LAMP STOP (R78). -/
def execLampStop (tag bay : Byte) (s : State) : Host.Outcome State Fault Refusal :=
  .next (submit ((MgmtOp.lampStop bay).payload tag) s)

/-- FAULT READ (R133). -/
def execFaultRead (tag bay : Byte) (s : State) : Host.Outcome State Fault Refusal :=
  .next (submit ((MgmtOp.faultRead bay).payload tag) s)

/-- FAULT CLEAR (R144). -/
def execFaultClear (tag bay : Byte) (s : State) : Host.Outcome State Fault Refusal :=
  .next (submit ((MgmtOp.faultClear bay).payload tag) s)

/-- FAULT FLUSH (R146). -/
def execFaultFlush (tag bay : Byte) (s : State) : Host.Outcome State Fault Refusal :=
  .next (submit ((MgmtOp.faultFlush bay).payload tag) s)

/-- LATCH SHUNT (R162). -/
def execLatchShunt (tag bay : Byte) (s : State) : Host.Outcome State Fault Refusal :=
  .next (submit ((MgmtOp.latchShunt bay).payload tag) s)

/-- LATCH LOCK (R162). -/
def execLatchLock (tag bay : Byte) (s : State) : Host.Outcome State Fault Refusal :=
  .next (submit ((MgmtOp.latchLock bay).payload tag) s)

/-- BAY ENABLE (R15). -/
def execBayEnable (tag bay : Byte) (s : State) : Host.Outcome State Fault Refusal :=
  .next (submit ((MgmtOp.bayEnable bay).payload tag) s)

/-- BAY DISABLE (R14). -/
def execBayDisable (tag bay : Byte) (s : State) : Host.Outcome State Fault Refusal :=
  .next (submit ((MgmtOp.bayDisable bay).payload tag) s)

/-- DEP ADD (R154). -/
def execDepAdd (tag : Byte) (id minute : Half) (bay : Byte) (coach : Quad) (target gates : Byte) (s : State) :
    Host.Outcome State Fault Refusal :=
  .next (submit ((MgmtOp.depAdd id minute bay coach target gates).payload tag) s)

/-- DEP CHANGE (R155). -/
def execDepChange (tag : Byte) (id : Half) (names : Byte) (minute : Half) (bay target gates : Byte) (s : State) :
    Host.Outcome State Fault Refusal :=
  .next (submit ((MgmtOp.depChange id names minute bay target gates).payload tag) s)

/-- DEP CANCEL (R163). -/
def execDepCancel (tag : Byte) (id : Half) (s : State) : Host.Outcome State Fault Refusal :=
  .next (submit ((MgmtOp.depCancel id).payload tag) s)

/-- RELEASE NOW (R163). -/
def execReleaseNow (tag : Byte) (id : Half) (s : State) : Host.Outcome State Fault Refusal :=
  .next (submit ((MgmtOp.releaseNow id).payload tag) s)

/-- FEEDER SET (R116). -/
def execFeederSet (tag : Byte) (limit : Half) (s : State) : Host.Outcome State Fault Refusal :=
  .next (submit ((MgmtOp.feederSet limit).payload tag) s)

/-- ROW RESET (R169). -/
def execRowReset (tag : Byte) (s : State) : Host.Outcome State Fault Refusal := .next (submit (MgmtOp.rowReset.payload tag) s)

/-- RELOAD (R170). -/
def execReload (tag : Byte) (s : State) : Host.Outcome State Fault Refusal := .next (submit (MgmtOp.reload.payload tag) s)

end Sys2Proof.Machine
end

