-- ==== Sys2Proof/Machine/Dispatch.lean ====
section
/-! DEFINITION. The dispatch of a command to its meaning. -/
namespace Sys2Proof.Machine

def exec (i : Instr) (s : State) : Host.Outcome State Fault Refusal :=
  match i with
  | .powerOnReset row eot mem => Sys2Proof.Machine.execPowerOnReset row eot mem s
  | .pinReset row eot mem => Sys2Proof.Machine.execPinReset row eot mem s
  | .loaderByteRead x => Sys2Proof.Machine.execLoaderByteRead x s
  | .trunkFrameReceived port bytes => Sys2Proof.Machine.execTrunkFrameReceived port bytes s
  | .tuTransmitEnd => Sys2Proof.Machine.execTuTransmitEnd s
  | .tdTransmitEnd => Sys2Proof.Machine.execTdTransmitEnd s
  | .exchangeReply bytes => Sys2Proof.Machine.execExchangeReply bytes s
  | .badReply => Sys2Proof.Machine.execBadReply s
  | .replyTimeout => Sys2Proof.Machine.execReplyTimeout s
  | .pollSlotIdleEnd => Sys2Proof.Machine.execPollSlotIdleEnd s
  | .linkSilent b => Sys2Proof.Machine.execLinkSilent b s
  | .identFailed b => Sys2Proof.Machine.execIdentFailed b s
  | .stepVisitLimit b => Sys2Proof.Machine.execStepVisitLimit b s
  | .coachBusy b => Sys2Proof.Machine.execCoachBusy b s
  | .coachSilent b => Sys2Proof.Machine.execCoachSilent b s
  | .secondTick => Sys2Proof.Machine.execSecondTick s
  | .minuteEvent => Sys2Proof.Machine.execMinuteEvent s
  | .cabinStaleOnset b => Sys2Proof.Machine.execCabinStaleOnset b s
  | .timeStale => Sys2Proof.Machine.execTimeStale s
  | .parkedSlotExpiry => Sys2Proof.Machine.execParkedSlotExpiry s
  | .clearTimeout b => Sys2Proof.Machine.execClearTimeout b s
  | .mgmtFormatError payload => Sys2Proof.Machine.execMgmtFormatError payload s
  | .load tag records => Sys2Proof.Machine.execLoad tag records s
  | .read tag target selectors => Sys2Proof.Machine.execRead tag target selectors s
  | .ident tag bay => Sys2Proof.Machine.execIdent tag bay s
  | .lampCheck tag bay gf gl pf pl order => Sys2Proof.Machine.execLampCheck tag bay gf gl pf pl order s
  | .lampStop tag bay => Sys2Proof.Machine.execLampStop tag bay s
  | .faultRead tag bay => Sys2Proof.Machine.execFaultRead tag bay s
  | .faultClear tag bay => Sys2Proof.Machine.execFaultClear tag bay s
  | .faultFlush tag bay => Sys2Proof.Machine.execFaultFlush tag bay s
  | .latchShunt tag bay => Sys2Proof.Machine.execLatchShunt tag bay s
  | .latchLock tag bay => Sys2Proof.Machine.execLatchLock tag bay s
  | .bayEnable tag bay => Sys2Proof.Machine.execBayEnable tag bay s
  | .bayDisable tag bay => Sys2Proof.Machine.execBayDisable tag bay s
  | .depAdd tag id minute bay coach target gates => Sys2Proof.Machine.execDepAdd tag id minute bay coach target gates s
  | .depChange tag id names minute bay target gates => Sys2Proof.Machine.execDepChange tag id names minute bay target gates s
  | .depCancel tag id => Sys2Proof.Machine.execDepCancel tag id s
  | .releaseNow tag id => Sys2Proof.Machine.execReleaseNow tag id s
  | .feederSet tag limit => Sys2Proof.Machine.execFeederSet tag limit s
  | .rowReset tag => Sys2Proof.Machine.execRowReset tag s
  | .reload tag => Sys2Proof.Machine.execReload tag s
  | .noack => Sys2Proof.Machine.execNoack s
  | .receptionBreaksOff port => Sys2Proof.Machine.execReceptionBreaksOff port s

end Sys2Proof.Machine
end

