-- ==== Sys2Proof/Safety.lean ====
section
/-! DEFINITION. The safe states: the statements about the whole part that the manual sets apart (R16, R37, R82, R106, R117, R125,
R139, R140, R152, R157, R159, R171), each as a check on the live state. -/
namespace Sys2Proof.Machine

/-! ## Cells (R140) -/

/-- The cells held by all bay fault lists. -/
def bayCells (l : Live) : Nat := (l.bays.toList.map fun r => heldCells r.frd.list).sum

/-- The cells held by all cache slots. -/
def cacheCells (l : Live) : Nat := (l.cache.map fun x => heldCells x.list).sum

/-- R140: free cells, cells of bays and cells of cache slots total 256. -/
def cellLaw (l : Live) : Bool := l.pool.free + bayCells l + cacheCells l == Config.poolCells

/-- R139: no two records of a list have the same source and code. -/
def distinctFaults (list : List FaultRecord) : Bool := decide ((list.map fun x => (x.source, x.code)).Nodup)

/-- R139: a list within its quota, without doubles, and a blocking count that covers its BLOCK records. -/
def faultListLaw (list : List FaultRecord) (blocking : Nat) : Bool :=
  decide (heldCells list ≤ Config.bayCellQuota) && distinctFaults list && decide ((list.filter (·.block)).length ≤ blocking)

/-- R139 for every bay, and for the lists the cache keeps. -/
def faultLaw (l : Live) : Bool :=
  (l.bays.toList.all fun r => faultListLaw r.frd.list r.frd.blocking) && l.cache.all fun x => faultListLaw x.list x.blocking

/-! ## The cache (R16) -/

/-- The coach ids of the OCCUPIED bays. -/
def occupiedCoaches (l : Live) : List Nat :=
  (l.bays.toList.filter fun r => r.btb.occupancy == .occupied).map fun r => r.btb.coach

/-- R16: at most 4 slots with distinct coach ids, none that of an OCCUPIED bay. -/
def cacheLaw (l : Live) : Bool :=
  decide (l.cache.length ≤ Config.cacheMax) && decide (l.cache.map (·.coach)).Nodup &&
    l.cache.all fun x => !(occupiedCoaches l).contains x.coach

/-! ## The feeder (R106, R117, R125) -/

/-- R117: a lamp or heat share is admitted only while the base share is. -/
def shareLaw (r : BayRec) : Bool :=
  (r.fal.lamp.state != .admitted && r.fal.heat.state != .admitted) || r.fal.base.state == .admitted

/-- R125: while the committed load exceeds the limit, every admitted heat share belongs to a SILENT bay. -/
def feederLaw (e : Env) (l : Live) : Bool :=
  decide (committed l ≤ e.params.feederLimit) || l.bays.toList.all fun r => r.fal.heat.state != .admitted || r.blm.link == .silent

/-- R106: the heater is desired ON only while the heat share is admitted and the state is HEATING or MAINTAIN. -/
def heaterLaw (r : BayRec) : Bool :=
  !r.blm.desired.heater || (r.fal.heat.state == .admitted && (r.php.state == .heating || r.php.state == .maintain))

/-! ## Lamp drives (R82) -/

/-- R82: an LDRV stands in the job slot only while the lamp share is admitted and the sweep is RUNNING. -/
def driveLaw (r : BayRec) : Bool :=
  match r.blm.job with
  | some ⟨.ldrv .., _⟩ => r.fal.lamp.state == .admitted && r.lsw.sweep == .running
  | _ => true

/-! ## Departures (R152, R157, R159) -/

/-- R152 but for the order: at most 32 entries, distinct ids, at most one for each bay, none bound to a DISABLED bay. -/
def departureLaw (l : Live) : Bool :=
  decide (l.departures.length ≤ Config.departureMax) && decide (l.departures.map (·.id)).Nodup &&
    decide (l.departures.filterMap (·.bay)).Nodup &&
    l.departures.all fun x => match x.bay with
      | some b => (l.bay b).btb.occupancy != .disabled
      | none => true

/-- R152: the list stands in ascending distance to departure. -/
def orderLaw (e : Env) (l : Live) : Bool := ascending e l.departures

/-- R157: a CLEARED or RELEASED entry has its bay OCCUPIED by a matching coach, the link ONLINE and its gates passing. -/
def clearanceLaw (l : Live) : Bool :=
  l.departures.all fun x => (x.state == .waiting || x.state == .preparing) ||
    match x.bay with
    | none => false
    | some b =>
      let r := l.bay b
      r.btb.occupancy == .occupied && (x.coach.isNone || x.coach == some r.btb.coach) && r.blm.link == .online &&
        gatesPass x r.dpc

/-- R159: the latch is desired RELEASE only with purpose SHUNT, or DEPART with the bound entry RELEASED. -/
def latchLaw (l : Live) (b : Bay) : Bool :=
  let r := l.bay b
  !r.blm.desired.latch || r.btb.purpose == .shunt ||
    (r.btb.purpose == .depart && (boundEntry l b).any fun x => x.state == .released)

/-! ## Reports (R171) -/

/-- R171: the ring holds each number at most once, and exactly those whose masked set is not empty. -/
def ringLaw (e : Env) (l : Live) : Bool :=
  decide l.reports.ring.Nodup &&
    allNumbers.all fun n => l.reports.ring.contains n == (l.reports.of n &&& e.params.reportMask != 0)

/-! ## Invariants of every step -/

/-- R126: OVERCOMMIT is set exactly while the committed load exceeds the limit. -/
def overcommitLaw (e : Env) (l : Live) : Bool := l.fal.overcommit == decide (e.params.feederLimit < committed l)

/-- R156: an entry that is not WAITING is bound to an OCCUPIED bay whose coach it expects, with MISMATCH clear. -/
def bindingLaw (l : Live) : Bool :=
  l.departures.all fun x => x.state == .waiting ||
    match x.bay with
    | none => false
    | some b => (l.bay b).btb.occupancy == .occupied && (x.coach.isNone || x.coach == some (l.bay b).btb.coach) && !x.mismatch

/-- R5: no two OCCUPIED bays hold the same coach id. -/
def coachLaw (l : Live) : Bool := decide (occupiedCoaches l).Nodup

/-- R123: every request in the queue belongs to a share that is QUEUED. -/
def queueLaw (l : Live) : Bool := l.fal.queue.all fun x => (shareOf l x.1 x.2).state == .queued

/-- R118, R117: a lamp or heat share waits in the queue or is admitted only behind an admitted base share. -/
def baseLaw (f : FalPart) : Bool :=
  f.base.state == .admitted ||
    (f.lamp.state == .none || f.lamp.state == .held) && (f.heat.state == .none || f.heat.state == .held)

/-- R88, R101, R110, R124: a bay that is not OCCUPIED has no share, no sweep in progress and no plan, and without a plan the heat
gate fails. -/
def vacancyLaw (r : BayRec) : Bool :=
  (r.btb.occupancy == .occupied ||
    r.fal.base.state == .none && r.fal.lamp.state == .none && r.fal.heat.state == .none && !r.lsw.sweep.inProgress &&
      r.php.state == .none) &&
    (r.php.state != .none || !r.php.gate)

/-- R82, R84: LSW's frames wait only while the sweep is RUNNING, which holds the lamp share; the frames of FRD are its own. -/
def frameLaw (r : BayRec) : Bool :=
  (r.lsw.sweep != .running || r.fal.lamp.state == .admitted) &&
    (r.lsw.sweep == .running || r.blm.claimLsw.isNone && !(r.blm.job.any fun j => j.frame.owner == .lsw)) &&
    (r.blm.claimFrd.all fun f => f.owner == .frd) && r.frd.current.all fun f => f.owner == .frd

/-- R106, R107, R109: HEATING, MAINTAIN and PAUSED hold the heat share, and the heater is desired ON in the first two alone. -/
def planLaw (r : BayRec) : Bool :=
  (match r.php.state with
    | .heating => r.fal.heat.state == .admitted
    | .maintain => r.fal.heat.state == .admitted
    | .paused => r.fal.heat.state == .admitted
    | _ => true) &&
    (!r.blm.desired.heater || r.php.state == .heating || r.php.state == .maintain)

/-- What the parts of a bay record say of each other. -/
def ownerLaw (r : BayRec) : Bool := baseLaw r.fal && vacancyLaw r && frameLaw r && planLaw r

/-- R122: no request waits that a pass would admit: while OVERCOMMIT is clear the head does not fit, nor does a LAMP request. -/
def servedLaw (e : Env) (l : Live) : Bool :=
  l.fal.overcommit ||
    (l.fal.queue.head?.all fun x => !fits e l x) && l.fal.queue.all fun x => x.2 != .lamp || !fits e l x

/-- R48: at the end of the trunk nothing waits for TD and TD sends nothing. -/
def trunkEndLaw (d : Dev) : Bool :=
  !d.env.straps.endOfTrunk || (d.live.tsw.tdQueue.isEmpty && d.live.tsw.tdSending.isNone)

/-! ## The words of the statements -/

/-- The live state of a state. -/
def State.live (s : State) : Live := s.dev.live

/-- The record of a bay. -/
def State.bay (s : State) (b : Bay) : BayRec := s.dev.live.bay b

/-- `s` with its part changed to `d`, and what the part then does of itself done. -/
def State.becomes (s : State) (d : Dev) : State := { s with dev := settle d }

/-- `s` with its live state changed to `l`, and what the part then does of itself done. -/
def State.goes (s : State) (l : Live) : State := s.becomes { s.dev with live := l }

/-- A live state with a response in the MRSP slot. -/
def Live.answered (l : Live) (tag op : Byte) (status : Status) (data : List Byte) : Live :=
  { l with mgu := { l.mgu with mrsp := some { tag := tag, op := op, status := status, data := data } } }

/-- `s` with its live state changed to `l` by an operation that MGU has answered without data. -/
def State.answers (s : State) (tag op : Byte) (status : Status) (l : Live) : State := s.goes (l.answered tag op status [])

/-- The row strap gives the part an address. -/
def addressed (s : State) : Bool := s.dev.env.straps.addressed

/-- R165: MGU executes an operation at once and does not answer LOADING. -/
def ready (s : State) : Bool :=
  addressed s && !s.live.mgu.loader.running && s.live.mgu.queue.isEmpty && s.live.mgu.mrsp.isNone

/-- Nothing is left for the part to do of itself: both transmitters are busy or have nothing to send, MGU has no frame it could
execute, and a slot is in progress or the walk is halted. -/
def quiet (d : Dev) : Bool :=
  (d.live.tsw.tdSending.isSome || d.live.tsw.tdQueue.isEmpty) && (d.live.tsw.tuSending.isSome || (arbiterChoice d).isNone) &&
    (d.live.mgu.queue.isEmpty || !mguFree d) && (d.live.walk.slot.isSome || !walkRuns d.env d.live)

/-- What the PSTAT of a reply writes in the record of a bay whose plug it does not change, and what BLM notes of the exchange
(R30, R37). -/
def replied (r : Reply) (samplePoll : Bool) (x : BayRec) : BayRec :=
  { x with
    blm :=
      { x.blm with
        missCount := 0
        link := .online
        plugIn := r.pstat.plugIn
        actual := { heater := r.pstat.heaterOn, latch := r.pstat.latchReleased, contactor := r.pstat.contactorClosed }
        dirty := x.blm.desired != { heater := r.pstat.heaterOn, latch := r.pstat.latchReleased, contactor := r.pstat.contactorClosed }
        recent := .reply r.pstat.samplePending samplePoll
        sampleOwed := x.blm.recent == .reply true true }
    frd := { x.frd with alertSeen := r.pstat.alert }
    php := { x.php with heaterReported := r.pstat.heaterOn }
    fal := { x.fal with contactorReported := r.pstat.contactorClosed }
    dpc := { x.dpc with latchReported := r.pstat.latchReleased } }

/-- The slot in progress has ended and the walk has moved on (R24, R25). -/
def Live.slotEnded (l : Live) (e : Env) : Live :=
  { l with
    walk :=
      { pointer :=
          if l.walk.restart = true ∨ e.tables.poll[l.walk.pointer].last = true ∨ l.walk.pointer = 31 then 0 else l.walk.pointer + 1
        restart := false
        slot := none } }

/-- A bay after LSW has driven the lamp at `p` (R82): the next tag, the drive range, and the LDRV in the job slot where that is
empty or holds an LDRV, behind another owner's frame as LSW's claim (R34). -/
def driven (x : LampEntry) (p : Nat × Nat) (tries : Nat) (r : BayRec) : BayRec :=
  let frame : JobFrame := .ldrv x.circuit x.high x.res12 x.long ((r.lsw.tagCounter + 1) % 16)
  { r with
    lsw :=
      { r.lsw with
        tagCounter := (r.lsw.tagCounter + 1) % 16
        stepTag := (r.lsw.tagCounter + 1) % 16
        pointer := some p
        visits := 0
        tries := tries
        driveSent := false }
    blm := match r.blm.job with
      | none => { r.blm with job := some ⟨frame, false⟩ }
      | some j => match j.frame with
        | .ldrv .. => { r.blm with job := some ⟨frame, false⟩, lastHolder := .lsw }
        | _ => { r.blm with claimLsw := some frame }
    scv := { r.scv with driveHigh := x.high } }

/-- R85: the result of a lamp sample whose current on the drive range is `i`. -/
def sampleResult (x : LampEntry) (code i : Nat) : LampResult :=
  if 4095 ≤ code then .overLimit
  else if x.maximum < i then .overLimit
  else if x.minimum ≤ i then .ok
  else if x.minimum / 4 ≤ i then .dim
  else .openCircuit

/-- A bay after LSW has written a result at lamp `p` and counted it (R86). -/
def resulted (p : Nat × Nat) (x : LampResult) (r : BayRec) : BayRec :=
  { r with
    lsw :=
      { r.lsw with
        map := r.lsw.map.setIfInBounds ((p.1 - 1) * 12 + (p.2 - 1)) x
        counts := match x with
          | .ok => { r.lsw.counts with ok := r.lsw.counts.ok + 1 }
          | .dim => { r.lsw.counts with dim := r.lsw.counts.dim + 1 }
          | .openCircuit => { r.lsw.counts with openCircuit := r.lsw.counts.openCircuit + 1 }
          | .overLimit => { r.lsw.counts with overLimit := r.lsw.counts.overLimit + 1 }
          | .noMeasure => { r.lsw.counts with noMeasure := r.lsw.counts.noMeasure + 1 }
          | .notTested => r.lsw.counts } }

/-- The loader run has ended with a result (R174): START is added, and the walk is at entry 0, or will be when its slot ends. -/
def Live.loaderEnded (l : Live) (e : Env) (result : LoaderResult) : Live :=
  addReason e .row .start
    { l with
      mgu :=
        { l.mgu with
          loader :=
            { l.mgu.loader with
              running := false
              result := result
              resultWritten := l.mgu.loader.written } }
      walk := match l.walk.slot with
        | none => { l.walk with pointer := 0, restart := false }
        | some _ => { l.walk with restart := true } }

/-- The entries of one table written one behind the other from an index on, until one fails its field check (R166): how many were
written, and the part they leave. -/
def writtenInOrder (t : TableId) : Nat → List (List Byte) → Dev → Nat × Dev
  | _, [], d => (0, d)
  | i, x :: rest, d =>
    match writeEntry t i x d with
    | none => (0, d)
    | some d1 => ((writtenInOrder t (i + 1) rest d1).1 + 1, (writtenInOrder t (i + 1) rest d1).2)

/-- A bay whose read or clear has ended ABORTED with a cause (R137). -/
def aborted (cause : AbortCause) (r : BayRec) : BayRec :=
  { r with
    blm := r.blm.withdraw .frd
    frd :=
      { r.frd with
        status := .aborted
        cause := cause
        partialBytes := []
        current := none
        carried := false } }

/-- A bay after FRD has started a read (R132), its job slot holding nothing else. -/
def readStarted (r : BayRec) : BayRec :=
  { r with
    blm := { r.blm with job := some ⟨.crd 0 32, false⟩ }
    frd :=
      { r.frd with
        list := []
        blocking := 0
        lost := 0
        imageRecords := 0
        parsed := 0
        readPoint := 0
        imageEnd := none
        partialBytes := []
        attempts := 0
        busy := 0
        status := .reading
        cause := .none
        current := some (.crd 0 32)
        carried := false } }

/-- A bay after the answer to FRD's frame has removed it and FRD has placed a frame behind it (R34, R136, R144). -/
def placedAgain (f : JobFrame) (r : BayRec) : BayRec :=
  { r with
    blm := { r.blm with job := some ⟨f, false⟩, lastHolder := .frd }
    frd := { r.frd with current := some f, carried := false } }

/-! ## All of them -/

/-- Every statement of the manual about the whole part. -/
def safe (d : Dev) : Bool :=
  let l := d.live
  cellLaw l && faultLaw l && cacheLaw l && l.bays.toList.all shareLaw && feederLaw d.env l && l.bays.toList.all heaterLaw &&
    l.bays.toList.all driveLaw && departureLaw l && orderLaw d.env l && clearanceLaw l && allBays.all (latchLaw l) &&
    ringLaw d.env l

end Sys2Proof.Machine
end

