-- ==== Sys2Proof/Certificates/Slice0/Obligations.lean ====
section
/-! DEFINITION. The statements for the provers. `s.goes l` is `s` with its live state changed to `l`, and what the part then does
of itself done (grants of idle transmitters, MGU's next operation, the next slot); the first section says what that can change. -/
open Sys2Proof Sys2Proof.Machine

/-! ## One step, and what the part does of itself -/

/-- A step runs the command at the front of the queue with the rest left waiting, every command answers a next state and leaves
the rest as it was, and on an empty queue the block idles, which is the model's choice (log entry 10). -/
def Obligations.StepRunsTheFrontCommand : Prop :=
  (∀ (c : Instr) (s : State),
    step { s with pending := c :: s.pending } = exec c s ∧ ∃ t, exec c s = .next t ∧ t.pending = s.pending) ∧
  ∀ s : State, s.pending = [] → step s = .next s

/-- What the part does of itself when MGU has no operation to execute (R24, R28, R48 to R50, R172). An idle TD transmitter takes the
head of its queue. An idle TU transmitter takes the forward head, the response, or a report that empties the reason set of the
number at the ring's head, and lastGrant notes which. The walk goes as `beginSlot` has it; a slot that begins with an exchange marks
its frame sent at its bay, and a slot in progress stands. Everything else stands, and when nothing is left to do nothing changes. That
LSW and FRD mark their frame as transmitted, for the counting of R84 and R136, is the model's reading (log entry 29). -/
def Obligations.SettlingTouchesOnlyTheLines : Prop :=
  (∀ d : Dev, quiet d = true → settle d = d) ∧
  ∀ d : Dev, d.live.mgu.queue = [] ∨ d.live.mgu.mrsp.isSome = true →
      (settle d).env = d.env ∧ (settle d).live.mgu = d.live.mgu ∧ (settle d).live.cache = d.live.cache ∧
      (settle d).live.pool = d.live.pool ∧ (settle d).live.sampleRejects = d.live.sampleRejects ∧
      (settle d).live.fal = d.live.fal ∧ (settle d).live.departures = d.live.departures ∧
      (settle d).live.tsw.tuCounts = d.live.tsw.tuCounts ∧ (settle d).live.tsw.tdCounts = d.live.tsw.tdCounts ∧
      (settle d).live.walk.pointer = d.live.walk.pointer ∧ (settle d).live.walk.restart = d.live.walk.restart ∧
      (match d.live.tsw.tdSending, d.live.tsw.tdQueue with
        | none, f :: rest => (settle d).live.tsw.tdSending = some f ∧ (settle d).live.tsw.tdQueue = rest
        | x, q => (settle d).live.tsw.tdSending = x ∧ (settle d).live.tsw.tdQueue = q) ∧
      (match d.live.tsw.tuSending, d.live.tsw.tuQueue, d.env.straps.addressed, d.live.mgu.mrsp, d.live.reports.ring,
          d.live.tsw.lastGrant with
        | none, f :: rest, _, _, _, .localLane =>
          (settle d).live.tsw.tuSending = some ⟨f, false⟩ ∧ (settle d).live.tsw.tuQueue = rest ∧
            (settle d).live.tsw.lastGrant = .forward ∧ (settle d).live.reports = d.live.reports
        | none, q, true, some m, _, _ =>
          (settle d).live.tsw.tuSending =
            some ⟨⟨0, 0, d.env.straps.row.val, 0, 0x02, 15, [m.tag, m.op, byteOf m.status.code] ++ m.data⟩, true⟩ ∧
            (settle d).live.tsw.tuQueue = q ∧ (settle d).live.tsw.lastGrant = .localLane ∧
            (settle d).live.reports = d.live.reports
        | none, q, true, none, n :: rest, _ =>
          (settle d).live.tsw.tuSending =
            some ⟨⟨0, 0, d.env.straps.row.val, 0, 0x03, 15, reportPayload d.env d.live n⟩, false⟩ ∧
            (settle d).live.tsw.tuQueue = q ∧ (settle d).live.tsw.lastGrant = .localLane ∧
            (settle d).live.reports.ring = rest ∧ (settle d).live.reports.of n = 0 ∧
            ∀ k, k ≠ n → (settle d).live.reports.of k = d.live.reports.of k
        | none, f :: rest, _, _, _, _ =>
          (settle d).live.tsw.tuSending = some ⟨f, false⟩ ∧ (settle d).live.tsw.tuQueue = rest ∧
            (settle d).live.tsw.lastGrant = .forward ∧ (settle d).live.reports = d.live.reports
        | x, q, _, _, _, g =>
          (settle d).live.tsw.tuSending = x ∧ (settle d).live.tsw.tuQueue = q ∧ (settle d).live.tsw.lastGrant = g ∧
            (settle d).live.reports = d.live.reports) ∧
      (settle d).live.walk = (beginSlot d.env d.live).walk ∧
      (d.live.walk.slot.isSome = true → (settle d).live.walk = d.live.walk) ∧
      ∀ b : Bay,
        ((∀ (sent : SentFrame) (timeout : Nat) (fate : SlotFate),
            (settle d).live.walk.slot ≠ some ⟨.exchange b sent, timeout, fate⟩) ∨ d.live.walk.slot.isSome = true →
          (settle d).live.bay b = d.live.bay b) ∧
        ∀ (sent : SentFrame) (timeout : Nat) (fate : SlotFate), d.live.walk.slot = none →
          (settle d).live.walk.slot = some ⟨.exchange b sent, timeout, fate⟩ →
          (settle d).live.bay b =
            match sent with
            | .job f =>
              { d.live.bay b with
                blm :=
                  { (d.live.bay b).blm with
                    job := (d.live.bay b).blm.job.map fun j => { j with sent := true }
                    turn :=
                      if f = .ident ∨ ((d.live.bay b).blm.job.any fun j => j.sent) = true then (d.live.bay b).blm.turn else .job }
                lsw := { (d.live.bay b).lsw with driveSent := (d.live.bay b).lsw.driveSent || f.owner == .lsw }
                frd := { (d.live.bay b).frd with carried := (d.live.bay b).frd.carried || f.owner == .frd } }
            | .office _ =>
              { d.live.bay b with
                blm :=
                  { (d.live.bay b).blm with
                    headSent := true
                    turn := if (d.live.bay b).blm.headSent = true then (d.live.bay b).blm.turn else .office } }
            | _ => d.live.bay b

/-! ## Resets -/

/-- After power-on reset and pin reset every bay's record holds the values of R21, R39, R66, R67, R95, R114, R129, R151 and R153. -/
def Obligations.ResetsLeaveTheBayRecords : Prop :=
  ∀ (row : Fin 64) (endOfTrunk : Bool) (memSize : Fin 4) (s : State),
    ∃ t, exec (.powerOnReset row endOfTrunk memSize) s = .next t ∧ exec (.pinReset row endOfTrunk memSize) s = .next t ∧
      ∀ b : Bay,
        (t.bay b).btb =
          { occupancy := .unknown, coach := 0, profile := 0, attempts := 0, identFailed := false, dupCoach := false,
            profileMissing := false, purpose := .none, lastRefused := 0 } ∧
        (t.bay b).blm =
          { queue := [], headSent := false, job := none, claimLsw := none, claimFrd := none, lastHolder := .frd,
            desired := { heater := false, latch := false, contactor := false }, dirty := true, link := .unheard,
            missCount := 0, turn := .office, recent := .none, sampleOwed := false, plugIn := false,
            actual := { heater := false, latch := false, contactor := false } } ∧
        (t.bay b).scv.held = none ∧ (t.bay b).scv.age = 255 ∧ (t.bay b).scv.driveHigh = false ∧
        (∀ i : Fin 96, (t.bay b).lsw.map.get i = .notTested) ∧ (t.bay b).lsw.sweep = .idle ∧
        (t.bay b).lsw.window = { groupFirst := 1, groupLast := 8, positionFirst := 1, positionLast := 12 } ∧
        (t.bay b).lsw.order = { positionMajor := false, reverseGroup := false, reversePosition := false } ∧
        (t.bay b).lsw.counts = { ok := 0, dim := 0, openCircuit := 0, overLimit := 0, noMeasure := 0 } ∧
        (t.bay b).lsw.pointer = none ∧ (t.bay b).lsw.tries = 0 ∧ (t.bay b).lsw.visits = 0 ∧
        (t.bay b).lsw.tagCounter = 0 ∧ (t.bay b).lsw.pauseMarker = false ∧ (t.bay b).lsw.gate = false ∧
        (t.bay b).frd.status = .none ∧ (t.bay b).frd.cause = .none ∧ (t.bay b).frd.list = [] ∧
        (t.bay b).frd.blocking = 0 ∧ (t.bay b).frd.lost = 0 ∧ (t.bay b).frd.imageRecords = 0 ∧ (t.bay b).frd.parsed = 0 ∧
        (t.bay b).frd.readPoint = 0 ∧ (t.bay b).frd.imageEnd = none ∧ (t.bay b).frd.partialBytes = [] ∧
        (t.bay b).frd.current = none ∧ (t.bay b).frd.attempts = 0 ∧ (t.bay b).frd.busy = 0 ∧
        (t.bay b).frd.clearTimer = 0 ∧ (t.bay b).frd.alertSeen = false ∧ (t.bay b).frd.gate = false ∧
        (t.bay b).php =
          { state := .none, target := 20, lead := 0, unreachable := false, capped := false, staleCabin := false, late := false,
            gate := false, pauseRequested := false, resume := .heating, heaterReported := false } ∧
        (t.bay b).fal.key = none ∧ (t.bay b).fal.base.state = .none ∧ (t.bay b).fal.lamp.state = .none ∧
        (t.bay b).fal.heat.state = .none ∧ (t.bay b).fal.contactorReported = false ∧
        (t.bay b).dpc =
          { lampGate := false, faultGate := false, heatGate := false, latchReported := false, lastOutcome := .none }

/-- After power-on reset and pin reset the row's own state holds the values of R23, R39, R51, R57, R71, R99, R100, R129, R138, R151,
R152, R165, R171, R174 and Table 10-3, and the loader runs exactly when the ROW strap gives an address. -/
def Obligations.ResetsLeaveTheRow : Prop :=
  ∀ (row : Fin 64) (endOfTrunk : Bool) (memSize : Fin 4) (s : State),
    ∃ t, exec (.powerOnReset row endOfTrunk memSize) s = .next t ∧ exec (.pinReset row endOfTrunk memSize) s = .next t ∧
      t.dev.env.straps = { row := row, endOfTrunk := endOfTrunk, memSize := memSize } ∧
      t.live.tsw =
        { tuQueue := [], tdQueue := [], tuSending := none, tdSending := none, lastGrant := .localLane,
          tuCounts := { badFrame := 0, hopExpired := 0, overflow := 0 },
          tdCounts := { badFrame := 0, hopExpired := 0, overflow := 0 } } ∧
      t.live.walk = { pointer := 0, restart := false, slot := none } ∧ t.live.cache = [] ∧
      t.live.pool = { free := 256, starved := 0 } ∧ t.live.sampleRejects = 0 ∧
      t.live.fal = { queue := [], sequence := 0, overcommit := false } ∧ t.live.departures = [] ∧
      t.live.reports.row = 0 ∧ (∀ b : Bay, t.live.reports.bays[b] = 0) ∧ t.live.reports.ring = [] ∧
      t.live.mgu.queue = [] ∧ t.live.mgu.mrsp = none ∧
      t.live.mgu.loader.running = (decide (1 ≤ row.val) && decide (row.val ≤ 62)) ∧
      t.live.mgu.loader.result = .noImage ∧ t.live.mgu.loader.resultWritten = 0 ∧
      t.dev.env.clock = { minute := 0, second := 0, outside := 0, minutesNoTime := 0, timeStale := true } ∧
      t.dev.env.params =
        { replyTimeout := 4, missLimit := 3, cabinOffset := -80, cabinSpan := 180, fullScaleLow := 2000, fullScaleHigh := 16000,
          holdTime := 30, tolerance := 4, clearWindow := 30, releaseLead := 10, feederLimit := 0, defaultAction := .advise,
          autoLamp := false, autoRead := true, reportMask := 0x3FFFFF#22 } ∧
      (∀ i : Fin 224, t.dev.env.tables.route[i] =
        { downPass := true, upPass := true, maskUnknown := true, maskVacant := true, maskPlugged := true,
          maskOccupied := true }) ∧
      (∀ b : Bay, t.dev.env.tables.poll[b.val] = { target := some b, last := decide (b = 15) }) ∧
      (∀ i : Fin 16, t.dev.env.tables.poll[i.val + 16] = { target := none, last := false }) ∧
      (∀ p : Fin 8, t.dev.env.tables.profiles[p] =
        { valid := false, sharedSupply := false, baseLoad := 0, lampLoad := 0, groups := 0, positions := 0, heaterPower := 0,
          heatCapacity := 0, lossFactor := 0, margin := 0 }) ∧
      (∀ (p : Fin 8) (g : Fin 8) (q : Fin 12), t.dev.env.tables.lamps[p.val * 96 + (g.val * 12 + q.val)]? = some
        { present := false, critical := false, high := false, res12 := true, long := false, circuit := g.val * 12 + q.val + 1,
          minimum := 0, maximum := 0 }) ∧
      ∀ i : Fin 64, t.dev.env.tables.filter[i].inUse = false

/-- The state the model starts from is that of a power-on reset with row strap 1, END_OF_TRUNK clear and MEMSIZE 0, which are the
model's choice (log entry 1), and every law of the part holds in it. -/
def Obligations.TheFirstStateIsPowerOnReset : Prop :=
  exec (.powerOnReset 1 false 0) State.reset = .next State.reset ∧ safe State.reset.dev = true ∧
    overcommitLaw State.reset.dev.env State.reset.live = true ∧ bindingLaw State.reset.live = true ∧
    coachLaw State.reset.live = true ∧ trunkEndLaw State.reset.dev = true ∧ queueLaw State.reset.live = true ∧
    servedLaw State.reset.dev.env State.reset.live = true ∧ ∀ b : Bay, ownerLaw (State.reset.bay b) = true

/-! ## The loader -/

/-- A loader run ends by the steps of R174: the result and the entries written are stored, the running flag is cleared, START is
added, and the walk resumes at entry 0, behind a slot still in progress (log entry 19). A missing acknowledgement ends it with
NOACK and a byte 0 other than 0xC3 with NO_IMAGE; with the marker it goes on to the length. L bytes of records end it with OK, an
unknown table, a count of 0 and a start beyond the table with BAD_RECORD, and a next byte beyond the memory with OVERFLOW; the
order of the last two ends is the model's choice (log entry 26). Without a run NOACK and a byte do nothing: the model's choice (log
entry 5). -/
def Obligations.TheLoaderRunsEndByTheirResult : Prop :=
  (∀ s : State,
    (s.live.mgu.loader.running = true →
      exec .noack s = .next (s.goes
        (addReason s.dev.env .row .start
          { s.live with
            mgu :=
              { s.live.mgu with
                loader :=
                  { s.live.mgu.loader with
                    running := false
                    result := .noack
                    resultWritten := s.live.mgu.loader.written } }
            walk := match s.live.walk.slot with
              | none => { s.live.walk with pointer := 0, restart := false }
              | some _ => { s.live.walk with restart := true } }))) ∧
    (s.live.mgu.loader.running = false → exec .noack s = .next (s.goes s.live) ∧
      ∀ x : Byte, exec (.loaderByteRead x) s = .next (s.goes s.live))) ∧
  (∀ (s : State) (x : Byte), s.live.mgu.loader.running = true → s.live.mgu.loader.phase = .marker →
    (x = 0xC3#8 → exec (.loaderByteRead x) s = .next (s.goes
      { s.live with
        mgu :=
          { s.live.mgu with
            loader := { s.live.mgu.loader with phase := .lengthHigh, address := s.live.mgu.loader.address + 1 } } })) ∧
    (x ≠ 0xC3#8 → exec (.loaderByteRead x) s = .next (s.goes (s.live.loaderEnded s.dev.env .noImage)))) ∧
  (∀ (s : State) (x : Byte), s.live.mgu.loader.running = true → s.live.mgu.loader.phase = .lengthHigh →
    exec (.loaderByteRead x) s = .next (s.goes
      { s.live with
        mgu :=
          { s.live.mgu with
            loader := { s.live.mgu.loader with phase := .lengthLow x, address := s.live.mgu.loader.address + 1 } } })) ∧
  (∀ (s : State) (hi x : Byte), s.live.mgu.loader.running = true → s.live.mgu.loader.phase = .lengthLow hi →
    s.live.mgu.loader.address = 2 →
    exec (.loaderByteRead x) s = .next (s.goes
      (let l : Live :=
        { s.live with
          mgu :=
            { s.live.mgu with
              loader :=
                { s.live.mgu.loader with
                  phase := .recordTable
                  length := hi.toNat * 256 + x.toNat
                  address := 3 } } }
      if hi.toNat * 256 + x.toNat = 0 then l.loaderEnded s.dev.env .ok else l))) ∧
  (∀ (s : State) (x : Byte), s.live.mgu.loader.running = true → s.live.mgu.loader.phase = .recordTable →
    (x = 0 ∨ 6 < x.toNat → exec (.loaderByteRead x) s = .next (s.goes (s.live.loaderEnded s.dev.env .badRecord))) ∧
    ∀ table : TableId, tableOf x = some table →
      exec (.loaderByteRead x) s = .next (s.goes
        (let l : Live :=
          { s.live with
            mgu :=
              { s.live.mgu with
                loader :=
                  { s.live.mgu.loader with
                    phase := .recordStartHigh table
                    address := s.live.mgu.loader.address + 1 } } }
        if 3 + s.live.mgu.loader.length ≤ s.live.mgu.loader.address + 1 then l.loaderEnded s.dev.env .badRecord
        else if memorySize s.dev.env.straps ≤ s.live.mgu.loader.address + 1 then l.loaderEnded s.dev.env .overflow
        else l))) ∧
  ∀ (s : State) (x : Byte) (table : TableId) (start : Nat), s.live.mgu.loader.running = true →
    s.live.mgu.loader.phase = .recordCount table start → x = 0 ∨ table.size ≤ start →
    exec (.loaderByteRead x) s = .next (s.goes (s.live.loaderEnded s.dev.env .badRecord))

/-- The last byte of an entry of any table writes it and counts it, and leads to the next entry of the record, from its last to the next
record, and behind L bytes of records to the end with OK; an entry that fails its field check, and one behind the end of its table, end
the run with BAD_RECORD (R174, Table 11-6). That the entry beyond the table is judged at the last byte before it is the model's choice
(log entry 26), and that a slot in progress ends before the walk resumes its reading (log entry 19). -/
def Obligations.LoaderWritesARouteEntry : Prop :=
  (∀ (s : State) (i : Fin 224) (remaining : Nat) (actions masks : Byte),
    s.live.mgu.loader.running = true → s.live.mgu.loader.phase = .entry .route i.val remaining [actions] →
    2 ≤ remaining → i.val + 1 < 224 → actions.toNat < 4 → masks.toNat < 16 →
    s.live.mgu.loader.address + 1 < 3 + s.live.mgu.loader.length →
    s.live.mgu.loader.address + 1 < memorySize s.dev.env.straps →
    exec (.loaderByteRead masks) s = .next (s.becomes
      { env :=
          { s.dev.env with
            tables :=
              { s.dev.env.tables with
                route := s.dev.env.tables.route.set i
                  { downPass := actions.getLsbD 0, upPass := actions.getLsbD 1, maskUnknown := masks.getLsbD 0,
                    maskVacant := masks.getLsbD 1, maskPlugged := masks.getLsbD 2, maskOccupied := masks.getLsbD 3 } } }
        live :=
          { s.live with
            mgu :=
              { s.live.mgu with
                loader :=
                  { s.live.mgu.loader with
                    written := s.live.mgu.loader.written + 1
                    phase := .entry .route (i.val + 1) (remaining - 1) []
                    address := s.live.mgu.loader.address + 1 } } } })) ∧
  ∀ (s : State) (table : TableId) (i remaining : Nat) (bytes : List Byte) (x : Byte), s.live.mgu.loader.running = true →
    s.live.mgu.loader.phase = .entry table i remaining bytes → bytes.length + 1 = table.entryBytes →
    (writeEntry table i (bytes ++ [x]) s.dev = none →
      exec (.loaderByteRead x) s = .next (s.goes (s.live.loaderEnded s.dev.env .badRecord))) ∧
    ∀ d : Dev, writeEntry table i (bytes ++ [x]) s.dev = some d →
      (remaining ≠ 1 → i + 1 < table.size → d.live.mgu.loader.address + 1 < 3 + d.live.mgu.loader.length →
        d.live.mgu.loader.address + 1 < memorySize d.env.straps →
        exec (.loaderByteRead x) s = .next (s.becomes
          { d with
            live :=
              { d.live with
                mgu :=
                  { d.live.mgu with
                    loader :=
                      { d.live.mgu.loader with
                        written := d.live.mgu.loader.written + 1
                        phase := .entry table (i + 1) (remaining - 1) []
                        address := d.live.mgu.loader.address + 1 } } } })) ∧
      (remaining = 1 → d.live.mgu.loader.address + 1 < 3 + d.live.mgu.loader.length →
        d.live.mgu.loader.address + 1 < memorySize d.env.straps →
        exec (.loaderByteRead x) s = .next (s.becomes
          { d with
            live :=
              { d.live with
                mgu :=
                  { d.live.mgu with
                    loader :=
                      { d.live.mgu.loader with
                        written := d.live.mgu.loader.written + 1
                        phase := .recordTable
                        address := d.live.mgu.loader.address + 1 } } } })) ∧
      (remaining ≠ 1 → table.size ≤ i + 1 →
        exec (.loaderByteRead x) s = .next (s.becomes
          { d with
            live :=
              { d.live with
                mgu :=
                  { d.live.mgu with
                    loader := { d.live.mgu.loader with written := d.live.mgu.loader.written + 1 } } }.loaderEnded
                d.env .badRecord })) ∧
      (remaining = 1 → d.live.mgu.loader.address + 1 = 3 + d.live.mgu.loader.length →
        exec (.loaderByteRead x) s = .next (s.becomes
          { d with
            live :=
              { d.live with
                mgu :=
                  { d.live.mgu with
                    loader :=
                      { d.live.mgu.loader with
                        written := d.live.mgu.loader.written + 1
                        phase := .recordTable
                        address := d.live.mgu.loader.address + 1 } } }.loaderEnded d.env .ok }))

/-! ## The trunk -/

/-- The received bytes spell a frame exactly when they are the bytes that frame is sent as and its fields are in range
(R42, R175, Table 11-1). -/
def Obligations.TrunkFramesReadExactlyAsSent : Prop :=
  ∀ (bytes : List Byte) (f : TrunkFrame),
    parseTrunk bytes = some f ↔
      (f.dr ≤ 63 ∧ f.db ≤ 31 ∧ f.sr < 256 ∧ f.sb < 256 ∧ f.hop ≤ 15 ∧ f.payload.length ≤ 120 ∧ bytes = f.bytes)

/-- A bad frame, and one whose reception breaks off, is counted once at its port and does nothing else; the same holds for a frame
of the own row with DB 17 to 30, for a bay with a kind below 0x20, and for the row with a kind that is no request (R42 to R45,
R55). -/
def Obligations.BadFramesAreOnlyCounted : Prop :=
  (∀ (s : State) (bytes : List Byte),
    (exec (.receptionBreaksOff .tu) s = .next (s.goes
      { s.live with
        tsw :=
          { s.live.tsw with
            tuCounts := { s.live.tsw.tuCounts with badFrame := bump s.live.tsw.tuCounts.badFrame } } })) ∧
    (exec (.receptionBreaksOff .td) s = .next (s.goes
      { s.live with
        tsw :=
          { s.live.tsw with
            tdCounts := { s.live.tsw.tdCounts with badFrame := bump s.live.tsw.tdCounts.badFrame } } })) ∧
    (parseTrunk bytes = none →
      exec (.trunkFrameReceived .tu bytes) s = exec (.receptionBreaksOff .tu) s ∧
      exec (.trunkFrameReceived .td bytes) s = exec (.receptionBreaksOff .td) s)) ∧
  ∀ (s : State) (port : Port) (bytes : List Byte) (f : TrunkFrame), addressed s = true → parseTrunk bytes = some f →
    f.dr = s.dev.env.straps.row.val →
    ((17 ≤ f.db ∧ f.db ≤ 30) ∨ (f.db ≠ 0 ∧ f.kind.toNat < 32) ∨ (f.db = 0 ∧ f.kind ≠ 0x01#8 ∧ f.kind ≠ 0x04#8)) →
    exec (.trunkFrameReceived port bytes) s = exec (.receptionBreaksOff port) s

/-- A frame for another row is relayed (R43, R46, Table 3-1). Toward TU one for a lower row keeps its HOP and one for a higher row
loses a hop or expires; toward TD it is discarded at the end of the trunk, one for a higher row keeps its HOP and one for a lower
row loses a hop or expires; a full queue loses the frame. Losses count against the port of arrival. A frame with DR 63 is relayed as
well as taken: toward TD it keeps its HOP, toward TU it loses a hop or expires, and its taken copy acts as the same frame for the
own row does behind the relay. A part without an address relays every good frame with its HOP as it is (R56). -/
def Obligations.FramesForOtherRowsAreRelayed : Prop :=
  (∀ (s : State) (bytes : List Byte) (f : TrunkFrame), addressed s = true → parseTrunk bytes = some f →
    f.dr ≠ s.dev.env.straps.row.val → f.dr ≠ 63 →
    exec (.trunkFrameReceived .td bytes) s = .next (s.goes
      (if s.dev.env.straps.row.val < f.dr ∧ f.hop = 0 then
        { s.live with
          tsw :=
            { s.live.tsw with
              tdCounts := { s.live.tsw.tdCounts with hopExpired := bump s.live.tsw.tdCounts.hopExpired } } }
      else if 6 ≤ s.live.tsw.tuQueue.length then
        { s.live with
          tsw :=
            { s.live.tsw with
              tdCounts := { s.live.tsw.tdCounts with overflow := bump s.live.tsw.tdCounts.overflow } } }
      else
        { s.live with
          tsw :=
            { s.live.tsw with
              tuQueue := s.live.tsw.tuQueue ++
                [{ f with hop := if s.dev.env.straps.row.val < f.dr then f.hop - 1 else f.hop }] } })) ∧
    exec (.trunkFrameReceived .tu bytes) s = .next (s.goes
      (if s.dev.env.straps.endOfTrunk = true then s.live
      else if f.dr < s.dev.env.straps.row.val ∧ f.hop = 0 then
        { s.live with
          tsw :=
            { s.live.tsw with
              tuCounts := { s.live.tsw.tuCounts with hopExpired := bump s.live.tsw.tuCounts.hopExpired } } }
      else if 6 ≤ s.live.tsw.tdQueue.length then
        { s.live with
          tsw :=
            { s.live.tsw with
              tuCounts := { s.live.tsw.tuCounts with overflow := bump s.live.tsw.tuCounts.overflow } } }
      else
        { s.live with
          tsw :=
            { s.live.tsw with
              tdQueue := s.live.tsw.tdQueue ++
                [{ f with hop := if f.dr < s.dev.env.straps.row.val then f.hop - 1 else f.hop }] } }))) ∧
  (∀ (s : State) (bytes own : List Byte) (f : TrunkFrame), addressed s = true → parseTrunk bytes = some f → f.dr = 63 →
    parseTrunk own = some { f with dr := s.dev.env.straps.row.val } →
    let withTsw (tsw : TswState) : State := { s with dev := { s.dev with live := { s.live with tsw := tsw } } }
    exec (.trunkFrameReceived .td bytes) s = exec (.trunkFrameReceived .td own) (withTsw
      (if f.hop = 0 then
        { s.live.tsw with tdCounts := { s.live.tsw.tdCounts with hopExpired := bump s.live.tsw.tdCounts.hopExpired } }
      else if 6 ≤ s.live.tsw.tuQueue.length then
        { s.live.tsw with tdCounts := { s.live.tsw.tdCounts with overflow := bump s.live.tsw.tdCounts.overflow } }
      else { s.live.tsw with tuQueue := s.live.tsw.tuQueue ++ [{ f with hop := f.hop - 1 }] })) ∧
    exec (.trunkFrameReceived .tu bytes) s = exec (.trunkFrameReceived .tu own) (withTsw
      (if s.dev.env.straps.endOfTrunk = true then s.live.tsw
      else if 6 ≤ s.live.tsw.tdQueue.length then
        { s.live.tsw with tuCounts := { s.live.tsw.tuCounts with overflow := bump s.live.tsw.tuCounts.overflow } }
      else { s.live.tsw with tdQueue := s.live.tsw.tdQueue ++ [f] }))) ∧
  ∀ (s : State) (bytes : List Byte) (f : TrunkFrame), addressed s = false → parseTrunk bytes = some f →
    exec (.trunkFrameReceived .td bytes) s = .next (s.goes
      { s.live with
        tsw :=
          if 6 ≤ s.live.tsw.tuQueue.length then
            { s.live.tsw with tdCounts := { s.live.tsw.tdCounts with overflow := bump s.live.tsw.tdCounts.overflow } }
          else { s.live.tsw with tuQueue := s.live.tsw.tuQueue ++ [f] } }) ∧
    exec (.trunkFrameReceived .tu bytes) s = .next (s.goes
      { s.live with
        tsw :=
          if s.dev.env.straps.endOfTrunk = true then s.live.tsw
          else if 6 ≤ s.live.tsw.tdQueue.length then
            { s.live.tsw with tuCounts := { s.live.tsw.tuCounts with overflow := bump s.live.tsw.tuCounts.overflow } }
          else { s.live.tsw with tdQueue := s.live.tsw.tdQueue ++ [f] } })

/-- An office frame for one bay of the own row is dropped, accepted into the bay's queue, or refused with the kind recorded and
DOWN_REFUSED added; the mask of the kind's route entry admits by the four occupancies, and never a DISABLED bay (R33, R43, R45,
R52). -/
def Obligations.DownFrameForOneBay : Prop :=
  ∀ (s : State) (port : Port) (bytes : List Byte) (f : TrunkFrame) (b : Bay) (k : Fin 224), addressed s = true →
    parseTrunk bytes = some f → f.dr = s.dev.env.straps.row.val → f.db = bayNumber b → f.kind.toNat = 32 + k.val →
    exec (.trunkFrameReceived port bytes) s = .next (s.goes
      (if s.dev.env.tables.route[k].downPass = false then s.live
      else if (match (s.bay b).btb.occupancy with
          | .unknown => s.dev.env.tables.route[k].maskUnknown
          | .vacant => s.dev.env.tables.route[k].maskVacant
          | .plugged => s.dev.env.tables.route[k].maskPlugged
          | .occupied => s.dev.env.tables.route[k].maskOccupied
          | .disabled => false) = true ∧ (s.bay b).blm.queue.length < 4 ∧ f.payload.length ≤ 48 then
        s.live.modBlm b fun m => { m with queue := m.queue ++ [{ kind := f.kind, payload := f.payload }] }
      else addBayReason s.dev.env b .downRefused (s.live.modBtb b fun r => { r with lastRefused := f.kind })))

/-- An office frame with DB 31 is decided for each bay by itself (R53, by R52): it is dropped for all, it leaves a DISABLED bay as it
was, it joins the queue of a bay that its mask admits and that has room, and every other bay refuses it, with the kind recorded and
DOWN_REFUSED in its reason set. Nothing else changes but the ring, which the refusing bays join whose masked set was empty, in
ascending order, which is the model's choice (log entry 37). -/
def Obligations.DownFrameForAllBays : Prop :=
  ∀ (s : State) (port : Port) (bytes : List Byte) (f : TrunkFrame) (k : Fin 224), addressed s = true →
    parseTrunk bytes = some f → f.dr = s.dev.env.straps.row.val → f.db = 31 → f.kind.toNat = 32 + k.val →
    let accepts : Bay → Bool := fun b =>
      (match (s.bay b).btb.occupancy with
        | .unknown => s.dev.env.tables.route[k].maskUnknown
        | .vacant => s.dev.env.tables.route[k].maskVacant
        | .plugged => s.dev.env.tables.route[k].maskPlugged
        | .occupied => s.dev.env.tables.route[k].maskOccupied
        | .disabled => false) && decide ((s.bay b).blm.queue.length < 4) && decide (f.payload.length ≤ 48)
    let refuses : Bay → Bool := fun b =>
      s.dev.env.tables.route[k].downPass && (s.bay b).btb.occupancy != .disabled && !accepts b
    ∃ l : Live, exec (.trunkFrameReceived port bytes) s = .next (s.goes l) ∧
      l = { s.live with bays := l.bays, reports := l.reports } ∧ l.reports.row = s.live.reports.row ∧
      (∀ b : Bay,
        l.bay b =
          if s.dev.env.tables.route[k].downPass = true ∧ accepts b = true then
            { s.bay b with
              blm := { (s.bay b).blm with queue := (s.bay b).blm.queue ++ [{ kind := f.kind, payload := f.payload }] } }
          else if refuses b = true then
            { s.bay b with btb := { (s.bay b).btb with lastRefused := f.kind } }
          else s.bay b) ∧
      (∀ b : Bay, l.reports.bays[b] = if refuses b = true then s.live.reports.bays[b] ||| 0x10000#22 else s.live.reports.bays[b]) ∧
      l.reports.ring = s.live.reports.ring ++
        ((List.finRange 16).filter fun b => refuses b && s.dev.env.params.reportMask.getLsbD 16 &&
          s.live.reports.bays[b] &&& s.dev.env.params.reportMask == 0).map .bay

/-- A MGMT frame for the own row joins MGU's input queue, or is lost and counted when 4 frames wait there (R44). -/
def Obligations.MgmtFramesJoinTheInputQueue : Prop :=
  ∀ (s : State) (bytes : List Byte) (f : TrunkFrame), addressed s = true → parseTrunk bytes = some f →
    f.dr = s.dev.env.straps.row.val → f.db = 0 → f.kind = 0x01#8 →
    (s.live.mgu.queue.length < 4 → ∀ port : Port,
      exec (.trunkFrameReceived port bytes) s = .next (s.goes
        { s.live with mgu := { s.live.mgu with queue := s.live.mgu.queue ++ [f.payload] } })) ∧
    (4 ≤ s.live.mgu.queue.length →
      exec (.trunkFrameReceived .td bytes) s = .next (s.goes
        { s.live with
          tsw :=
            { s.live.tsw with
              tdCounts := { s.live.tsw.tdCounts with overflow := bump s.live.tsw.tdCounts.overflow } } }) ∧
      exec (.trunkFrameReceived .tu bytes) s = .next (s.goes
        { s.live with
          tsw :=
            { s.live.tsw with
              tuCounts := { s.live.tsw.tuCounts with overflow := bump s.live.tsw.tuCounts.overflow } } }))

/-- A TIME frame whose length or values are out of range is discarded. One in range, also with DR 63, writes the week minute, the
second and To, ends the count of minutes without TIME and clears TIME_STALE (R44, R98). Where minute and To are those held, or where
only To changes and no bay has a plan, it does nothing else; where the minute changes the blocks take a minute event, at which every
cabin age rises by one. The held values stand; so do the drive ranges, stated where the step admits no share. -/
def Obligations.TimeFramesSetTheClock : Prop :=
  (∀ (s : State) (port : Port) (bytes : List Byte) (f : TrunkFrame), addressed s = true → parseTrunk bytes = some f →
    f.dr = s.dev.env.straps.row.val → f.db = 0 → f.kind = 0x04#8 →
    (f.payload.length ≠ 4 → exec (.trunkFrameReceived port bytes) s = .next (s.goes s.live)) ∧
    ∀ m1 m0 second outside : Byte, f.payload = [m1, m0, second, outside] →
      ((10079 < m1.toNat * 256 + m0.toNat ∨ 59 < second.toNat ∨ outside.toInt < -80 ∨ 99 < outside.toInt) →
        exec (.trunkFrameReceived port bytes) s = .next (s.goes s.live)) ∧
      (m1.toNat * 256 + m0.toNat ≤ 10079 → second.toNat ≤ 59 → -80 ≤ outside.toInt → outside.toInt ≤ 99 →
        m1.toNat * 256 + m0.toNat = s.dev.env.clock.minute →
        outside.toInt = s.dev.env.clock.outside ∨ (∀ b : Bay, (s.bay b).php.state = .none) →
        exec (.trunkFrameReceived port bytes) s = .next (s.becomes
          { s.dev with
            env :=
              { s.dev.env with
                clock :=
                  { minute := s.dev.env.clock.minute
                    second := second.toNat
                    outside := outside.toInt
                    minutesNoTime := 0
                    timeStale := false } } }))) ∧
  ∀ (s : State) (port : Port) (bytes : List Byte) (f : TrunkFrame) (m1 m0 second outside : Byte), addressed s = true →
    parseTrunk bytes = some f → f.dr = s.dev.env.straps.row.val ∨ f.dr = 63 → f.db = 0 → f.kind = 0x04#8 →
    f.payload = [m1, m0, second, outside] → m1.toNat * 256 + m0.toNat ≤ 10079 → second.toNat ≤ 59 → -80 ≤ outside.toInt →
    outside.toInt ≤ 99 → s.live.mgu.queue = [] →
    ∃ t, exec (.trunkFrameReceived port bytes) s = .next t ∧
      t.dev.env =
        { s.dev.env with
          clock :=
            { minute := m1.toNat * 256 + m0.toNat
              second := second.toNat
              outside := outside.toInt
              minutesNoTime := 0
              timeStale := false } } ∧
      ∀ b : Bay, (t.bay b).scv.held = (s.bay b).scv.held ∧
        (t.bay b).scv.age =
          (if m1.toNat * 256 + m0.toNat = s.dev.env.clock.minute then (s.bay b).scv.age else bumpTo 255 (s.bay b).scv.age) ∧
        ((∀ c : Bay, (s.bay c).php.state = .none) → s.live.departures = [] → s.live.fal.queue = [] →
          (t.bay b).scv.driveHigh = (s.bay b).scv.driveHigh)

/-- At the end of a transmission on TU a response sent leaves the MRSP slot, and the idle transmitter is granted: the requester
not granted last when both wait, the one that waits otherwise; the lane sends a response before a report (R49, R50, R172). -/
def Obligations.TheArbiterTakesTurns : Prop :=
  ∀ (s : State) (x : TuTransmission), s.live.tsw.tuSending = some x → addressed s = true → s.live.mgu.queue = [] →
    (x.isMrsp = true → ∃ t, exec .tuTransmitEnd s = .next t ∧ t.live.mgu.mrsp = none) ∧
    (x.isMrsp = false → ∃ t, exec .tuTransmitEnd s = .next t ∧ t.live.mgu = s.live.mgu ∧
      match s.live.tsw.tuQueue, s.live.mgu.mrsp, s.live.reports.ring, s.live.tsw.lastGrant with
      | [], none, [], _ =>
        t.live.tsw.tuSending = none ∧ t.live.tsw.lastGrant = s.live.tsw.lastGrant ∧ t.live.reports = s.live.reports
      | f :: rest, none, [], _ =>
        t.live.tsw.tuSending = some ⟨f, false⟩ ∧ t.live.tsw.tuQueue = rest ∧ t.live.tsw.lastGrant = .forward ∧
          t.live.reports = s.live.reports
      | f :: rest, _, _, .localLane =>
        t.live.tsw.tuSending = some ⟨f, false⟩ ∧ t.live.tsw.tuQueue = rest ∧ t.live.tsw.lastGrant = .forward ∧
          t.live.reports = s.live.reports
      | q, some m, _, _ =>
        t.live.tsw.tuSending =
          some ⟨⟨0, 0, s.dev.env.straps.row.val, 0, 0x02, 15, [m.tag, m.op, byteOf m.status.code] ++ m.data⟩, true⟩ ∧
          t.live.tsw.tuQueue = q ∧ t.live.tsw.lastGrant = .localLane ∧ t.live.reports = s.live.reports
      | q, none, n :: rest, _ =>
        t.live.tsw.tuSending =
          some ⟨⟨0, 0, s.dev.env.straps.row.val, 0, 0x03, 15, reportPayload s.dev.env s.live n⟩, false⟩ ∧
          t.live.tsw.tuQueue = q ∧ t.live.tsw.lastGrant = .localLane ∧ t.live.reports.ring = rest ∧
          t.live.reports.of n = 0 ∧ ∀ k, k ≠ n → t.live.reports.of k = s.live.reports.of k)

/-- The TD transmitter serves the TD-bound queue alone, from its head, and never stands idle while the queue holds a frame; at the
end of the trunk the queue stays empty and TD sends nothing (R48). -/
def Obligations.TdServesItsQueueInOrder : Prop :=
  (∀ s : State, ∃ t, exec .tdTransmitEnd s = .next t ∧
    t.live.tsw.tdSending = s.live.tsw.tdQueue.head? ∧ t.live.tsw.tdQueue = s.live.tsw.tdQueue.tail) ∧
  (∀ s t : State, (s.live.tsw.tdSending.isSome = true ∨ s.live.tsw.tdQueue = []) → step s = .next t →
    (t.live.tsw.tdSending.isSome = true ∨ t.live.tsw.tdQueue = [])) ∧
  ∀ s t : State, trunkEndLaw s.dev = true → step s = .next t → trunkEndLaw t.dev = true

/-- A report carries the number, its masked reasons in three bytes and a snapshot of 17 bytes for the row and of 47 for a bay, so
it fits the 120 bytes of a trunk payload (R172, R173, section 11.6, Table 11-7). -/
def Obligations.ReportsCarryTheirSnapshot : Prop :=
  ∀ (e : Env) (l : Live),
    (reportPayload e l .row = [0x00] ++ be24 (l.reports.row &&& e.params.reportMask).toNat ++ rowSnapshot e l ∧
      (rowSnapshot e l).length = 17) ∧
    ∀ b : Bay, reportPayload e l (.bay b) =
        [byteOf (bayNumber b)] ++ be24 (l.reports.bays[b] &&& e.params.reportMask).toNat ++ baySnapshot l b ∧
      (baySnapshot l b).length = 47

/-! ## The walk and the exchanges -/

/-- A slot begins when none is in progress and the walk runs: with an exchange when the entry names a bay that is not DISABLED,
carrying the frame R27 chooses, and with an idle interval otherwise. The end of an idle interval moves the walk on: to entry 0
behind the last entry, behind entry 31 or with a restart pending, and to the next entry otherwise (R24, R25, R26). With no idle
interval in progress its end does nothing: the model's choice (log entry 5). -/
def Obligations.TheWalkServesTheSchedule : Prop :=
  (∀ (e : Env) (l : Live), l.walk.slot = none →
    (e.straps.addressed = true → l.mgu.loader.running = false →
      (beginSlot e l).walk.pointer = l.walk.pointer ∧
      (beginSlot e l).walk.slot = some
        { content := match e.tables.poll[l.walk.pointer].target with
            | none => .idle
            | some b => if (l.bay b).btb.occupancy = .disabled then .idle else .exchange b (l.bay b).blm.chooseFrame,
          timeout := e.params.replyTimeout, fate := .counts }) ∧
    (e.straps.addressed = false ∨ l.mgu.loader.running = true → beginSlot e l = l)) ∧
  ∀ s : State,
    (∀ timeout : Nat, s.live.walk.slot = some ⟨.idle, timeout, .counts⟩ →
      exec .pollSlotIdleEnd s = .next (s.goes
        (s.live.slotEnded s.dev.env))) ∧
    ((∀ (timeout : Nat) (fate : SlotFate), s.live.walk.slot ≠ some ⟨.idle, timeout, fate⟩) →
      exec .pollSlotIdleEnd s = .next (s.goes s.live))

/-- The first frame that qualifies is sent: ACTUATE, BTB's frame, a sample POLL, a job or office frame, POLL (R27, R29). Of a job
frame and an office frame, one sent before goes again, and otherwise the kind the memory does not name (R28). A sample POLL is due
when the most recent exchange was no sample POLL and its reply, or the reply to the sample POLL just before it, had sample pending;
that either indication is enough is the model's choice (log entry 35). -/
def Obligations.TheFrameOfAnExchange : Prop :=
  (∀ (m : BlmPart) (end1 end2 : Recent),
    (m.samplePollDue = true ↔
      (∀ pending : Bool, m.recent ≠ .reply pending true) ∧ (m.recent = .reply true false ∨ m.sampleOwed = true)) ∧
    (((m.recordEnd end1).recordEnd end2).samplePollDue = true ↔
      (∀ pending : Bool, end2 ≠ .reply pending true) ∧ (end2 = .reply true false ∨ end1 = .reply true true))) ∧
  ∀ m : BlmPart,
    (m.dirty = true → m.chooseFrame = .actuate m.desired) ∧
    (m.dirty = false → ∀ j : JobInSlot, m.job = some j →
      (j.frame.owner = .btb → m.chooseFrame = .job .ident) ∧
      (j.frame.owner ≠ .btb → m.samplePollDue = false →
        (m.queue = [] → m.chooseFrame = .job j.frame) ∧
        ∀ (f : OfficeFrame) (rest : List OfficeFrame), m.queue = f :: rest →
          (j.sent = true → m.chooseFrame = .job j.frame ∧ (m.afterSend (.job j.frame)).turn = m.turn) ∧
          (j.sent = false → m.headSent = true → m.chooseFrame = .office f ∧ (m.afterSend (.office f)).turn = m.turn) ∧
          (j.sent = false → m.headSent = false → m.turn = .office →
            m.chooseFrame = .job j.frame ∧ (m.afterSend (.job j.frame)).turn = .job) ∧
          (j.sent = false → m.headSent = false → m.turn = .job →
            m.chooseFrame = .office f ∧ (m.afterSend (.office f)).turn = .office))) ∧
    (m.dirty = false → (∀ j : JobInSlot, m.job = some j → j.frame.owner ≠ .btb) → m.samplePollDue = true →
      m.chooseFrame = .samplePoll) ∧
    (m.dirty = false → m.job = none → m.samplePollDue = false →
      m.chooseFrame = match m.queue with
        | [] => .poll
        | f :: _ => .office f)

/-- A miss raises the miss count of the bay, saturating at 15, and ends the slot; a bad reply and a reply timeout do the same.
It is stated where the count stays below the limit or the link is SILENT already, and no block counts the exchange. The exchange
of a bay disabled meanwhile, or cut off by a ROW RESET, ends without any effect but that its slot ends (R26, R32, R38, R40);
that its PSTAT has none where the bay has been enabled since is the model's reading (log entry 25). -/
def Obligations.MissesAreCountedUnlessCutOff : Prop :=
  (∀ (s : State) (b : Bay) (sent : SentFrame) (timeout : Nat),
    s.live.walk.slot = some ⟨.exchange b sent, timeout, .counts⟩ →
    ((s.bay b).blm.link = .silent ∨ bumpTo 15 (s.bay b).blm.missCount < s.dev.env.params.missLimit) →
    sent ≠ .job .ident → (s.bay b).lsw.sweep ≠ .running → (s.bay b).frd.carried = false →
    exec .badReply s = exec .replyTimeout s ∧
    exec .replyTimeout s = .next (s.goes
      ((s.live.modBlm b fun m =>
        { m with
          missCount := bumpTo 15 m.missCount
          recent := .miss
          sampleOwed := m.recent == .reply true true }).slotEnded s.dev.env))) ∧
  ∀ (s : State) (b : Bay) (sent : SentFrame) (timeout : Nat) (fate : SlotFate) (bytes : List Byte),
    s.live.walk.slot = some ⟨.exchange b sent, timeout, fate⟩ → fate ≠ .counts →
    exec (.exchangeReply bytes) s = exec .replyTimeout s ∧ exec .badReply s = exec .replyTimeout s ∧
    exec .replyTimeout s = .next (s.goes
      { s.live with
        walk :=
          { pointer :=
              if fate = .rowReset ∨ s.live.walk.restart = true ∨ s.dev.env.tables.poll[s.live.walk.pointer].last = true ∨
                s.live.walk.pointer = 31 then 0 else s.live.walk.pointer + 1
            restart := false
            slot := none } })

/-! ## Replies -/

/-- A reply to a POLL, a sample POLL or an ACTUATE that changes nothing at the plug and finds no work: the bay's actuals, miss
count, dirty mark and the blocks' reported values follow its PSTAT and the slot ends (R30, R37, R101, R127, R130, R153). A STAT
does no more; an office reply goes up (R54), whole also above 48 bytes, which is the model's choice (log entry 11); a malformed SMP is counted (R59); a cabin sample is converted and held (R63, R64). -/
def Obligations.APlainReplyUpdatesTheBay : Prop :=
  ∀ (s : State) (b : Bay) (sent : SentFrame) (timeout : Nat) (bytes : List Byte) (r : Reply),
    s.live.walk.slot = some ⟨.exchange b sent, timeout, .counts⟩ → parseReply b bytes = some r →
    (sent = .poll ∨ sent = .samplePoll ∨ sent = .actuate (s.bay b).blm.desired) →
    (s.bay b).btb.occupancy = .occupied → r.pstat.plugIn = true → r.pstat.alert = false → (s.bay b).blm.link = .online →
    boundEntry s.live b = none → s.live.fal.overcommit = false → (s.bay b).lsw.sweep ≠ .running →
    (s.bay b).frd.carried = false → (s.bay b).php.state = .none →
    (r.content = .stat →
      exec (.exchangeReply bytes) s = .next (s.goes
        ((s.live.modBay b (replied r (sent == .samplePoll))).slotEnded s.dev.env))) ∧
    (∀ f : OfficeFrame, r.content = .office f → (routeEntry s.dev.env f.kind).upPass = true →
      s.live.tsw.tuQueue.length < 6 →
      exec (.exchangeReply bytes) s = .next (s.goes
        { (s.live.modBay b (replied r (sent == .samplePoll))).slotEnded s.dev.env with
          tsw :=
            { s.live.tsw with
              tuQueue := s.live.tsw.tuQueue ++
                [{ dr := 0, db := 0, sr := s.dev.env.straps.row.val, sb := b.val + 1, kind := f.kind, hop := 15,
                   payload := f.payload }] } })) ∧
    (∀ (flags tag : Byte) (code : Nat), r.content = .smp flags tag code → 2 ≤ flags.toNat % 4 →
      exec (.exchangeReply bytes) s = .next (s.goes
        { (s.live.modBay b (replied r (sent == .samplePoll))).slotEnded s.dev.env with
          sampleRejects := bump s.live.sampleRejects })) ∧
    (∀ (tag : Byte) (code : Nat), r.content = .smp 0x14 tag code → code < 4095 →
      exec (.exchangeReply bytes) s = .next (s.goes
        ((s.live.modBay b fun x =>
          { replied r (sent == .samplePoll) x with
            scv :=
              { x.scv with
                held := some (max (-80) (min 99
                  (((code * s.dev.env.params.cabinSpan / 4096 : Nat) : Int) + s.dev.env.params.cabinOffset)))
                age := 0 } }).slotEnded s.dev.env)))

/-- A plug first seen IN, in the reply to any frame, makes an UNKNOWN or VACANT bay PLUGGED, adds PLUG, and begins identification with an
IDENT in the job slot; a link that was not ONLINE returns, which marks the desired state dirty and, from SILENT, adds ONLINE (R2, R3,
R30, R33, R36). The content of the reply is then used as that of a PLUGGED bay: an office reply goes up (R54), whole also above 48 bytes,
which is the model's choice (log entry 11); a malformed SMP is counted and a cabin sample held (R59 to R64); an IDRP with coach id 0 is
rejected, one with another bay's id marks the bay DUP_COACH, and any other makes it OCCUPIED in the same step (R5, R6); the rest does
nothing. That the attempts stay 0 at an IDRP rejected or found duplicate, where R5 has a rejected one count under R4, is the model's
reading, by which only an exchange that carried IDENT counts (R4, log entry 15). The bay is one with nothing left of a coach, and no IDENT was in flight, as none goes to a bay that is not PLUGGED. -/
def Obligations.APlugSeenInBeginsIdentification : Prop :=
  ∀ (s : State) (b : Bay) (sent : SentFrame) (timeout : Nat) (bytes : List Byte) (r : Reply),
    s.live.walk.slot = some ⟨.exchange b sent, timeout, .counts⟩ → parseReply b bytes = some r → sent ≠ .job .ident →
    ((s.bay b).btb.occupancy = .unknown ∨ (s.bay b).btb.occupancy = .vacant) → r.pstat.plugIn = true →
    (s.bay b).blm.job = none → (s.bay b).blm.claimLsw = none → (s.bay b).blm.claimFrd = none →
    (∀ x : DepEntry, boundEntry s.live b = some x → x.state = .waiting) → (s.bay b).fal.heat.state ≠ .admitted →
    (s.bay b).lsw.sweep ≠ .running → (s.bay b).frd.status ≠ .reading → (s.bay b).frd.status ≠ .clearing →
    (s.bay b).frd.carried = false → (s.bay b).php.state = .none →
    let answered (x : BayRec) : Bool :=
      match sent with
      | .office f => x.blm.headSent && x.blm.queue.head? == some f
      | _ => false
    let plugged : Live := addBayReason s.dev.env b .plug (s.live.modBay b fun x =>
      { replied r (sent == .samplePoll) x with
        btb :=
          { x.btb with
            occupancy := .plugged
            coach := 0
            attempts := 0
            identFailed := false
            dupCoach := false
            profileMissing := false }
        blm :=
          { (replied r (sent == .samplePoll) x).blm with
            job := some ⟨.ident, false⟩
            dirty := (replied r (sent == .samplePoll) x).blm.dirty || x.blm.link != .online
            queue := if answered x = true then x.blm.queue.tail else x.blm.queue
            headSent := x.blm.headSent && !answered x } })
    let seen : Live :=
      (if (s.bay b).blm.link = .silent then addBayReason s.dev.env b .online plugged else plugged).slotEnded s.dev.env
    ((r.content = .stat ∨ r.content = .cbusy ∨ r.content = .cnak ∨ r.content = .cdone ∨
        (∃ (offset : Nat) (data : List Byte), r.content = .cdata offset data) ∨ ∃ profile : Fin 8, r.content = .idrp 0 profile) →
      exec (.exchangeReply bytes) s = .next (s.goes seen)) ∧
    (∀ f : OfficeFrame, r.content = .office f →
      exec (.exchangeReply bytes) s = .next (s.goes
        { seen with
          tsw :=
            if (routeEntry s.dev.env f.kind).upPass = false then s.live.tsw
            else if 6 ≤ s.live.tsw.tuQueue.length then
              { s.live.tsw with tuCounts := { s.live.tsw.tuCounts with overflow := bump s.live.tsw.tuCounts.overflow } }
            else
              { s.live.tsw with
                tuQueue := s.live.tsw.tuQueue ++
                  [{ dr := 0, db := 0, sr := s.dev.env.straps.row.val, sb := b.val + 1, kind := f.kind, hop := 15,
                     payload := f.payload }] } })) ∧
    (∀ (flags tag : Byte) (code : Nat), r.content = .smp flags tag code →
      (2 ≤ flags.toNat % 4 ∨ 2 ≤ flags.toNat / 4 % 4 →
        exec (.exchangeReply bytes) s = .next (s.goes { seen with sampleRejects := bump s.live.sampleRejects })) ∧
      (flags.toNat % 4 < 2 → flags.toNat / 4 % 4 < 2 → flags.getLsbD 4 = false ∨ flags.toNat % 4 = 1 →
        exec (.exchangeReply bytes) s = .next (s.goes seen)) ∧
      (flags = 0x14#8 ∧ 4095 ≤ code ∨ flags = 0x10#8 ∧ 255 ≤ code →
        exec (.exchangeReply bytes) s = .next (s.goes seen)) ∧
      (flags = 0x14#8 ∧ code < 4095 ∨ flags = 0x10#8 ∧ code < 255 →
        let n := if flags = 0x14#8 then code else if code = 0 then 0 else 16 * code + 8
        exec (.exchangeReply bytes) s = .next (s.goes
          (seen.modScv b fun _ =>
            { held := some (max (-80) (min 99
                (((n * s.dev.env.params.cabinSpan / 4096 : Nat) : Int) + s.dev.env.params.cabinOffset)))
              age := 0
              driveHigh := (s.bay b).scv.driveHigh })))) ∧
    ∀ (coach : Nat) (profile : Fin 8), r.content = .idrp coach profile → coach ≠ 0 → s.live.mgu.queue = [] →
      ∃ t, exec (.exchangeReply bytes) s = .next t ∧ (t.bay b).btb.coach = coach ∧ (t.bay b).btb.profile = profile ∧
        (t.bay b).btb.attempts = 0 ∧ (t.bay b).btb.identFailed = false ∧
        (heldElsewhere s.live b coach = true →
          (t.bay b).btb.occupancy = .plugged ∧ (t.bay b).btb.dupCoach = true ∧ (t.bay b).blm.job = none) ∧
        (heldElsewhere s.live b coach = false →
          (t.bay b).btb.occupancy = .occupied ∧ (t.bay b).btb.dupCoach = false ∧ (t.bay b).fal.base.state ≠ .none)

/-- An IDRP with a coach id that no other OCCUPIED bay holds makes a PLUGGED bay OCCUPIED by that coach, whatever frame it
answered, and its base share is requested (R5, R6, R7, R8). -/
def Obligations.AnAcceptedIdentityOccupiesTheBay : Prop :=
  ∀ (s : State) (b : Bay) (sent : SentFrame) (timeout : Nat) (bytes : List Byte) (r : Reply) (coach : Nat) (profile : Fin 8),
    s.live.walk.slot = some ⟨.exchange b sent, timeout, .counts⟩ → parseReply b bytes = some r →
    r.content = .idrp coach profile → coach ≠ 0 → heldElsewhere s.live b coach = false → r.pstat.plugIn = true →
    (s.bay b).btb.occupancy = .plugged → s.live.mgu.queue = [] →
    ∃ t, exec (.exchangeReply bytes) s = .next t ∧ (t.bay b).btb.occupancy = .occupied ∧ (t.bay b).btb.coach = coach ∧
      (t.bay b).btb.profile = profile ∧ (t.bay b).btb.attempts = (s.bay b).btb.attempts ∧
      (t.bay b).btb.identFailed = false ∧ (t.bay b).btb.dupCoach = false ∧
      (t.bay b).btb.profileMissing = !s.dev.env.tables.profiles[profile].valid ∧ (t.bay b).fal.base.state ≠ .none ∧
      t.live.walk.pointer = (s.live.slotEnded s.dev.env).walk.pointer

/-- A plug seen OUT on a PLUGGED or OCCUPIED bay leaves nothing of the coach in any block's part of the bay's record (R10, R16,
R66, R90, R112, R124, R143, R161). A bay without a plan has its heat gate FAIL beforehand (R110), which every step keeps. The coach
of an OCCUPIED bay not released to depart is parked, while there is a hold time: its slot joins the cache at the tail, behind the
eviction of the oldest of four, with results and counts as they stood and a read or clear in progress ABORTED by PLUG_OUT; any other
is forgotten and its cells return to the pool (R11, R16, R149). That the blocking and lost counts the bay is left with are 0 is the
model's choice (log entry 46). -/
def Obligations.TeardownLeavesNothingBehind : Prop :=
  ∀ (s : State) (b : Bay) (sent : SentFrame) (timeout : Nat) (bytes : List Byte) (r : Reply),
    s.live.walk.slot = some ⟨.exchange b sent, timeout, .counts⟩ → parseReply b bytes = some r →
    ((s.bay b).btb.occupancy = .plugged ∨ (s.bay b).btb.occupancy = .occupied) → r.pstat.plugIn = false →
    ((s.bay b).php.state = .none → (s.bay b).php.gate = false) → departureLaw s.live = true → s.live.mgu.queue = [] →
    ∃ t, exec (.exchangeReply bytes) s = .next t ∧
      (t.bay b).btb =
        { (s.bay b).btb with
          occupancy := .vacant
          coach := 0
          attempts := 0
          identFailed := false
          dupCoach := false
          profileMissing := false
          purpose := .none } ∧
      (t.bay b).blm.queue = [] ∧ (t.bay b).blm.job = none ∧ (t.bay b).blm.claimLsw = none ∧ (t.bay b).blm.claimFrd = none ∧
      (t.bay b).blm.desired = { heater := false, latch := false, contactor := false } ∧
      (t.bay b).scv.held = none ∧ (t.bay b).scv.age = 255 ∧
      (∀ i : Fin 96, (t.bay b).lsw.map.get i = .notTested) ∧ (t.bay b).lsw.sweep.inProgress = false ∧
      (t.bay b).lsw.gate = false ∧ (t.bay b).frd.status = .none ∧ (t.bay b).frd.cause = .none ∧ (t.bay b).frd.list = [] ∧
      (t.bay b).frd.blocking = 0 ∧ (t.bay b).frd.lost = 0 ∧ (t.bay b).frd.gate = false ∧ (t.bay b).php.state = .none ∧
      (t.bay b).php.gate = false ∧ (t.bay b).fal.key = none ∧ (t.bay b).fal.base.state = .none ∧
      (t.bay b).fal.lamp.state = .none ∧ (t.bay b).fal.heat.state = .none ∧ (t.bay b).dpc.lampGate = false ∧
      (t.bay b).dpc.faultGate = false ∧ (t.bay b).dpc.heatGate = false ∧ boundEntry t.live b = none ∧
      if (s.bay b).btb.occupancy = .occupied ∧ (s.bay b).btb.purpose ≠ .depart ∧ s.dev.env.params.holdTime ≠ 0 then
        t.live.cache = s.live.cache.drop (if 4 ≤ s.live.cache.length then 1 else 0) ++
          [{ coach := (s.bay b).btb.coach
             profile := (s.bay b).btb.profile
             map := (s.bay b).lsw.map
             list := (s.bay b).frd.list
             lost := (s.bay b).frd.lost
             status := if (s.bay b).frd.status = .reading ∨ (s.bay b).frd.status = .clearing then .aborted
               else (s.bay b).frd.status
             cause := if (s.bay b).frd.status = .reading ∨ (s.bay b).frd.status = .clearing then .plugOut
               else (s.bay b).frd.cause
             blocking := (s.bay b).frd.blocking
             parkedMinute := s.dev.env.clock.minute }] ∧
        t.live.pool.free = s.live.pool.free +
          (if 4 ≤ s.live.cache.length then (s.live.cache.head?.map fun x => heldCells x.list).getD 0 else 0)
      else
        t.live.cache = s.live.cache ∧ t.live.pool.free = s.live.pool.free + heldCells (s.bay b).frd.list

/-! ## Events of one bay -/

/-- LINK_SILENT: the link of a bay with no sweep and no read becomes SILENT, SILENT is added and DPC judges the bay's entry;
shares, occupancy and desired state stand (R32, R35). The miss count it leaves is the model's choice (log entry 30). On a SILENT
or DISABLED bay nothing happens: the model's choice (log entry 5). -/
def Obligations.LinkSilenceIsReportedAndJudged : Prop :=
  ∀ (s : State) (b : Bay), addressed s = true →
    ((s.bay b).blm.link ≠ .silent → (s.bay b).btb.occupancy ≠ .disabled → (s.bay b).lsw.sweep.inProgress = false →
      (s.bay b).frd.status.inProgress = false →
      exec (.linkSilent b) s = .next (s.goes
        (judge s.dev.env b (addBayReason s.dev.env b .silent
          (s.live.modBlm b fun m =>
            { m with
              link := .silent
              missCount := min 15 (max (m.missCount + 1) s.dev.env.params.missLimit) }))))) ∧
    ((s.bay b).blm.link = .silent ∨ (s.bay b).btb.occupancy = .disabled →
      exec (.linkSilent b) s = .next (s.goes s.live))

/-- IDENT_FAILED: while identification is in progress the attempts reach 3, IDENT_FAILED is set, IDENT is added and BTB's IDENT
leaves the job slot; the bay stays PLUGGED (R4). That the row is this end of identification alone is the model's choice (log
entry 5). -/
def Obligations.IdentificationGivesUp : Prop :=
  ∀ (s : State) (b : Bay), addressed s = true → (s.bay b).btb.occupancy = .plugged → (s.bay b).btb.identFailed = false →
    (s.bay b).btb.dupCoach = false → (s.bay b).blm.claimLsw = none → (s.bay b).blm.claimFrd = none →
    (∀ j : JobInSlot, (s.bay b).blm.job = some j → j.frame = .ident) →
    exec (.identFailed b) s = .next (s.goes
      (addBayReason s.dev.env b .ident
        (s.live.modBay b fun x =>
          { x with
            btb :=
              { x.btb with
                attempts := 3
                identFailed := true }
            blm := { x.blm with job := none } })))

/-- STEP_VISIT_LIMIT, which is the event alone (log entry 5): the lamp of a first drive is driven a second time with the next tag, on
its range; the LDRV takes an empty job slot or the place of LSW's own frame, and waits as LSW's claim behind FRD's (R34, R82, R84).
Behind the second drive NO_MEASURE is recorded, and the next lamp of the window is driven (R81, R86) or the sweep completes (R87);
that the counting begins afresh with the LDRV unsent is deduced (log entry 29). A sample that carries the step tag ends the step with
the result of R85 on the drive range; one with another tag is discarded (R83). -/
def Obligations.TheVisitLimitDrivesAgainOrGivesUp : Prop :=
  (∀ (s : State) (b : Bay) (p : Nat × Nat), addressed s = true → (s.bay b).lsw.sweep = .running →
    (s.bay b).lsw.pointer = some p →
    ((s.bay b).lsw.tries ≤ 1 →
      exec (.stepVisitLimit b) s = .next (s.goes
        (s.live.modBay b (driven (lampEntry s.dev.env (s.bay b).btb.profile p.1 p.2) p ((s.bay b).lsw.tries + 1))))) ∧
    (∀ q : Nat × Nat, 2 ≤ (s.bay b).lsw.tries → lampAfter s.dev.env s.live b p = some q →
      exec (.stepVisitLimit b) s = .next (s.goes
        (s.live.modBay b fun x =>
          driven (lampEntry s.dev.env (s.bay b).btb.profile q.1 q.2) q 1 (resulted p .noMeasure x)))) ∧
    (2 ≤ (s.bay b).lsw.tries → lampAfter s.dev.env s.live b p = none → s.live.fal.queue = [] → s.live.mgu.queue = [] →
      ∃ t, exec (.stepVisitLimit b) s = .next t ∧ (t.bay b).lsw.sweep = .complete ∧ (t.bay b).lsw.pointer = none ∧
        (t.bay b).lsw.tries = 0 ∧ (t.bay b).lsw.visits = 0 ∧ (t.bay b).lsw.pauseMarker = false ∧
        (t.bay b).lsw.map = (resulted p .noMeasure (s.bay b)).lsw.map ∧
        (t.bay b).lsw.counts = (resulted p .noMeasure (s.bay b)).lsw.counts ∧
        (t.bay b).lsw.gate = lampGateNow t.dev.env t.live b ∧ (t.bay b).blm.claimLsw = none ∧
        (t.bay b).fal.lamp.state ≠ .admitted)) ∧
  ∀ (s : State) (b : Bay) (p : Nat × Nat) (sent : SentFrame) (timeout : Nat) (bytes : List Byte) (r : Reply) (tag : Byte)
    (code : Nat),
    s.live.walk.slot = some ⟨.exchange b sent, timeout, .counts⟩ → parseReply b bytes = some r → r.content = .smp 0x15 tag code →
    (sent = .poll ∨ sent = .samplePoll ∨ ∃ settings : Actuators, sent = .actuate settings) →
    (s.bay b).btb.occupancy = .occupied → r.pstat.plugIn = true → r.pstat.alert = false → (s.bay b).blm.link = .online →
    boundEntry s.live b = none → s.live.fal.overcommit = false → (s.bay b).frd.carried = false →
    (s.bay b).lsw.sweep = .running → (s.bay b).lsw.pointer = some p →
    (∀ q : Nat × Nat, tag.toNat % 16 = (s.bay b).lsw.stepTag → lampAfter s.dev.env s.live b p = some q →
      exec (.exchangeReply bytes) s = .next (s.goes
        ((s.live.modBay b fun x =>
          driven (lampEntry s.dev.env (s.bay b).btb.profile q.1 q.2) q 1
            (resulted p
              (sampleResult (lampEntry s.dev.env (s.bay b).btb.profile p.1 p.2) code
                (code * (if (s.bay b).scv.driveHigh = true then s.dev.env.params.fullScaleHigh
                  else s.dev.env.params.fullScaleLow) / 4096))
              (replied r (sent == .samplePoll) x))).slotEnded s.dev.env))) ∧
    (tag.toNat % 16 ≠ (s.bay b).lsw.stepTag → (s.bay b).lsw.driveSent = false →
      exec (.exchangeReply bytes) s = .next (s.goes
        ((s.live.modBay b (replied r (sent == .samplePoll))).slotEnded s.dev.env)))

/-- COACH_BUSY, COACH_SILENT and CLEAR_TIMEOUT abort a read or clear with their cause: FRD's frame and claim are withdrawn, the
records stay, and FAULT_DONE is added (R136, R137, R145). The fault gate is FAIL throughout. That each does nothing in another
status, and the counts they leave, are the model's choice (log entry 5); the mark of a frame carried is implied (log entry 29). An
exchange that carried the current CRD and brought no chunk: a CBUSY is counted and the CRD placed again, the twenty-first aborts the
read with COACH_BUSY; a CNAK or a STAT is counted as an attempt and the CRD placed again, a miss leaves it in the slot to be sent again,
and the third of them aborts the read with COACH_SILENT (R136). It is stated with no other work at the bay. -/
def Obligations.ReadsAndClearsAbortWithTheirCause : Prop :=
  (∀ (s : State) (b : Bay), addressed s = true → (s.bay b).frd.gate = false →
    ((s.bay b).frd.status = .reading →
      exec (.coachBusy b) s = .next (s.goes (addBayReason s.dev.env b .faultDone
        (s.live.modBay b fun x => { aborted .coachBusy x with frd := { (aborted .coachBusy x).frd with busy := 21 } }))) ∧
      exec (.coachSilent b) s = .next (s.goes (addBayReason s.dev.env b .faultDone
        (s.live.modBay b fun x => { aborted .coachSilent x with frd := { (aborted .coachSilent x).frd with attempts := 3 } })))) ∧
    ((s.bay b).frd.status = .clearing →
      exec (.clearTimeout b) s = .next (s.goes (addBayReason s.dev.env b .faultDone
        (s.live.modBay b fun x =>
          { aborted .clearTimeout x with frd := { (aborted .clearTimeout x).frd with clearTimer := 0 } })))) ∧
    ((s.bay b).frd.status ≠ .reading →
      exec (.coachBusy b) s = .next (s.goes s.live) ∧ exec (.coachSilent b) s = .next (s.goes s.live)) ∧
    ((s.bay b).frd.status ≠ .clearing → exec (.clearTimeout b) s = .next (s.goes s.live))) ∧
  ∀ (s : State) (b : Bay) (offset count timeout : Nat),
    s.live.walk.slot = some ⟨.exchange b (.job (.crd offset count)), timeout, .counts⟩ →
    (s.bay b).btb.occupancy = .occupied → (s.bay b).frd.status = .reading → (s.bay b).frd.gate = false →
    (s.bay b).frd.current = some (.crd offset count) → (s.bay b).frd.carried = true →
    (s.bay b).blm.job = some ⟨.crd offset count, true⟩ → (s.bay b).blm.claimLsw = none → (s.bay b).blm.claimFrd = none →
    (s.bay b).blm.link = .online → boundEntry s.live b = none → s.live.fal.overcommit = false →
    (s.bay b).lsw.sweep ≠ .running →
    (∀ (bytes : List Byte) (r : Reply), parseReply b bytes = some r → r.pstat.plugIn = true → r.pstat.alert = false →
      (r.content = .cbusy →
        ((s.bay b).frd.busy < 20 →
          exec (.exchangeReply bytes) s = .next (s.goes
            ((s.live.modBay b fun x =>
              placedAgain (.crd offset count)
                { replied r false x with frd := { (replied r false x).frd with busy := x.frd.busy + 1 } }).slotEnded s.dev.env))) ∧
        (20 ≤ (s.bay b).frd.busy →
          exec (.exchangeReply bytes) s = .next (s.goes
            ((addBayReason s.dev.env b .faultDone (s.live.modBay b fun x =>
              aborted .coachBusy
                { replied r false x with frd := { (replied r false x).frd with busy := x.frd.busy + 1 } })).slotEnded
              s.dev.env)))) ∧
      (r.content = .cnak ∨ r.content = .stat →
        ((s.bay b).frd.attempts < 2 →
          exec (.exchangeReply bytes) s = .next (s.goes
            ((s.live.modBay b fun x =>
              placedAgain (.crd offset count)
                { replied r false x with frd := { (replied r false x).frd with attempts := x.frd.attempts + 1 } }).slotEnded
              s.dev.env))) ∧
        (2 ≤ (s.bay b).frd.attempts →
          exec (.exchangeReply bytes) s = .next (s.goes
            ((addBayReason s.dev.env b .faultDone (s.live.modBay b fun x =>
              aborted .coachSilent
                { replied r false x with frd := { (replied r false x).frd with attempts := x.frd.attempts + 1 } })).slotEnded
              s.dev.env))))) ∧
    (bumpTo 15 (s.bay b).blm.missCount < s.dev.env.params.missLimit →
      let missed : BayRec → BayRec := fun x =>
        { x with
          blm :=
            { x.blm with
              missCount := bumpTo 15 x.blm.missCount
              recent := .miss
              sampleOwed := x.blm.recent == .reply true true }
          frd := { x.frd with attempts := x.frd.attempts + 1, carried := false } }
      ((s.bay b).frd.attempts < 2 →
        exec .replyTimeout s = .next (s.goes ((s.live.modBay b missed).slotEnded s.dev.env))) ∧
      (2 ≤ (s.bay b).frd.attempts →
        exec .replyTimeout s = .next (s.goes
          ((addBayReason s.dev.env b .faultDone (s.live.modBay b fun x => aborted .coachSilent (missed x))).slotEnded
            s.dev.env))))

/-- CABIN_STALE_ONSET: a bay whose cabin value is not yet STALE becomes STALE; without a plan PHP does nothing (R65, R105).
TIME_STALE: the count of minutes without TIME stands at 15, the flag is set and TIME_STALE is added for the row (R99). Each row is
the event alone: that the age goes to 10 and the count to 15 from any lower value, and that nothing happens where the state is STALE
already, is the model's choice (log entry 5). -/
def Obligations.CabinAndTimeBecomeStale : Prop :=
  (∀ (s : State) (b : Bay), addressed s = true →
    ((s.bay b).scv.age < 10 → (s.bay b).php.state = .none →
      exec (.cabinStaleOnset b) s = .next (s.goes (s.live.modScv b fun c => { c with age := 10 }))) ∧
    (10 ≤ (s.bay b).scv.age → exec (.cabinStaleOnset b) s = .next (s.goes s.live))) ∧
  ∀ s : State, addressed s = true →
    (s.dev.env.clock.minutesNoTime < 15 →
      exec .timeStale s = .next (s.becomes
        { env :=
            { s.dev.env with
              clock :=
                { s.dev.env.clock with
                  minutesNoTime := 15
                  timeStale := true } }
          live := addReason s.dev.env .row .timeStale s.live })) ∧
    (15 ≤ s.dev.env.clock.minutesNoTime → exec .timeStale s = .next (s.goes s.live))

/-! ## The clock and the cache -/

/-- PARKED_SLOT_EXPIRY: the slots older than the hold time leave the cache, or all of them when it is 0; their cells return to the
pool and the others keep their order (R16, R17, R19). -/
def Obligations.ExpiredSlotsLeaveTheCache : Prop :=
  ∀ s : State, addressed s = true →
    exec .parkedSlotExpiry s = .next (s.goes
      { s.live with
        cache := s.live.cache.filter fun x => decide (s.dev.env.params.holdTime ≠ 0) &&
          decide (distance s.dev.env.clock.minute x.parkedMinute ≤ s.dev.env.params.holdTime)
        pool :=
          { s.live.pool with
            free := s.live.pool.free + ((s.live.cache.filter fun x => decide (s.dev.env.params.holdTime = 0) ||
              decide ((s.dev.env.params.holdTime : Int) < distance s.dev.env.clock.minute x.parkedMinute)).map
                fun x => heldCells x.list).sum } })

/-- SECOND_TICK: below second 59 the second counts on, and the clear timer of a bay that is CLEARING counts down while it stands
above 1; no other bay changes (R96, R145). It is stated where at most one bay is CLEARING. -/
def Obligations.SecondTicksCountTheClockAndTheClearTimer : Prop :=
  ∀ (s : State) (b : Bay), addressed s = true → s.dev.env.clock.second < 59 →
    (∀ c : Bay, c ≠ b → (s.bay c).frd.status ≠ .clearing) → ((s.bay b).frd.status = .clearing → 1 < (s.bay b).frd.clearTimer) →
    exec .secondTick s = .next (s.becomes
      { env := { s.dev.env with clock := { s.dev.env.clock with second := s.dev.env.clock.second + 1 } }
        live := s.live.modFrd b fun c =>
          { c with clearTimer := if c.status = .clearing then c.clearTimer - 1 else c.clearTimer } })

/-- MINUTE_EVENT: the week minute advances or wraps, the second becomes 0, the minutes without TIME are counted, and the age of
every cabin value rises to 255 at most; it is stated for a row with no parked coach, no departure, no plan and no age of 9 (R65, R96,
R97, R99). The one departure whose distance falls below -60 leaves the list, its bay without key, plan and release; the one that is
CLEARED and comes within the release lead is RELEASED, with purpose DEPART and the latch desired RELEASE (R159, R160). -/
def Obligations.MinutesAdvanceTheClockAndTheCabinAges : Prop :=
  (∀ s : State, addressed s = true → s.live.cache = [] → s.live.departures = [] →
    (∀ b : Bay, (s.bay b).php.state = .none ∧ (s.bay b).scv.age ≠ 9) → s.dev.env.clock.minutesNoTime < 14 →
    s.live.mgu.queue = [] →
    ∃ t, exec .minuteEvent s = .next t ∧
      t.dev.env =
        { s.dev.env with
          clock :=
            { s.dev.env.clock with
              minute := if s.dev.env.clock.minute < 10079 then s.dev.env.clock.minute + 1 else 0
              second := 0
              minutesNoTime := s.dev.env.clock.minutesNoTime + 1 } } ∧
      ∀ b : Bay, (t.bay b).scv = { (s.bay b).scv with age := bumpTo 255 (s.bay b).scv.age } ∧
        (t.bay b).btb = (s.bay b).btb ∧ (t.bay b).php = (s.bay b).php ∧ (t.bay b).fal = (s.bay b).fal ∧
        (t.bay b).dpc = (s.bay b).dpc) ∧
  ∀ (s : State) (x : DepEntry) (minute : Nat), addressed s = true → s.live.departures = [x] → s.live.mgu.queue = [] →
    minute = (if s.dev.env.clock.minute < 10079 then s.dev.env.clock.minute + 1 else 0) →
    (distance x.minute minute < -60 →
      ∃ t, exec .minuteEvent s = .next t ∧ t.live.departures = [] ∧
        ∀ b : Bay, x.bay = some b →
          (t.bay b).dpc.lastOutcome = .expired x.id ∧ (t.bay b).fal.key = none ∧ (t.bay b).php.state = .none ∧
          (x.state = .released → (t.bay b).btb.purpose = .none ∧ (t.bay b).blm.desired.latch = false)) ∧
    (∀ b : Bay, x.bay = some b → x.state = .cleared → x.held = false → x.mismatch = false → -60 ≤ distance x.minute minute →
      distance x.minute minute ≤ s.dev.env.params.releaseLead → distance x.minute minute ≤ s.dev.env.params.clearWindow →
      gatesPass x (s.bay b).dpc = true → (s.bay b).blm.link = .online → (∀ c : Bay, (s.bay c).php.state = .none) →
      ∃ t, exec .minuteEvent s = .next t ∧ t.live.departures = [{ x with state := .released, held := false }] ∧
        (t.bay b).btb.purpose = .depart ∧ (t.bay b).blm.desired.latch = true)

/-! ## Management operations -/

/-- A request waits in the input queue while a response stands in the MRSP slot, and is lost and counted when 4 frames wait
there; that it counts as one received at TU is the model's choice (log entry 22). While the loader runs every operation but READ
is answered LOADING, without data (log entry 24), and changes nothing (R44, R165). -/
def Obligations.RequestsWaitOrAreAnsweredLoading : Prop :=
  (∀ (s : State) (tag : Byte) (m : MgmtOp), addressed s = true → s.live.mgu.mrsp.isSome = true →
    (s.live.mgu.queue.length < 4 → submit (m.payload tag) s = s.goes
      { s.live with mgu := { s.live.mgu with queue := s.live.mgu.queue ++ [tag :: m.code :: m.params] } }) ∧
    (4 ≤ s.live.mgu.queue.length → submit (m.payload tag) s = s.goes
      { s.live with
        tsw :=
          { s.live.tsw with
            tuCounts := { s.live.tsw.tuCounts with overflow := bump s.live.tsw.tuCounts.overflow } } })) ∧
  ∀ (s : State) (tag : Byte) (m : MgmtOp), addressed s = true → s.live.mgu.queue = [] → s.live.mgu.mrsp = none →
    s.live.mgu.loader.running = true → m.isRead = false → parseOperation m.code m.params = some m →
    submit (m.payload tag) s = s.answers tag m.code .loading s.live

/-- A payload too short for a tag and an operation is answered FORMAT with tag 0 and operation 0, an unknown operation or a
wrong length FORMAT with its own, also while the loader runs, and nothing else changes (R165, R177). That the answer carries no
data is the model's choice (log entry 24). -/
def Obligations.UnreadableRequestsAreAnsweredFormat : Prop :=
  ∀ (s : State) (tag code : Byte) (params : List Byte), addressed s = true → s.live.mgu.queue = [] → s.live.mgu.mrsp = none →
    (exec (.mgmtFormatError []) s = .next (s.answers 0 0 .format s.live)) ∧
    (exec (.mgmtFormatError [tag]) s = .next (s.answers 0 0 .format s.live)) ∧
    (parseOperation code params = none →
      exec (.mgmtFormatError (tag :: code :: params)) s = .next (s.answers tag code .format s.live))

/-- A bay number outside 1 to 16 is answered RANGE by every operation that names a bay, and nothing else changes (R9, R14, R15,
R75, R78, R133, R144, R146, R162). -/
def Obligations.BayNumbersOutOfRangeAreRefused : Prop :=
  ∀ (s : State) (tag bay gf gl pf pl order : Byte), ready s = true → bay = 0 ∨ 16 < bay.toNat →
    exec (.ident tag bay) s = .next (s.answers tag 0x10 .range s.live) ∧
    exec (.lampCheck tag bay gf gl pf pl order) s = .next (s.answers tag 0x11 .range s.live) ∧
    exec (.lampStop tag bay) s = .next (s.answers tag 0x12 .range s.live) ∧
    exec (.faultRead tag bay) s = .next (s.answers tag 0x13 .range s.live) ∧
    exec (.faultClear tag bay) s = .next (s.answers tag 0x14 .range s.live) ∧
    exec (.faultFlush tag bay) s = .next (s.answers tag 0x15 .range s.live) ∧
    exec (.latchShunt tag bay) s = .next (s.answers tag 0x16 .range s.live) ∧
    exec (.latchLock tag bay) s = .next (s.answers tag 0x17 .range s.live) ∧
    exec (.bayEnable tag bay) s = .next (s.answers tag 0x18 .range s.live) ∧
    exec (.bayDisable tag bay) s = .next (s.answers tag 0x19 .range s.live)

/-- IDENT (R9): on a PLUGGED bay identification begins afresh, whatever its flags, and an IDENT in the slot stays and is not
doubled; on any other it is refused with STATE; a number outside 1 to 16 with RANGE. -/
def Obligations.IdentBeginsIdentificationAfresh : Prop :=
  ∀ (s : State) (tag bay : Byte), ready s = true →
    (∀ b : Bay, bay.toNat = bayNumber b → (s.bay b).btb.occupancy = .plugged →
      (∀ j : JobInSlot, (s.bay b).blm.job = some j → j.frame = .ident) →
      exec (.ident tag bay) s = .next (s.answers tag 0x10 .done
        (s.live.modBay b fun x =>
          { x with
            btb :=
              { x.btb with
                coach := 0
                attempts := 0
                identFailed := false
                dupCoach := false
                profileMissing := false }
            blm := { x.blm with job := some (x.blm.job.getD ⟨.ident, false⟩) } }))) ∧
    (∀ b : Bay, bay.toNat = bayNumber b → (s.bay b).btb.occupancy ≠ .plugged →
      exec (.ident tag bay) s = .next (s.answers tag 0x10 .state s.live)) ∧
    (bay.toNat = 0 ∨ 16 < bay.toNat → exec (.ident tag bay) s = .next (s.answers tag 0x10 .range s.live))

/-- BAY DISABLE (R14, R66): refused with STATE on a PLUGGED, OCCUPIED or DISABLED bay and with TAKEN where an entry is bound;
otherwise the bay's frames, link, desired state, identity and cabin value are cleared and it becomes DISABLED, stated with no
exchange of the bay in flight. BAY ENABLE (R15, R28): a DISABLED bay becomes UNKNOWN with link UNHEARD, miss count 0, the memory
naming OFFICE and the desired state dirty; any other bay refuses it with STATE. That both leave the most recent exchange is the
model's choice (log entry 32). -/
def Obligations.BaysAreDisabledAndEnabled : Prop :=
  (∀ (s : State) (tag bay : Byte) (b : Bay), ready s = true → bay.toNat = bayNumber b →
    ((s.bay b).btb.occupancy = .plugged ∨ (s.bay b).btb.occupancy = .occupied ∨ (s.bay b).btb.occupancy = .disabled →
      exec (.bayDisable tag bay) s = .next (s.answers tag 0x19 .state s.live)) ∧
    ((s.bay b).btb.occupancy = .unknown ∨ (s.bay b).btb.occupancy = .vacant → (boundEntry s.live b).isSome = true →
      exec (.bayDisable tag bay) s = .next (s.answers tag 0x19 .taken s.live)) ∧
    ((s.bay b).btb.occupancy = .unknown ∨ (s.bay b).btb.occupancy = .vacant → boundEntry s.live b = none →
      (∀ (sent : SentFrame) (timeout : Nat), s.live.walk.slot ≠ some ⟨.exchange b sent, timeout, .counts⟩) →
      exec (.bayDisable tag bay) s = .next (s.answers tag 0x19 .done
        (s.live.modBay b fun x =>
          { x with
            btb :=
              { x.btb with
                occupancy := .disabled
                coach := 0
                attempts := 0
                identFailed := false
                dupCoach := false
                profileMissing := false
                purpose := .none }
            blm :=
              { x.blm with
                queue := []
                headSent := false
                job := none
                claimLsw := none
                claimFrd := none
                link := .unheard
                missCount := 0
                turn := .office
                desired := { heater := false, latch := false, contactor := false }
                dirty := false }
            scv :=
              { x.scv with
                held := none
                age := 255 } })))) ∧
  ∀ (s : State) (tag bay : Byte) (b : Bay), ready s = true → bay.toNat = bayNumber b →
    ((s.bay b).btb.occupancy = .disabled →
      exec (.bayEnable tag bay) s = .next (s.answers tag 0x18 .done
        (s.live.modBay b fun x =>
          { x with
            btb := { x.btb with occupancy := .unknown }
            blm :=
              { x.blm with
                link := .unheard
                missCount := 0
                turn := .office
                dirty := true } }))) ∧
    ((s.bay b).btb.occupancy ≠ .disabled →
      exec (.bayEnable tag bay) s = .next (s.answers tag 0x18 .state s.live))

/-- LATCH SHUNT and LATCH LOCK (R162): purpose and desired latch are written together, a RELEASED entry returns to CLEARED with
HELD set at a lock, and the refusals are STATE, and RANGE for a number outside 1 to 16. Every step keeps the latch to its rule: it is
desired RELEASE only with purpose SHUNT, or with purpose DEPART and the bound entry RELEASED (R159). -/
def Obligations.LatchOperationsWritePurposeAndLatch : Prop :=
  (∀ (s : State) (tag bay : Byte), ready s = true →
    (bay.toNat = 0 ∨ 16 < bay.toNat →
      exec (.latchShunt tag bay) s = .next (s.answers tag 0x16 .range s.live) ∧
      exec (.latchLock tag bay) s = .next (s.answers tag 0x17 .range s.live)) ∧
    ∀ b : Bay, bay.toNat = bayNumber b →
      ((s.bay b).btb.occupancy = .unknown ∨ (s.bay b).btb.occupancy = .vacant ∨ (s.bay b).btb.occupancy = .disabled ∨
          (∃ x, boundEntry s.live b = some x ∧ (x.state = .cleared ∨ x.state = .released)) →
        exec (.latchShunt tag bay) s = .next (s.answers tag 0x16 .state s.live)) ∧
      ((s.bay b).btb.occupancy = .plugged ∨ (s.bay b).btb.occupancy = .occupied →
        (∀ x, boundEntry s.live b = some x → x.state ≠ .cleared ∧ x.state ≠ .released) →
        exec (.latchShunt tag bay) s = .next (s.answers tag 0x16 .done
          (s.live.modBay b fun r =>
            { r with
              btb := { r.btb with purpose := .shunt }
              blm :=
                { r.blm with
                  desired := { r.blm.desired with latch := true }
                  dirty := r.blm.dirty || !r.blm.desired.latch } }))) ∧
      ((s.bay b).btb.occupancy = .disabled →
        exec (.latchLock tag bay) s = .next (s.answers tag 0x17 .state s.live)) ∧
      ((s.bay b).btb.occupancy ≠ .disabled →
        exec (.latchLock tag bay) s = .next (s.answers tag 0x17 .done
          { (s.live.modBay b fun r =>
              { r with
                btb := { r.btb with purpose := .none }
                blm :=
                  { r.blm with
                    desired := { r.blm.desired with latch := false }
                    dirty := r.blm.dirty || r.blm.desired.latch } }) with
            departures := match boundEntry s.live b with
              | none => s.live.departures
              | some x => if x.state = .released then
                  s.live.departures.map fun y => if y.id = x.id then { y with state := .cleared, held := true } else y
                else s.live.departures }))) ∧
  ∀ s t : State, departureLaw s.live = true → bindingLaw s.live = true → (∀ b : Bay, latchLaw s.live b = true) →
    step s = .next t → ∀ b : Bay, latchLaw t.live b = true

/-- LAMP CHECK (R75, R76, R118): an accepted sweep of a bay without one stores its clamped window and order, clears its counts,
waits for power and asks for the lamp share, which is HELD while the base share is not ADMITTED. It is refused with STATE where
the bay, its profile or its entry do not allow it, and with RANGE for a first lamp outside the grid. Where the share is admitted at
once the sweep runs and drives the first lamp (R79, R82). A sweep in progress is replaced: in WAIT_POWER its request stands, in
RUNNING the first lamp of the new window is driven on the share it holds (R77). The window is walked along its two axes, each in its
direction, and only present lamps of the grid are stepped (R72, R81). That a drive begins with its LDRV not yet transmitted, also at a
restart while an older LDRV is in flight, is deduced for the counting of R84 (log entry 29). -/
def Obligations.LampCheckAsksForPower : Prop :=
  (∀ (s : State) (tag bay gf gl pf pl order : Byte) (b : Bay), ready s = true → bay.toNat = bayNumber b →
    ((s.bay b).btb.occupancy ≠ .occupied ∨ (s.bay b).btb.profileMissing = true ∨ entryCleared s.live b = true →
      exec (.lampCheck tag bay gf gl pf pl order) s = .next (s.answers tag 0x11 .state s.live)) ∧
    ((s.bay b).btb.occupancy = .occupied → (s.bay b).btb.profileMissing = false → entryCleared s.live b = false →
      (gf.toNat = 0 ∨ (profileOf s.dev.env s.live b).groups < gf.toNat ∨ pf.toNat = 0 ∨
          (profileOf s.dev.env s.live b).positions < pf.toNat ∨ gl.toNat < gf.toNat ∨ pl.toNat < pf.toNat →
        exec (.lampCheck tag bay gf gl pf pl order) s = .next (s.answers tag 0x11 .range s.live)) ∧
      (1 ≤ gf.toNat → gf.toNat ≤ (profileOf s.dev.env s.live b).groups → 1 ≤ pf.toNat →
        pf.toNat ≤ (profileOf s.dev.env s.live b).positions → gf.toNat ≤ gl.toNat → pf.toNat ≤ pl.toNat →
        let asked : LswPart :=
          { (s.bay b).lsw with
            window :=
              { groupFirst := gf.toNat
                groupLast := min gl.toNat (profileOf s.dev.env s.live b).groups
                positionFirst := pf.toNat
                positionLast := min pl.toNat (profileOf s.dev.env s.live b).positions }
            order :=
              { positionMajor := order.getLsbD 0
                reverseGroup := order.getLsbD 1
                reversePosition := order.getLsbD 2 }
            counts := { ok := 0, dim := 0, openCircuit := 0, overLimit := 0, noMeasure := 0 } }
        ((s.bay b).lsw.sweep.inProgress = false → (s.bay b).fal.base.state ≠ .admitted → (s.bay b).fal.lamp.state = .none →
          exec (.lampCheck tag bay gf gl pf pl order) s = .next (s.answers tag 0x11 .done
            { (s.live.modBay b fun x =>
                { x with
                  lsw :=
                    { asked with
                      pointer := none
                      tries := 0
                      visits := 0
                      sweep := .waitPower }
                  fal :=
                    { x.fal with
                      lamp :=
                        { state := .held
                          amount := (profileOf s.dev.env s.live b).lampLoad
                          sequence := s.live.fal.sequence } } }) with
              fal := { s.live.fal with sequence := s.live.fal.sequence + 1 } })) ∧
        (∀ p : Nat × Nat, (s.bay b).lsw.sweep.inProgress = false → (s.bay b).fal.base.state = .admitted →
          (s.bay b).fal.lamp.state = .none → s.live.fal.queue = [] → s.live.fal.overcommit = false →
          committed s.live + (profileOf s.dev.env s.live b).lampLoad ≤ s.dev.env.params.feederLimit →
          (profileOf s.dev.env s.live b).sharedSupply = false →
          (walkOrder asked.window asked.order).find? (steppable s.dev.env s.live b) = some p →
          exec (.lampCheck tag bay gf gl pf pl order) s = .next (s.answers tag 0x11 .done
            { (s.live.modBay b fun x =>
                driven (lampEntry s.dev.env (s.bay b).btb.profile p.1 p.2) p 1
                  { x with
                    lsw := { asked with sweep := .running }
                    fal :=
                      { x.fal with
                        lamp :=
                          { state := .admitted
                            amount := (profileOf s.dev.env s.live b).lampLoad
                            sequence := s.live.fal.sequence } } }) with
              fal := { s.live.fal with sequence := s.live.fal.sequence + 1 } })) ∧
        ((s.bay b).lsw.sweep = .waitPower →
          exec (.lampCheck tag bay gf gl pf pl order) s = .next (s.answers tag 0x11 .done
            (s.live.modLsw b fun _ => asked))) ∧
        (∀ p : Nat × Nat, (s.bay b).lsw.sweep = .running →
          (walkOrder asked.window asked.order).find? (steppable s.dev.env s.live b) = some p →
          exec (.lampCheck tag bay gf gl pf pl order) s = .next (s.answers tag 0x11 .done
            (s.live.modBay b fun x =>
              driven (lampEntry s.dev.env (s.bay b).btb.profile p.1 p.2) p 1 { x with lsw := asked })))))) ∧
  (∀ (e : Env) (l : Live) (b : Bay) (p : Nat × Nat),
    (steppable e l b p = true ↔
      p.1 ≤ (profileOf e l b).groups ∧ p.2 ≤ (profileOf e l b).positions ∧
        (lampEntry e (l.bay b).btb.profile p.1 p.2).present = true) ∧
    ∀ front back : List (Nat × Nat), walkOrder (l.bay b).lsw.window (l.bay b).lsw.order = front ++ p :: back →
      lampAfter e l b p = back.find? (steppable e l b)) ∧
  ∀ (w : SweepWindow) (o : SweepOrder),
    (∀ p : Nat × Nat, p ∈ walkOrder w o ↔
      w.groupFirst ≤ p.1 ∧ p.1 ≤ w.groupLast ∧ w.positionFirst ≤ p.2 ∧ p.2 ≤ w.positionLast) ∧
    (walkOrder w o).Pairwise fun p q =>
      if o.positionMajor = true then
        (p.2 ≠ q.2 ∧ (p.2 < q.2 ↔ o.reversePosition = false)) ∨ (p.2 = q.2 ∧ p.1 ≠ q.1 ∧ (p.1 < q.1 ↔ o.reverseGroup = false))
      else
        (p.1 ≠ q.1 ∧ (p.1 < q.1 ↔ o.reverseGroup = false)) ∨ (p.1 = q.1 ∧ p.2 ≠ q.2 ∧ (p.2 < q.2 ↔ o.reversePosition = false))

/-- LAMP STOP (R78, R88): refused with STATE unless the bay is OCCUPIED; without a sweep nothing changes; a sweep that waits for
power with its request HELD is aborted, the request withdrawn and LAMP_DONE added. A RUNNING sweep is aborted likewise and its lamp
share released: the committed load falls by its amount, and while it stays above the limit no pass follows (R124, R126). That a share
in NONE holds the amount 0 is the model's choice (log entry 44). -/
def Obligations.LampStopAbortsTheSweep : Prop :=
  ∀ (s : State) (tag bay : Byte) (b : Bay), ready s = true → bay.toNat = bayNumber b →
    ((s.bay b).btb.occupancy ≠ .occupied → exec (.lampStop tag bay) s = .next (s.answers tag 0x12 .state s.live)) ∧
    ((s.bay b).btb.occupancy = .occupied → (s.bay b).lsw.sweep.inProgress = false →
      exec (.lampStop tag bay) s = .next (s.answers tag 0x12 .done s.live)) ∧
    ((s.bay b).btb.occupancy = .occupied →
      ((s.bay b).lsw.sweep = .waitPower ∧ (s.bay b).fal.lamp.state = .held) ∨
        ((s.bay b).lsw.sweep = .running ∧ (s.bay b).fal.lamp.state = .admitted ∧ s.live.fal.overcommit = true ∧
          s.dev.env.params.feederLimit + (s.bay b).fal.lamp.amount < committed s.live) →
      (s.bay b).lsw.pauseMarker = false → (s.bay b).lsw.gate = lampGateNow s.dev.env s.live b →
      exec (.lampStop tag bay) s = .next (s.answers tag 0x12 .done
        (addBayReason s.dev.env b .lampDone
          (s.live.modBay b fun x =>
            { x with
              blm := x.blm.withdraw .lsw
              lsw :=
                { x.lsw with
                  sweep := .aborted
                  pointer := none
                  tries := 0
                  visits := 0 }
              fal := { x.fal with lamp := { state := .none, amount := 0, sequence := 0 } } }))))

/-- FAULT READ (R132, R133, R134): on an OCCUPIED bay with a valid profile and no read or clear in progress the old records are
discarded, their cells return to the pool, and a CRD for offset 0 and 32 bytes is placed; otherwise it is refused with STATE. It
is stated with the job slot empty and the fault gate FAIL. That the frame is not yet carried is implied (log entry 29). An alert
that rises on such a bay starts the same read (R147). The first CDATA of a read is parsed (R131, R135): an empty image ends it COMPLETE, a wrong marker aborts it with BAD_IMAGE, a marker alone asks
for offset 1, and an image of one record ends it COMPLETE with that record. The first filter entry that matches, or the default,
gives a record its action (R138); it is ignored, stored, lost for want of cells, or merged, for which slots of the cache are evicted
oldest first until the cells suffice (R139 to R141). That the blocking count stops at 255 is deduced (log entry 31). -/
def Obligations.FaultReadStartsFromAnEmptyList : Prop :=
  (∀ (s : State) (tag bay : Byte) (b : Bay), ready s = true → bay.toNat = bayNumber b →
    ((s.bay b).btb.occupancy ≠ .occupied ∨ (s.bay b).btb.profileMissing = true ∨ (s.bay b).frd.status = .reading ∨
        (s.bay b).frd.status = .clearing →
      exec (.faultRead tag bay) s = .next (s.answers tag 0x13 .state s.live)) ∧
    ((s.bay b).btb.occupancy = .occupied → (s.bay b).btb.profileMissing = false → (s.bay b).frd.status ≠ .reading →
      (s.bay b).frd.status ≠ .clearing → (s.bay b).blm.job = none → (s.bay b).blm.claimFrd = none →
      (s.bay b).frd.gate = false →
      exec (.faultRead tag bay) s = .next (s.answers tag 0x13 .done
        { (s.live.modBay b fun x =>
            { x with
              blm := { x.blm with job := some ⟨.crd 0 32, false⟩ }
              frd :=
                { x.frd with
                  list := []
                  blocking := 0
                  lost := 0
                  imageRecords := 0
                  parsed := 0
                  readPoint := 0
                  imageEnd := none
                  partialBytes := []
                  attempts := 0
                  busy := 0
                  status := .reading
                  cause := .none
                  current := some (.crd 0 32)
                  carried := false } }) with
          pool := { s.live.pool with free := s.live.pool.free + heldCells (s.bay b).frd.list } }))) ∧
  (∀ (s : State) (b : Bay) (sent : SentFrame) (timeout : Nat) (bytes : List Byte) (r : Reply),
    s.live.walk.slot = some ⟨.exchange b sent, timeout, .counts⟩ → parseReply b bytes = some r → r.content = .stat →
    (sent = .poll ∨ sent = .samplePoll ∨ ∃ settings : Actuators, sent = .actuate settings) →
    r.pstat.plugIn = true → r.pstat.alert = true → (s.bay b).frd.alertSeen = false → (s.bay b).btb.occupancy = .occupied →
    (s.bay b).btb.profileMissing = false → (s.bay b).frd.status ≠ .reading → (s.bay b).frd.status ≠ .clearing →
    (s.bay b).blm.job = none → (s.bay b).blm.claimFrd = none → (s.bay b).frd.gate = false → (s.bay b).blm.link = .online →
    boundEntry s.live b = none → s.live.fal.overcommit = false → (s.bay b).lsw.sweep ≠ .running →
    exec (.exchangeReply bytes) s = .next (s.goes
      { (s.live.modBay b fun x => readStarted (replied r (sent == .samplePoll) x)).slotEnded s.dev.env with
        pool := { s.live.pool with free := s.live.pool.free + heldCells (s.bay b).frd.list } })) ∧
  (∀ (s : State) (b : Bay) (timeout : Nat) (bytes : List Byte) (r : Reply) (data : List Byte),
    s.live.walk.slot = some ⟨.exchange b (.job (.crd 0 32)), timeout, .counts⟩ → parseReply b bytes = some r →
    r.content = .cdata 0 data → r.pstat.plugIn = true → r.pstat.alert = false → (s.bay b).btb.occupancy = .occupied →
    (s.bay b).frd.status = .reading → (s.bay b).frd.current = some (.crd 0 32) → (s.bay b).frd.list = [] →
    (s.bay b).frd.imageRecords = 0 → (s.bay b).frd.parsed = 0 → (s.bay b).frd.imageEnd = none → s.live.mgu.queue = [] →
    (∀ rest : List Byte, data = 0x00#8 :: rest →
      ∃ t, exec (.exchangeReply bytes) s = .next t ∧ (t.bay b).frd.status = .complete ∧ (t.bay b).frd.cause = .none ∧
        (t.bay b).frd.list = [] ∧ (t.bay b).frd.current = none) ∧
    (∀ (x : Byte) (rest : List Byte), data = x :: rest → x ≠ 0x00#8 → x ≠ 0x5A#8 →
      ∃ t, exec (.exchangeReply bytes) s = .next t ∧ (t.bay b).frd.status = .aborted ∧ (t.bay b).frd.cause = .badImage ∧
        (t.bay b).frd.list = [] ∧ (t.bay b).frd.current = none) ∧
    (data = [0x5A#8] →
      ∃ t, exec (.exchangeReply bytes) s = .next t ∧ (t.bay b).frd.status = .reading ∧ (t.bay b).frd.readPoint = 1 ∧
        (t.bay b).frd.current = some (.crd 1 32)) ∧
    (∀ source high low occurrences status : Byte, data = [0x5A, 0, 1, source, high, low, occurrences, status, 0] →
      1 ≤ s.live.pool.free →
      effectiveAction s.dev.env ⟨source.toNat, high.toNat * 256 + low.toNat, occurrences.toNat, status.getLsbD 0, []⟩ ≠ .ignore →
      ∃ t, exec (.exchangeReply bytes) s = .next t ∧ (t.bay b).frd.status = .complete ∧ (t.bay b).frd.cause = .none ∧
        (t.bay b).frd.imageRecords = 1 ∧ (t.bay b).frd.parsed = 1 ∧ t.live.pool.free = s.live.pool.free - 1 ∧
        (t.bay b).frd.list =
          [{ source := source.toNat, code := high.toNat * 256 + low.toNat, occurrences := occurrences.toNat,
             active := status.getLsbD 0,
             block := effectiveAction s.dev.env
               ⟨source.toNat, high.toNat * 256 + low.toNat, occurrences.toNat, status.getLsbD 0, []⟩ == .block,
             freeze := [] }])) ∧
  (∀ (e : Env) (r : ReadRecord),
    let suits : FilterEntry → Bool := fun x =>
      x.inUse && x.source == r.source && decide (x.codeLow ≤ r.code) && decide (r.code ≤ x.codeHigh)
    (∀ (x : FilterEntry) (front back : List FilterEntry), e.tables.filter.toList = front ++ x :: back → suits x = true →
      (∀ y ∈ front, suits y = false) →
      effectiveAction e r = if x.action = .block ∧ r.active = false ∧ x.storedBlocks = false then .advise else x.action) ∧
    ((∀ x ∈ e.tables.filter.toList, suits x = false) →
      effectiveAction e r =
        if e.params.defaultAction = .block ∧ r.active = false then .advise else e.params.defaultAction)) ∧
  ∀ (e : Env) (b : Bay) (r : ReadRecord) (l : Live),
    let held := heldCells (l.bay b).frd.list
    let cells := 1 + (r.freeze.length + 7) / 8
    let blocks := effectiveAction e r == .block
    let same : FaultRecord → Bool := fun y => y.source == r.source && y.code == r.code
    (effectiveAction e r = .ignore → storeRecord e b r l = l) ∧
    (effectiveAction e r ≠ .ignore → (∀ y ∈ (l.bay b).frd.list, same y = false) →
      (held + cells ≤ 64 → cells ≤ l.pool.free →
        storeRecord e b r l =
          { (l.modFrd b fun c =>
              { c with
                list := c.list ++
                  [{ source := r.source, code := r.code, occurrences := r.occurrences, active := r.active, block := blocks,
                     freeze := r.freeze }]
                blocking := if blocks = true then bumpTo 255 c.blocking else c.blocking }) with
            pool := { l.pool with free := l.pool.free - cells } }) ∧
      (64 < held + cells →
        storeRecord e b r l = l.modFrd b fun c =>
          { c with
            lost := bumpTo 255 c.lost
            blocking := if blocks = true then bumpTo 255 c.blocking else c.blocking }) ∧
      (held + cells ≤ 64 → l.pool.free < cells → l.cache = [] →
        storeRecord e b r l = addReason e .row .starved
          { (l.modFrd b fun c =>
              { c with
                lost := bumpTo 255 c.lost
                blocking := if blocks = true then bumpTo 255 c.blocking else c.blocking }) with
            pool := { l.pool with starved := bump l.pool.starved } })) ∧
    (effectiveAction e r ≠ .ignore → (∀ y ∈ (l.bay b).frd.list, same y = false) → held + cells ≤ 64 →
      (∀ (early late : List ParkedSlot) (x : ParkedSlot), l.cache = early ++ x :: late →
        l.pool.free + (early.map fun y => heldCells y.list).sum < cells →
        cells ≤ l.pool.free + (early.map fun y => heldCells y.list).sum + heldCells x.list →
        storeRecord e b r l =
          { (l.modFrd b fun c =>
              { c with
                list := c.list ++
                  [{ source := r.source, code := r.code, occurrences := r.occurrences, active := r.active, block := blocks,
                     freeze := r.freeze }]
                blocking := if blocks = true then bumpTo 255 c.blocking else c.blocking }) with
            cache := late
            pool :=
              { l.pool with
                free := l.pool.free + (early.map fun y => heldCells y.list).sum + heldCells x.list - cells } }) ∧
      (l.pool.free + cacheCells l < cells →
        storeRecord e b r l = addReason e .row .starved
          { (l.modFrd b fun c =>
              { c with
                lost := bumpTo 255 c.lost
                blocking := if blocks = true then bumpTo 255 c.blocking else c.blocking }) with
            cache := []
            pool := { free := l.pool.free + cacheCells l, starved := bump l.pool.starved } })) ∧
    (∀ (old : FaultRecord) (front back : List FaultRecord), effectiveAction e r ≠ .ignore →
      (l.bay b).frd.list = front ++ old :: back → same old = true → (∀ y ∈ front ++ back, same y = false) →
      1 + (old.freeze.length + 7) / 8 < cells →
      let more := cells - (1 + (old.freeze.length + 7) / 8)
      let merged : List Byte → Live := fun freeze => l.modFrd b fun c =>
        { c with
          list := front ++
            { old with
              occurrences := min 255 (old.occurrences + r.occurrences)
              active := old.active || r.active
              block := old.block || blocks
              freeze := freeze } :: back
          blocking := if blocks = true ∧ old.block = false then bumpTo 255 c.blocking else c.blocking }
      (held + more ≤ 64 → more ≤ l.pool.free →
        storeRecord e b r l = { merged r.freeze with pool := { l.pool with free := l.pool.free - more } }) ∧
      (64 < held + more → storeRecord e b r l = merged old.freeze) ∧
      (∀ (early late : List ParkedSlot) (x : ParkedSlot), held + more ≤ 64 → l.cache = early ++ x :: late →
        l.pool.free + (early.map fun y => heldCells y.list).sum < more →
        more ≤ l.pool.free + (early.map fun y => heldCells y.list).sum + heldCells x.list →
        storeRecord e b r l =
          { merged r.freeze with
            cache := late
            pool :=
              { l.pool with
                free := l.pool.free + (early.map fun y => heldCells y.list).sum + heldCells x.list - more } }) ∧
      (held + more ≤ 64 → l.pool.free + cacheCells l < more →
        storeRecord e b r l = addReason e .row .starved
          { merged old.freeze with
            cache := []
            pool := { free := l.pool.free + cacheCells l, starved := bump l.pool.starved } })) ∧
    ∀ (old : FaultRecord) (front back : List FaultRecord), effectiveAction e r ≠ .ignore →
      (l.bay b).frd.list = front ++ old :: back → same old = true → (∀ y ∈ front ++ back, same y = false) →
      cells ≤ 1 + (old.freeze.length + 7) / 8 →
      storeRecord e b r l =
        { (l.modFrd b fun c =>
            { c with
              list := front ++
                { old with
                  occurrences := min 255 (old.occurrences + r.occurrences)
                  active := old.active || r.active
                  block := old.block || blocks
                  freeze := r.freeze } :: back
              blocking := if blocks = true ∧ old.block = false then bumpTo 255 c.blocking else c.blocking }) with
          pool := { l.pool with free := l.pool.free + (1 + (old.freeze.length + 7) / 8 - cells) } }

/-- FAULT CLEAR (R144): under the checks of FAULT READ a CCLR is placed and the clear timer starts at 30 seconds, and the list
stays. FAULT FLUSH (R146): on an OCCUPIED bay with no read or clear in progress the list is emptied, its cells return to the pool
and the status becomes NONE. Otherwise both are refused with STATE. They are stated with the fault gate FAIL, and the clear with
the job slot empty; that the CCLR is not yet carried is implied (log entry 29). The settling of a clear (R144): a CDONE starts a read, a
CBUSY or CNAK to a CCLR has it placed again, every other answer brings a CQRY, and a miss leaves the frame to be sent again. -/
def Obligations.FaultClearKeepsAndFlushEmptiesTheList : Prop :=
  (∀ (s : State) (tag bay : Byte) (b : Bay), ready s = true → bay.toNat = bayNumber b →
    ((s.bay b).btb.occupancy ≠ .occupied ∨ (s.bay b).btb.profileMissing = true ∨ (s.bay b).frd.status = .reading ∨
        (s.bay b).frd.status = .clearing →
      exec (.faultClear tag bay) s = .next (s.answers tag 0x14 .state s.live)) ∧
    ((s.bay b).btb.occupancy = .occupied → (s.bay b).btb.profileMissing = false → (s.bay b).frd.status ≠ .reading →
      (s.bay b).frd.status ≠ .clearing → (s.bay b).blm.job = none → (s.bay b).frd.gate = false →
      exec (.faultClear tag bay) s = .next (s.answers tag 0x14 .done
        (s.live.modBay b fun x =>
          { x with
            blm := { x.blm with job := some ⟨.cclr, false⟩ }
            frd :=
              { x.frd with
                status := .clearing
                cause := .none
                clearTimer := 30
                current := some .cclr
                carried := false } })))) ∧
  (∀ (s : State) (b : Bay) (f : JobFrame) (timeout : Nat), f = .cclr ∨ f = .cqry →
    s.live.walk.slot = some ⟨.exchange b (.job f), timeout, .counts⟩ → (s.bay b).btb.occupancy = .occupied →
    (s.bay b).frd.status = .clearing → (s.bay b).frd.gate = false → (s.bay b).frd.current = some f →
    (s.bay b).frd.carried = true → (s.bay b).blm.job = some ⟨f, true⟩ → (s.bay b).blm.claimLsw = none →
    (s.bay b).blm.claimFrd = none → (s.bay b).blm.link = .online → boundEntry s.live b = none →
    s.live.fal.overcommit = false → (s.bay b).lsw.sweep ≠ .running →
    (∀ (bytes : List Byte) (r : Reply), parseReply b bytes = some r → r.pstat.plugIn = true → r.pstat.alert = false →
      (r.content = .cdone →
        exec (.exchangeReply bytes) s = .next (s.goes
          { (s.live.modBay b fun x => readStarted (placedAgain f (replied r false x))).slotEnded s.dev.env with
            pool := { s.live.pool with free := s.live.pool.free + heldCells (s.bay b).frd.list } })) ∧
      (r.content = .cbusy ∨ r.content = .cnak ∨ r.content = .stat →
        exec (.exchangeReply bytes) s = .next (s.goes
          ((s.live.modBay b fun x =>
            placedAgain (if f = .cclr ∧ r.content ≠ .stat then .cclr else .cqry) (replied r false x)).slotEnded s.dev.env)))) ∧
    (bumpTo 15 (s.bay b).blm.missCount < s.dev.env.params.missLimit →
      exec .replyTimeout s = .next (s.goes
        ((s.live.modBay b fun x =>
          { x with
            blm :=
              { x.blm with
                missCount := bumpTo 15 x.blm.missCount
                recent := .miss
                sampleOwed := x.blm.recent == .reply true true }
            frd := { x.frd with carried := false } }).slotEnded s.dev.env)))) ∧
  ∀ (s : State) (tag bay : Byte) (b : Bay), ready s = true → bay.toNat = bayNumber b →
    ((s.bay b).btb.occupancy ≠ .occupied ∨ (s.bay b).frd.status = .reading ∨ (s.bay b).frd.status = .clearing →
      exec (.faultFlush tag bay) s = .next (s.answers tag 0x15 .state s.live)) ∧
    ((s.bay b).btb.occupancy = .occupied → (s.bay b).frd.status ≠ .reading → (s.bay b).frd.status ≠ .clearing →
      (s.bay b).frd.gate = false →
      exec (.faultFlush tag bay) s = .next (s.answers tag 0x15 .done
        { (s.live.modFrd b fun c =>
            { c with
              list := []
              blocking := 0
              lost := 0
              status := .none
              cause := .none }) with
          pool := { s.live.pool with free := s.live.pool.free + heldCells (s.bay b).frd.list } }))

/-- DEP ADD (R152, R154): the checks answer in their order, and an entry for no bay joins the list WAITING at its place by distance
with its target clamped into +20 to +56. An entry for a bay is bound to it (R156): PREPARING, or CLEARED in the same step, where the
bay is OCCUPIED by a coach it expects, WAITING with MISMATCH where it expects another, WAITING otherwise; its minute becomes the
key of the bay (R121). -/
def Obligations.DepAddChecksAndInserts : Prop :=
  ∀ (s : State) (tag : Byte) (id minute : Half) (bay : Byte) (coach : Quad) (target gates : Byte), ready s = true →
    ((id = 0 ∨ 10079 < minute.toNat ∨ 16 < bay.toNat ∨ distance minute.toNat s.dev.env.clock.minute < -60 ∨
        1440 < distance minute.toNat s.dev.env.clock.minute) →
      exec (.depAdd tag id minute bay coach target gates) s = .next (s.answers tag 0x20 .range s.live)) ∧
    (id ≠ 0 → minute.toNat ≤ 10079 → bay.toNat ≤ 16 → -60 ≤ distance minute.toNat s.dev.env.clock.minute →
      distance minute.toNat s.dev.env.clock.minute ≤ 1440 →
      ((∃ x ∈ s.live.departures, x.id = id.toNat) →
        exec (.depAdd tag id minute bay coach target gates) s = .next (s.answers tag 0x20 .duplicate s.live)) ∧
      ((∀ x ∈ s.live.departures, x.id ≠ id.toNat) →
        (32 ≤ s.live.departures.length →
          exec (.depAdd tag id minute bay coach target gates) s = .next (s.answers tag 0x20 .full s.live)) ∧
        (s.live.departures.length < 32 →
          (∀ b : Bay, bay.toNat = bayNumber b → (s.bay b).btb.occupancy = .disabled →
            exec (.depAdd tag id minute bay coach target gates) s = .next (s.answers tag 0x20 .disabled s.live)) ∧
          (∀ b : Bay, bay.toNat = bayNumber b → (s.bay b).btb.occupancy ≠ .disabled →
            (∃ x ∈ s.live.departures, x.bay = some b) →
            exec (.depAdd tag id minute bay coach target gates) s = .next (s.answers tag 0x20 .taken s.live)) ∧
          (bay = 0 →
            exec (.depAdd tag id minute bay coach target gates) s = .next (s.answers tag 0x20 .done
              { s.live with
                departures := insertEntry s.dev.env
                  { id := id.toNat
                    minute := minute.toNat
                    bay := none
                    coach := if coach = 0 then none else some coach.toNat
                    target := if target = 0x80#8 then none else some (max 20 (min 56 target.toInt))
                    gates := { lamp := gates.getLsbD 0, fault := gates.getLsbD 1, heat := gates.getLsbD 2 }
                    state := .waiting
                    clamped := decide (target ≠ 0x80#8) && (decide (target.toInt < 20) || decide (56 < target.toInt))
                    mismatch := false
                    late := false
                    held := false } s.live.departures })) ∧
          (∀ b : Bay, bay.toNat = bayNumber b → (s.bay b).btb.occupancy ≠ .disabled →
            (∀ x ∈ s.live.departures, x.bay ≠ some b) →
            ∃ t y, exec (.depAdd tag id minute bay coach target gates) s = .next t ∧
              t.live.mgu.mrsp = some ⟨tag, 0x20, .done, []⟩ ∧ entryById t.live id.toNat = some y ∧ y.bay = some b ∧
              y.minute = minute.toNat ∧ y.coach = (if coach = 0 then none else some coach.toNat) ∧
              y.target = (if target = 0x80#8 then none else some (max 20 (min 56 target.toInt))) ∧
              y.gates = { lamp := gates.getLsbD 0, fault := gates.getLsbD 1, heat := gates.getLsbD 2 } ∧ y.held = false ∧
              (t.bay b).fal.key = some minute.toNat ∧
              ((s.bay b).btb.occupancy ≠ .occupied → y.state = .waiting ∧ y.mismatch = false) ∧
              ((s.bay b).btb.occupancy = .occupied → coach ≠ 0 → coach.toNat ≠ (s.bay b).btb.coach →
                y.state = .waiting ∧ y.mismatch = true) ∧
              ((s.bay b).btb.occupancy = .occupied → coach = 0 ∨ coach.toNat = (s.bay b).btb.coach →
                (y.state = .preparing ∨ y.state = .cleared) ∧ y.mismatch = false)))))

/-- The signed minute distance lies in -5040 to +5039 and differs from the plain difference by whole weeks (R97). An entry is placed
immediately behind the last entry whose distance is equal to or less than its own, and in a list in ascending distance the result
is ascending again (R152). A request is placed immediately before the first request that sorts behind it: by key, where NONE comes
last, then kind, then sequence (R119). A bay whose key changes has its requests placed afresh, base first, then lamp, then heat
(R121): stated while OVERCOMMIT is set, so that no pass follows; that all leave the queue before the first is placed is the model's
choice (log entry 12). -/
def Obligations.EntriesAreInsertedByDistance : Prop :=
  (∀ a b : Nat, -5040 ≤ distance a b ∧ distance a b ≤ 5039 ∧ ∃ k : Int, distance a b = (a : Int) - (b : Int) + k * 10080) ∧
  (∀ (e : Env) (x : DepEntry) (list : List DepEntry),
    (∃ front back, list = front ++ back ∧ insertEntry e x list = front ++ x :: back ∧
      (∀ y ∈ back, x.distance e < y.distance e) ∧ (∀ y ∈ front.getLast?, y.distance e ≤ x.distance e)) ∧
    (ascending e list = true → ascending e (insertEntry e x list) = true)) ∧
  (∀ (e : Env) (x : Bay × ShareKind) (l : Live),
    ∃ front back, l.fal.queue = front ++ back ∧
      enqueue e x l = { l with fal := { l.fal with queue := front ++ x :: back } } ∧
      (∀ y ∈ front, sortsBefore e l x y = false) ∧ (∀ y ∈ back.head?, sortsBefore e l x y = true)) ∧
  (∀ (e : Env) (l : Live) (x y : Bay × ShareKind),
    let rank : Bay × ShareKind → Nat := fun z => match z.2 with
      | .base => 0
      | .lamp => 1
      | .heat => 2
    let inner : Bool := decide (rank x < rank y) ||
      (rank x == rank y && decide (((shareOf l x.1 x.2).sequence - (shareOf l y.1 y.2).sequence).toInt < 0))
    sortsBefore e l x y = match (l.bay x.1).fal.key, (l.bay y.1).fal.key with
      | some _, none => true
      | none, some _ => false
      | none, none => inner
      | some a, some c =>
        decide (distance a e.clock.minute < distance c e.clock.minute) ||
          (distance a e.clock.minute == distance c e.clock.minute && inner)) ∧
  ∀ (e : Env) (b : Bay) (key : Option Nat) (l : Live),
    ((l.bay b).fal.key = key → setKey e b key l = l) ∧
    ((l.bay b).fal.key ≠ key → (∀ k : ShareKind, (shareOf l b k).state ≠ .queued) →
      setKey e b key l = l.modFal b fun f => { f with key := key }) ∧
    ((l.bay b).fal.key ≠ key → l.fal.overcommit = true →
      let place : ShareKind → Live → Live := fun k m => if (shareOf l b k).state = .queued then enqueue e (b, k) m else m
      (∃ k : ShareKind, (shareOf l b k).state = .queued) →
      setKey e b key l = place .heat (place .lamp (place .base
        { (l.modFal b fun f => { f with key := key }) with
          fal := { l.fal with queue := l.fal.queue.filter fun x => x.1 != b } })))

/-- DEP CHANGE (R155): a value out of range is RANGE; an id that is not in the list is NOT_FOUND, and so id 0, which is the model's
choice (log entry 14); a RELEASED entry refuses all but its target with STATE; a bay that is DISABLED or another entry's is refused.
Every other change is answered DONE: the entry holds the values named and keeps the rest, its target clamped. It is given in full
for the target and gates of an unbound entry, written in its place; for its minute, at its new place in the list; for an entry
bound, moved from its bay, changed in its gates or in its minute at a bay without plan and requests, where FAL has the new key (R121)
and DPC judges what stays bound (R156, R157). -/
def Obligations.DepChangeWritesTheNamedValues : Prop :=
  (∀ (s : State) (tag : Byte) (id : Half) (names : Byte) (minute : Half) (bay target gates : Byte), ready s = true →
    ((∀ x ∈ s.live.departures, x.id ≠ id.toNat) → (names.getLsbD 0 = true → minuteOutOfRange s.dev.env minute.toNat = false) →
      (names.getLsbD 3 = true → bay.toNat ≤ 16) →
      exec (.depChange tag id names minute bay target gates) s = .next (s.answers tag 0x21 .notFound s.live)) ∧
    ((names.getLsbD 0 = true ∧ minuteOutOfRange s.dev.env minute.toNat = true) ∨ (names.getLsbD 3 = true ∧ 16 < bay.toNat) →
      exec (.depChange tag id names minute bay target gates) s = .next (s.answers tag 0x21 .range s.live)) ∧
    ∀ x, entryById s.live id.toNat = some x → (names.getLsbD 0 = true → minuteOutOfRange s.dev.env minute.toNat = false) →
      (names.getLsbD 3 = true → bay.toNat ≤ 16) →
      (x.state = .released → names.getLsbD 0 = true ∨ names.getLsbD 2 = true ∨ names.getLsbD 3 = true →
        exec (.depChange tag id names minute bay target gates) s = .next (s.answers tag 0x21 .state s.live)) ∧
      (x.state ≠ .released ∨ (names.getLsbD 0 = false ∧ names.getLsbD 2 = false ∧ names.getLsbD 3 = false) →
        (∀ b : Bay, names.getLsbD 3 = true → bay.toNat = bayNumber b → (s.bay b).btb.occupancy = .disabled →
          exec (.depChange tag id names minute bay target gates) s = .next (s.answers tag 0x21 .disabled s.live)) ∧
        (∀ b : Bay, names.getLsbD 3 = true → bay.toNat = bayNumber b → (s.bay b).btb.occupancy ≠ .disabled →
          (∃ y ∈ s.live.departures, y.bay = some b ∧ y.id ≠ id.toNat) →
          exec (.depChange tag id names minute bay target gates) s = .next (s.answers tag 0x21 .taken s.live)) ∧
        ((∀ b : Bay, names.getLsbD 3 = true → bay.toNat = bayNumber b →
            (s.bay b).btb.occupancy ≠ .disabled ∧ ∀ y ∈ s.live.departures, y.bay = some b → y.id = id.toNat) →
          ∃ t y, exec (.depChange tag id names minute bay target gates) s = .next t ∧
            t.live.mgu.mrsp = some ⟨tag, 0x21, .done, []⟩ ∧ entryById t.live id.toNat = some y ∧ y.coach = x.coach ∧
            y.minute = (if names.getLsbD 0 = true then minute.toNat else x.minute) ∧
            y.target = (if names.getLsbD 1 = false then x.target
              else if target = 0x80#8 then none else some (max 20 (min 56 target.toInt))) ∧
            y.clamped = (if names.getLsbD 1 = false then x.clamped
              else decide (target ≠ 0x80#8) && (decide (target.toInt < 20) || decide (56 < target.toInt))) ∧
            y.gates = (if names.getLsbD 2 = false then x.gates
              else { lamp := gates.getLsbD 0, fault := gates.getLsbD 1, heat := gates.getLsbD 2 }) ∧
            y.bay.map bayNumber = (if names.getLsbD 3 = false then x.bay.map bayNumber
              else if bay = 0 then none else some bay.toNat)))) ∧
  (∀ (s : State) (tag : Byte) (id : Half) (names : Byte) (minute : Half) (bay target gates : Byte) (x : DepEntry),
    ready s = true → entryById s.live id.toNat = some x → x.bay = none → x.state ≠ .released → names.getLsbD 3 = false →
    let changed : DepEntry :=
      { x with
        target := if target = 0x80#8 then none else some (max 20 (min 56 target.toInt))
        clamped := decide (target ≠ 0x80#8) && (decide (target.toInt < 20) || decide (56 < target.toInt))
        gates := { lamp := gates.getLsbD 0, fault := gates.getLsbD 1, heat := gates.getLsbD 2 } }
    (names.getLsbD 0 = false → names.getLsbD 1 = true → names.getLsbD 2 = true →
      exec (.depChange tag id names minute bay target gates) s = .next (s.answers tag 0x21 .done
        { s.live with departures := s.live.departures.map fun y => if y.id = id.toNat then changed else y })) ∧
    (names.getLsbD 0 = true → names.getLsbD 1 = true → names.getLsbD 2 = true →
      minuteOutOfRange s.dev.env minute.toNat = false →
      exec (.depChange tag id names minute bay target gates) s = .next (s.answers tag 0x21 .done
        { s.live with
          departures := insertEntry s.dev.env { changed with minute := minute.toNat }
            (s.live.departures.filter fun y => y.id != id.toNat) }))) ∧
  ∀ (s : State) (tag : Byte) (id : Half) (names : Byte) (minute : Half) (bay target gates : Byte) (x : DepEntry) (b : Bay),
    ready s = true → entryById s.live id.toNat = some x → x.state ≠ .released → names.getLsbD 1 = false →
    (∀ y ∈ s.live.departures, y.bay = some b → y.id = id.toNat) → (s.bay b).php.state = .none →
    (∀ k : ShareKind, (shareOf s.live b k).state ≠ .queued) →
    (x.bay = none → names.getLsbD 0 = false → names.getLsbD 2 = false → names.getLsbD 3 = true → bay.toNat = bayNumber b →
      (s.bay b).btb.occupancy ≠ .disabled →
      (s.bay b).btb.occupancy ≠ .occupied ∨ (x.coach.isSome = true ∧ x.coach ≠ some (s.bay b).btb.coach) →
      exec (.depChange tag id names minute bay target gates) s = .next (s.answers tag 0x21 .done
        { (s.live.modFal b fun f => { f with key := some x.minute }) with
          departures := s.live.departures.map fun y => if y.id = id.toNat then
            { x with
              bay := some b
              state := .waiting
              mismatch := decide ((s.bay b).btb.occupancy = .occupied)
              late := false
              held := false } else y })) ∧
    (x.bay = some b → names.getLsbD 0 = false → names.getLsbD 2 = false → names.getLsbD 3 = true → bay = 0 →
      exec (.depChange tag id names minute bay target gates) s = .next (s.answers tag 0x21 .done
        { (s.live.modFal b fun f => { f with key := none }) with
          departures := s.live.departures.map fun y => if y.id = id.toNat then
            { x with
              bay := none
              state := .waiting
              mismatch := false
              late := false
              held := false } else y })) ∧
    (x.bay = some b → names.getLsbD 0 = false → names.getLsbD 2 = true → names.getLsbD 3 = false →
      exec (.depChange tag id names minute bay target gates) s = .next (s.answers tag 0x21 .done
        (judge s.dev.env b
          { s.live with
            departures := s.live.departures.map fun y => if y.id = id.toNat then
              { x with gates := { lamp := gates.getLsbD 0, fault := gates.getLsbD 1, heat := gates.getLsbD 2 } } else y }))) ∧
    (x.bay = some b → x.state = .waiting ∨ x.target = none → names.getLsbD 0 = true → names.getLsbD 2 = false →
      names.getLsbD 3 = false →
      minuteOutOfRange s.dev.env minute.toNat = false →
      exec (.depChange tag id names minute bay target gates) s = .next (s.answers tag 0x21 .done
        (judge s.dev.env b
          { (s.live.modFal b fun f => { f with key := some minute.toNat }) with
            departures := insertEntry s.dev.env { x with minute := minute.toNat }
              (s.live.departures.filter fun y => y.id != id.toNat) })))

/-- DEP CANCEL and RELEASE NOW (R159, R163): id 0 is RANGE and an unknown id NOT_FOUND; a cancel removes an unbound entry; of a
bound one the bay also loses its key, its plan and, where the entry was RELEASED, its release (R112, R121); a
CLEARED entry is released at once, with the purpose DEPART, the latch desired RELEASE and RELEASED added; an entry in another state
refuses the release with STATE. -/
def Obligations.CancelAndReleaseActOnTheEntry : Prop :=
  ∀ (s : State) (tag : Byte) (id : Half), ready s = true →
    (id = 0 →
      exec (.depCancel tag id) s = .next (s.answers tag 0x22 .range s.live) ∧
      exec (.releaseNow tag id) s = .next (s.answers tag 0x23 .range s.live)) ∧
    (id ≠ 0 → (∀ x ∈ s.live.departures, x.id ≠ id.toNat) →
      exec (.depCancel tag id) s = .next (s.answers tag 0x22 .notFound s.live) ∧
      exec (.releaseNow tag id) s = .next (s.answers tag 0x23 .notFound s.live)) ∧
    (∀ x, id ≠ 0 → entryById s.live id.toNat = some x →
      (x.bay = none → exec (.depCancel tag id) s = .next (s.answers tag 0x22 .done
        { s.live with departures := s.live.departures.filter fun y => y.id != id.toNat })) ∧
      (∀ b : Bay, x.bay = some b → (∀ y ∈ s.live.departures, y.bay = some b → y.id = id.toNat) →
        ((s.bay b).php.state = .none → (∀ k : ShareKind, (shareOf s.live b k).state ≠ .queued) →
          exec (.depCancel tag id) s = .next (s.answers tag 0x22 .done
            { (s.live.modBay b fun r =>
                { r with
                  btb := if x.state = .released then { r.btb with purpose := .none } else r.btb
                  blm := if x.state = .released then
                      { r.blm with
                        desired := { r.blm.desired with latch := false }
                        dirty := r.blm.dirty || r.blm.desired.latch }
                    else r.blm
                  fal := { r.fal with key := none } }) with
              departures := s.live.departures.filter fun y => y.id != id.toNat })) ∧
        ∃ t, exec (.depCancel tag id) s = .next t ∧ t.live.mgu.mrsp = some ⟨tag, 0x22, .done, []⟩ ∧
          entryById t.live id.toNat = none ∧ boundEntry t.live b = none ∧ (t.bay b).fal.key = none ∧
          (t.bay b).php.state = .none ∧
          (x.state = .released → (t.bay b).btb.purpose = .none ∧ (t.bay b).blm.desired.latch = false)) ∧
      (x.state ≠ .cleared → exec (.releaseNow tag id) s = .next (s.answers tag 0x23 .state s.live)) ∧
      (∀ b : Bay, x.state = .cleared → x.bay = some b →
        exec (.releaseNow tag id) s = .next (s.answers tag 0x23 .done
          (addBayReason s.dev.env b .released
            { (s.live.modBay b fun r =>
                { r with
                  btb := { r.btb with purpose := .depart }
                  blm :=
                    { r.blm with
                      desired := { r.blm.desired with latch := true }
                      dirty := r.blm.dirty || !r.blm.desired.latch } }) with
              departures := s.live.departures.map fun y => if y.id = id.toNat then
                { y with
                  state := .released
                  held := false } else y }))))

/-- A DPC judgement (R157, R158): a PREPARING entry whose four conditions all hold becomes CLEARED; a CLEARED or RELEASED one whose
conditions no longer hold returns to PREPARING with HELD clear, and of a RELEASED one the latch is locked; the others stand. The
conditions are the gates required, HEAT only with a target, the link ONLINE, no MISMATCH, and the distance within the clear
window. -/
def Obligations.JudgementsClearAndRevoke : Prop :=
  (∀ (e : Env) (l : Live) (b : Bay) (x : DepEntry),
    clearable e l b x = true ↔
      ((x.gates.lamp = true → (l.bay b).dpc.lampGate = true) ∧ (x.gates.fault = true → (l.bay b).dpc.faultGate = true) ∧
        (x.gates.heat = true → x.target ≠ none → (l.bay b).dpc.heatGate = true)) ∧
      (l.bay b).blm.link = .online ∧ x.mismatch = false ∧ distance x.minute e.clock.minute ≤ e.params.clearWindow) ∧
  ∀ (e : Env) (b : Bay) (l : Live) (x : DepEntry), boundEntry l b = some x →
    (x.state = .waiting → judge e b l = l) ∧
    (x.state = .preparing → clearable e l b x = false → judge e b l = l) ∧
    (x.state = .cleared ∨ x.state = .released → clearable e l b x = true → judge e b l = l) ∧
    (x.state = .preparing → clearable e l b x = true → judge e b l = addBayReason e b .cleared
      { l with departures := l.departures.map fun y => if y.id = x.id then { y with state := .cleared } else y }) ∧
    (x.state = .cleared → clearable e l b x = false → judge e b l = addBayReason e b .revoked
      { l with departures := l.departures.map fun y => if y.id = x.id then
          { y with
            state := .preparing
            held := false } else y }) ∧
    (x.state = .released → clearable e l b x = false → judge e b l = addBayReason e b .revoked
      { (l.modBay b fun r =>
          { r with
            btb := { r.btb with purpose := .none }
            blm :=
              { r.blm with
                desired := { r.blm.desired with latch := false }
                dirty := r.blm.dirty || r.blm.desired.latch } }) with
        departures := l.departures.map fun y => if y.id = x.id then
          { y with
            state := .preparing
            held := false } else y })

/-- FEEDER SET (R116): a limit above 4000 is refused with RANGE; any other is written, with the effect of R115, and answered DONE
behind it; while the loader runs the answer is LOADING and nothing is written. The effect: none where the limit stands, or is
lowered to the committed load or above it, or is raised while the load stays above it with OVERCOMMIT set; a raise that ends
OVERCOMMIT, with no request waiting, clears it; a limit below the load with no heat share to take back sets OVERCOMMIT (R115, R125,
R126). Of several heat shares that can be taken back, those of bays not SILENT, the latest departure goes first, by key, where NONE
is the latest, and then by bay number; each loses its share and adds SHED, until the load fits or none is left (R125). That LOADING
carries no data, and that a share taken back holds the amount 0, are the model's choices (log entries 24 and 44). -/
def Obligations.FeederSetWritesTheLimit : Prop :=
  (∀ (s : State) (tag : Byte) (limit : Half), addressed s = true → s.live.mgu.queue = [] → s.live.mgu.mrsp = none →
    (s.live.mgu.loader.running = true →
      exec (.feederSet tag limit) s = .next (s.answers tag 0x30 .loading s.live)) ∧
    (s.live.mgu.loader.running = false → 4000 < limit.toNat →
      exec (.feederSet tag limit) s = .next (s.answers tag 0x30 .range s.live)) ∧
    (s.live.mgu.loader.running = false → limit.toNat ≤ 4000 →
      exec (.feederSet tag limit) s = .next (s.becomes
        { env := { s.dev.env with params := { s.dev.env.params with feederLimit := limit.toNat } }
          live := (limitWritten { s.dev.env with params := { s.dev.env.params with feederLimit := limit.toNat } }
            s.dev.env.params.feederLimit s.live).answered tag 0x30 .done [] }))) ∧
  (∀ (e : Env) (old : Nat) (l : Live),
    (e.params.feederLimit = old → limitWritten e old l = l) ∧
    (e.params.feederLimit < old → committed l ≤ e.params.feederLimit → limitWritten e old l = l) ∧
    (old < e.params.feederLimit → e.params.feederLimit < committed l → l.fal.overcommit = true → limitWritten e old l = l) ∧
    (old < e.params.feederLimit → committed l ≤ e.params.feederLimit → l.fal.queue = [] →
      limitWritten e old l = { l with fal := { l.fal with overcommit := false } }) ∧
    (e.params.feederLimit < old → e.params.feederLimit < committed l → (∀ b : Bay, sheddable l b = false) →
      limitWritten e old l =
        if l.fal.overcommit = true then l else addReason e .row .overcommit { l with fal := { l.fal with overcommit := true } })) ∧
  (∀ (e : Env) (l : Live) (b : Bay),
    (sheddable l b = true ↔ (l.bay b).fal.heat.state = .admitted ∧ (l.bay b).blm.link ≠ .silent) ∧
    (chooseShed e l = none ↔ ∀ c : Bay, sheddable l c = false) ∧
    (chooseShed e l = some b → sheddable l b = true ∧ ∀ c : Bay, sheddable l c = true → c ≠ b →
      match (l.bay b).fal.key, (l.bay c).fal.key with
      | none, some _ => True
      | some _, none => False
      | none, none => c < b
      | some k, some n =>
        distance n e.clock.minute < distance k e.clock.minute ∨
          (distance n e.clock.minute = distance k e.clock.minute ∧ c < b))) ∧
  ∀ (e : Env) (l : Live) (told : List Bay),
    (committed l ≤ e.params.feederLimit → shedLoop e 16 l told = (l, told)) ∧
    (∀ b : Bay, e.params.feederLimit < committed l → chooseShed e l = some b →
      shedLoop e 16 l told = shedLoop e 15
        (addBayReason e b .shed
          (l.modFal b fun f => { f with heat := { state := .none, amount := 0, sequence := 0 } })) (told ++ [b])) ∧
    (committed (shedLoop e 16 l told).1 ≤ e.params.feederLimit ∨
      ∀ b : Bay, sheddable (shedLoop e 16 l told).1 b = false)

/-- ROW RESET (R22, R40, R57, R95, R114, R129, R151, R169): every bay, the cache, the pool, FAL, the departure list, the reports
and the counters take their reset values; queues and transmissions of the trunk, tables, parameters, clock, loader and MGU stay;
the slot in progress ends without effect, which for an idle interval is the model's choice (log entry 20). RELOAD (R170, R174):
the loader starts at address 0, and nothing else changes. -/
def Obligations.RowResetClearsAndReloadStarts : Prop :=
  (∀ (s : State) (tag : Byte), ready s = true →
    exec (.rowReset tag) s = .next (s.answers tag 0x31 .done
      { tsw :=
          { s.live.tsw with
            tuCounts := { badFrame := 0, hopExpired := 0, overflow := 0 }
            tdCounts := { badFrame := 0, hopExpired := 0, overflow := 0 } }
        mgu := s.live.mgu
        reports := State.reset.live.reports
        walk := { s.live.walk with slot := s.live.walk.slot.map fun x => { x with fate := .rowReset } }
        cache := []
        pool := { free := 256, starved := 0 }
        sampleRejects := 0
        fal := { queue := [], sequence := 0, overcommit := false }
        departures := []
        bays := State.reset.live.bays })) ∧
  ∀ (s : State) (tag : Byte), ready s = true →
    exec (.reload tag) s = .next (s.goes
      { s.live with
        mgu :=
          { s.live.mgu with
            mrsp := some { tag := tag, op := 0x32, status := .done, data := [] }
            loader :=
              { s.live.mgu.loader with
                running := true
                address := 0
                length := 0
                phase := .marker
                written := 0 } } })

/-- LOAD (R166): a record of several entries is written in the order of its indexes, counted and reported with LOADED; it stops with
RANGE at the first entry that fails its field check or lies beyond the table, with FORMAT at one cut off, naming table and index,
and what came before stays written. One ROUTE entry is given in full. An unknown table is answered NO_TABLE, a start beyond the
table RANGE, a count of 0 FORMAT, with nothing written and no reason added. That RANGE comes before the FORMAT of a count of 0 or of
a short entry is the model's choice (log entry 18). The field checks and layouts are those of Tables 10-2, 10-3 and 11-6, and the
effects those of R25, R166 and R171, stated where no coach is in a bay. -/
def Obligations.LoadWritesEntriesInOrder : Prop :=
  (∀ (s : State) (tag : Byte), ready s = true →
    (∀ (i : Fin 224) (actions masks : Byte), actions.toNat < 4 → masks.toNat < 16 →
      exec (.load tag [0x01, 0x00, byteOf i.val, 0x01, actions, masks]) s = .next (s.becomes
        { env :=
            { s.dev.env with
              tables :=
                { s.dev.env.tables with
                  route := s.dev.env.tables.route.set i
                    { downPass := actions.getLsbD 0, upPass := actions.getLsbD 1, maskUnknown := masks.getLsbD 0,
                      maskVacant := masks.getLsbD 1, maskPlugged := masks.getLsbD 2, maskOccupied := masks.getLsbD 3 } } }
          live := (addReason s.dev.env .row .loaded s.live).answered tag 0x01 .done [0x00, 0x01] })) ∧
    (∀ (table hi lo count : Byte), tableOf table = none →
      exec (.load tag [table, hi, lo, count]) s = .next (s.goes
        (s.live.answered tag 0x01 .noTable [0x00, 0x00, table, hi, lo]))) ∧
    (∀ (table hi lo count : Byte) (t : TableId), tableOf table = some t → t.size ≤ hi.toNat * 256 + lo.toNat →
      exec (.load tag [table, hi, lo, count]) s = .next (s.goes
        (s.live.answered tag 0x01 .range [0x00, 0x00, table, hi, lo]))) ∧
    (∀ (table hi lo : Byte) (t : TableId), tableOf table = some t → hi.toNat * 256 + lo.toNat < t.size →
      exec (.load tag [table, hi, lo, 0x00]) s = .next (s.goes
        (s.live.answered tag 0x01 .format [0x00, 0x00, table, hi, lo]))) ∧
    ∀ (table hi lo count : Byte) (t : TableId) (entries : List (List Byte)) (rest : List Byte), tableOf table = some t →
      hi.toNat * 256 + lo.toNat < t.size → (∀ x ∈ entries, x.length = t.entryBytes) → rest.length < t.entryBytes →
      entries.length ≤ count.toNat → hi.toNat * 256 + lo.toNat + entries.length ≤ t.size →
      let w := writtenInOrder t (hi.toNat * 256 + lo.toNat) entries s.dev
      let loaded : Live := if 0 < w.1 then addReason w.2.env .row .loaded w.2.live else w.2.live
      let stop : List Byte := be16 w.1 ++ [table] ++ be16 (hi.toNat * 256 + lo.toNat + w.1)
      (w.1 = entries.length → entries.length = count.toNat → 1 ≤ count.toNat → rest = [] →
        exec (.load tag ([table, hi, lo, count] ++ entries.flatten)) s = .next (s.becomes
          { w.2 with live := loaded.answered tag 0x01 .done (be16 w.1) })) ∧
      (w.1 < entries.length →
        exec (.load tag ([table, hi, lo, count] ++ entries.flatten ++ rest)) s = .next (s.becomes
          { w.2 with live := loaded.answered tag 0x01 .range stop })) ∧
      (w.1 = entries.length → entries.length < count.toNat →
        exec (.load tag ([table, hi, lo, count] ++ entries.flatten ++ rest)) s = .next (s.becomes
          { w.2 with
            live := loaded.answered tag 0x01
              (if hi.toNat * 256 + lo.toNat + entries.length = t.size then .range else .format) stop }))) ∧
  (∀ (d : Dev) (i : Nat) (a m : Byte),
    (4 ≤ a.toNat ∨ 16 ≤ m.toNat → writeEntry .route i [a, m] d = none) ∧
    (0 < a.toNat / 32 % 4 ∨ 16 < a.toNat % 32 → writeEntry .poll i [a] d = none) ∧
    (a.toNat / 32 % 4 = 0 → a.toNat % 32 ≤ 16 →
      writeEntry .poll i [a] d = some
        { env :=
            { d.env with
              tables :=
                { d.env.tables with
                  poll := d.env.tables.poll.setIfInBounds i { target := bayOf (a.toNat % 32), last := a.getLsbD 7 } } }
          live := { d.live with walk := { d.live.walk with restart := true } } })) ∧
  (∀ (d : Dev) (i : Nat) (flags circuit n1 n0 x1 x0 : Byte),
    (circuit = 0 ∨ 96 < circuit.toNat ∨ 16000 < x1.toNat * 256 + x0.toNat ∨
        x1.toNat * 256 + x0.toNat < n1.toNat * 256 + n0.toNat →
      writeEntry .lamp i [flags, circuit, n1, n0, x1, x0] d = none) ∧
    (1 ≤ circuit.toNat → circuit.toNat ≤ 96 → x1.toNat * 256 + x0.toNat ≤ 16000 →
      n1.toNat * 256 + n0.toNat ≤ x1.toNat * 256 + x0.toNat → (∀ b : Bay, (d.live.bay b).btb.occupancy ≠ .occupied) →
      writeEntry .lamp i [flags, circuit, n1, n0, x1, x0] d = some
        { d with
          env :=
            { d.env with
              tables :=
                { d.env.tables with
                  lamps := d.env.tables.lamps.setIfInBounds i
                    { present := flags.getLsbD 0, critical := flags.getLsbD 1, high := flags.getLsbD 2, res12 := flags.getLsbD 3,
                      long := flags.getLsbD 4, circuit := circuit.toNat, minimum := n1.toNat * 256 + n0.toNat,
                      maximum := x1.toNat * 256 + x0.toNat } } } })) ∧
  (∀ (d : Dev) (i : Nat) (flags source l1 l0 h1 h0 : Byte),
    (flags.toNat / 2 % 4 = 3 ∨ h1.toNat * 256 + h0.toNat < l1.toNat * 256 + l0.toNat →
      writeEntry .filter i [flags, source, l1, l0, h1, h0] d = none) ∧
    (flags.toNat / 2 % 4 ≠ 3 → l1.toNat * 256 + l0.toNat ≤ h1.toNat * 256 + h0.toNat →
      writeEntry .filter i [flags, source, l1, l0, h1, h0] d = some
        { d with
          env :=
            { d.env with
              tables :=
                { d.env.tables with
                  filter := d.env.tables.filter.setIfInBounds i
                    { inUse := flags.getLsbD 0, source := source.toNat, codeLow := l1.toNat * 256 + l0.toNat,
                      codeHigh := h1.toNat * 256 + h0.toNat,
                      action := if flags.toNat / 2 % 4 = 0 then .block else if flags.toNat / 2 % 4 = 1 then .advise else .ignore,
                      storedBlocks := flags.getLsbD 3 } } } })) ∧
  (∀ (d : Dev) (i : Nat) (h : ProfileHeader), h.baseLoad < 65536 → h.lampLoad < 65536 → h.groups < 16 → h.positions < 16 →
    h.heaterPower < 65536 → h.heatCapacity < 65536 → h.lossFactor < 65536 → h.margin < 256 →
    let flags : Nat := (if h.valid = true then 1 else 0) + (if h.sharedSupply = true then 2 else 0)
    let bytes : List Byte := [byteOf flags] ++ be16 h.baseLoad ++ be16 h.lampLoad ++
      [byteOf (h.groups * 16 + h.positions)] ++ be16 h.heaterPower ++ be16 h.heatCapacity ++ be16 h.lossFactor ++ [byteOf h.margin]
    (h.valid = true ∧ (400 < h.baseLoad ∨ 400 < h.lampLoad ∨ h.groups = 0 ∨ 8 < h.groups ∨ h.positions = 0 ∨ 12 < h.positions ∨
        h.heaterPower = 0 ∨ 400 < h.heaterPower ∨ h.heatCapacity = 0 ∨ 2000 < h.heatCapacity ∨ 4000 < h.lossFactor ∨
        60 < h.margin) →
      writeEntry .profile i bytes d = none) ∧
    (h.valid = false ∨ (h.baseLoad ≤ 400 ∧ h.lampLoad ≤ 400 ∧ 1 ≤ h.groups ∧ h.groups ≤ 8 ∧ 1 ≤ h.positions ∧
        h.positions ≤ 12 ∧ 1 ≤ h.heaterPower ∧ h.heaterPower ≤ 400 ∧ 1 ≤ h.heatCapacity ∧ h.heatCapacity ≤ 2000 ∧
        h.lossFactor ≤ 4000 ∧ h.margin ≤ 60) →
      (∀ b : Bay, (d.live.bay b).btb.occupancy ≠ .occupied ∧ (d.live.bay b).php.state = .none) →
      writeEntry .profile i bytes d = some
        { d with
          env := { d.env with tables := { d.env.tables with profiles := d.env.tables.profiles.setIfInBounds i h } } })) ∧
  ∀ (d : Dev) (p : Params), p.replyTimeout < 256 → p.missLimit < 256 → -128 ≤ p.cabinOffset → p.cabinOffset ≤ 127 →
    p.cabinSpan < 256 → p.fullScaleLow < 65536 → p.fullScaleHigh < 65536 → p.holdTime < 256 → p.tolerance < 256 →
    p.clearWindow < 256 → p.releaseLead < 256 → p.feederLimit < 65536 →
    let action : Nat := match p.defaultAction with
      | .block => 0
      | .advise => 1
      | .ignore => 2
    let bytes : List Byte :=
      [byteOf p.replyTimeout, byteOf p.missLimit, signedByte p.cabinOffset, byteOf p.cabinSpan] ++ be16 p.fullScaleLow ++
      be16 p.fullScaleHigh ++ [byteOf p.holdTime, byteOf p.tolerance, byteOf p.clearWindow, byteOf p.releaseLead] ++
      be16 p.feederLimit ++ [byteOf (action + (if p.autoLamp = true then 4 else 0) + if p.autoRead = true then 8 else 0)] ++
      be24 p.reportMask.toNat
    (p.replyTimeout = 0 ∨ 15 < p.replyTimeout ∨ p.missLimit = 0 ∨ 15 < p.missLimit ∨ p.cabinSpan = 0 ∨ p.fullScaleLow = 0 ∨
        16000 < p.fullScaleLow ∨ p.fullScaleHigh = 0 ∨ 16000 < p.fullScaleHigh ∨ 120 < p.holdTime ∨ p.tolerance = 0 ∨
        10 < p.tolerance ∨ 240 < p.clearWindow ∨ 60 < p.releaseLead ∨ 4000 < p.feederLimit →
      writeEntry .rowparam 0 bytes d = none) ∧
    (1 ≤ p.replyTimeout → p.replyTimeout ≤ 15 → 1 ≤ p.missLimit → p.missLimit ≤ 15 → 1 ≤ p.cabinSpan → 1 ≤ p.fullScaleLow →
      p.fullScaleLow ≤ 16000 → 1 ≤ p.fullScaleHigh → p.fullScaleHigh ≤ 16000 → p.holdTime ≤ 120 → 1 ≤ p.tolerance →
      p.tolerance ≤ 10 → p.clearWindow ≤ 240 → p.releaseLead ≤ 60 → p.feederLimit ≤ 4000 →
      p.feederLimit = d.env.params.feederLimit → d.live.departures = [] →
      writeEntry .rowparam 0 bytes d = some
        { env := { d.env with params := p }
          live :=
            { d.live with
              reports :=
                { d.live.reports with
                  ring := (d.live.reports.ring.filter fun n => d.live.reports.of n &&& p.reportMask != 0) ++
                    (.row :: (List.finRange 16).map .bay).filter fun n =>
                      !d.live.reports.ring.contains n && d.live.reports.of n &&& p.reportMask != 0 } } })

/-- READ (R167): nothing but the MRSP slot changes, also while the loader runs; an unknown target and an unknown table are NO_TABLE, a
bay outside 1 to 16 RANGE for the bay record, the lamp map and the fault list, a start index beyond a table RANGE; a position beyond
the end of the departure list or of a fault list returns no items with DONE. That a refused READ carries no data is the model's
choice (log entry 24). -/
def Obligations.ReadsChangeOnlyTheResponse : Prop :=
  ∀ (s : State) (tag target : Byte) (selectors : List Byte), addressed s = true → s.live.mgu.queue = [] →
    s.live.mgu.mrsp = none → readLengthSuits target selectors = true →
    exec (.read tag target selectors) s = .next (s.goes
      (s.live.answered tag 0x02 (readTarget s.dev.env s.live target selectors).1
        (readTarget s.dev.env s.live target selectors).2)) ∧
    (readSelectorBytes target = none → readTarget s.dev.env s.live target selectors = (.noTable, [])) ∧
    (∀ table hi lo count : Byte, target = 0x01#8 → selectors = [table, hi, lo, count] →
      (tableOf table = none → readTarget s.dev.env s.live target selectors = (.noTable, [])) ∧
      ∀ t : TableId, tableOf table = some t → t.size ≤ hi.toNat * 256 + lo.toNat →
        readTarget s.dev.env s.live target selectors = (.range, [])) ∧
    (∀ bay : Byte, target = 0x02#8 ∨ target = 0x04#8 → selectors = [bay] → bay = 0 ∨ 16 < bay.toNat →
      readTarget s.dev.env s.live target selectors = (.range, [])) ∧
    (∀ bay index count : Byte, target = 0x05#8 → selectors = [bay, index, count] →
      (bay = 0 ∨ 16 < bay.toNat → readTarget s.dev.env s.live target selectors = (.range, [])) ∧
      ∀ b : Bay, bay.toNat = bayNumber b → (s.bay b).frd.list.length ≤ index.toNat →
        readTarget s.dev.env s.live target selectors = (.done, [0x00])) ∧
    (∀ position count : Byte, target = 0x06#8 → selectors = [position, count] → s.live.departures.length ≤ position.toNat →
      readTarget s.dev.env s.live target selectors = (.done, [0x00])) ∧
    (readTarget s.dev.env s.live target selectors).2.length ≤ 117

/-! ## Encodings -/

/-- Every operation whose parameters have the sizes of Table 11-5 is read back from its code and parameter bytes with every field
as it was (R166 to R170, R177, section 11.4). -/
def Obligations.OperationsReadBackAsWritten : Prop :=
  ∀ m : MgmtOp,
    (match m with
      | .load records => decide (4 ≤ records.length)
      | .read target selectors => readLengthSuits target selectors
      | _ => true) = true →
    parseOperation m.code m.params = some m

/-- A post's frame is read by the exchange of its bay with its PSTAT and content, and by no other bay's (R26, R175, R176, Tables
11-2 and 11-3). Of its kind and payload, an office kind is an office frame, which for more than 48 bytes is the model's choice (log
entry 11); a payload whose length does not suit its kind, and a kind below 0x20 that is no reply's, is taken as STAT (R26, Table
11-4). -/
def Obligations.PostFramesReadBackForTheirBay : Prop :=
  (∀ (b : Bay) (kind pstat : Byte) (payload : List Byte), payload.length ≤ 255 →
    parseReply b (replyBytes b kind pstat payload) =
      some
        { pstat :=
            { plugIn := pstat.getLsbD 0, latchReleased := pstat.getLsbD 1, heaterOn := pstat.getLsbD 2,
              contactorClosed := pstat.getLsbD 3, alert := pstat.getLsbD 4, samplePending := pstat.getLsbD 5 },
          content := judgeContent kind payload } ∧
    ∀ c : Bay, c ≠ b → parseReply c (replyBytes b kind pstat payload) = none) ∧
  ∀ (kind : Byte) (payload : List Byte),
    (32 ≤ kind.toNat → judgeContent kind payload = .office { kind := kind, payload := payload }) ∧
    (kind.toNat < 32 → kind ∉ [0x11#8, 0x12#8, 0x13#8, 0x14#8, 0x15#8, 0x16#8] → judgeContent kind payload = .stat) ∧
    (payload.length ≠ 5 → judgeContent 0x11 payload = .stat) ∧ (payload.length ≠ 4 → judgeContent 0x12 payload = .stat) ∧
    (payload.length < 2 ∨ 48 < payload.length → judgeContent 0x13 payload = .stat) ∧
    (payload ≠ [] → judgeContent 0x14 payload = .stat ∧ judgeContent 0x15 payload = .stat ∧ judgeContent 0x16 payload = .stat) ∧
    (∀ c3 c2 c1 c0 p : Byte, judgeContent 0x11 [c3, c2, c1, c0, p] =
      if h : p.toNat < 8 then
        .idrp (((c3.toNat * 256 + c2.toNat) * 256 + c1.toNat) * 256 + c0.toNat) ⟨p.toNat, h⟩ else .stat) ∧
    (∀ flags tag hi lo : Byte, judgeContent 0x12 [flags, tag, hi, lo] = .smp flags tag (hi.toNat * 256 + lo.toNat)) ∧
    (∀ (hi lo : Byte) (data : List Byte), data.length ≤ 46 →
      judgeContent 0x13 (hi :: lo :: data) = .cdata (hi.toNat * 256 + lo.toNat) data) ∧
    judgeContent 0x14 [] = .cbusy ∧ judgeContent 0x15 [] = .cnak ∧ judgeContent 0x16 [] = .cdone

/-! ## Planning -/

/-- The lead by the stages of R103. A cabin at or above its target needs none. Where the loss leaves the heater no more than its
reserve the lead is 240 and UNREACHABLE. Otherwise the net power gives the heating time in seconds and in minutes, each rounded up,
and the lead is those minutes and the margin, or 240 and CAPPED where that is more. So every lead lies in 0 to 240 minutes, and
UNREACHABLE and CAPPED come one at a time. A bay's lead is computed from its held cabin temperature, or from To with STALE_CABIN set
where that is STALE or NONE (R65, R102), and HEAT is added when UNREACHABLE becomes set (R104). -/
def Obligations.LeadsStayWithinFourHours : Prop :=
  (∀ (h : ProfileHeader) (target cabin outside : Int),
    let loss := h.lossFactor * (target + cabin - 2 * outside).toNat / 4
    (computeLead h target cabin outside).lead ≤ 240 ∧
    ((computeLead h target cabin outside).unreachable = true →
      (computeLead h target cabin outside).lead = 240 ∧ (computeLead h target cabin outside).capped = false) ∧
    ((computeLead h target cabin outside).capped = true → (computeLead h target cabin outside).lead = 240) ∧
    (target ≤ cabin → computeLead h target cabin outside = { lead := 0, unreachable := false, capped := false }) ∧
    (cabin < target → h.heaterPower * 100 - h.heaterPower * 100 / 8 ≤ loss →
      computeLead h target cabin outside = { lead := 240, unreachable := true, capped := false }) ∧
    (cabin < target → loss < h.heaterPower * 100 - h.heaterPower * 100 / 8 → ∀ net seconds minutes : Nat,
      net + loss = h.heaterPower * 100 →
      h.heatCapacity * 500 * (target - cabin).toNat ≤ seconds * net →
      seconds * net < h.heatCapacity * 500 * (target - cabin).toNat + net →
      seconds ≤ 60 * minutes → 60 * minutes < seconds + 60 →
      computeLead h target cabin outside =
        if 240 < minutes + h.margin then { lead := 240, unreachable := false, capped := true }
        else { lead := minutes + h.margin, unreachable := false, capped := false })) ∧
  ∀ (e : Env) (b : Bay) (l : Live),
    let stale : Bool := decide (10 ≤ (l.bay b).scv.age) || (l.bay b).scv.held.isNone
    let x := computeLead (profileOf e l b) (l.bay b).php.target
      (if stale = true then e.clock.outside else (l.bay b).scv.held.getD e.clock.outside) e.clock.outside
    ((computeBayLead e b l).bay b).php =
      { (l.bay b).php with lead := x.lead, unreachable := x.unreachable, capped := x.capped, staleCabin := stale } ∧
    (computeBayLead e b l).reports =
      if x.unreachable = true ∧ (l.bay b).php.unreachable = false then l.reports.add e.params.reportMask (.bay b) .heat
      else l.reports

/-- When FAL admits the heat share of a bay in WAIT_FEED the bay heats with its heater desired ON, or is PAUSED with the heater as
it was when a pause is requested; of any other bay only a bound entry can change, and of this bay no share does (R106, R111). Every
step keeps the laws of the shares: a lamp or heat share is admitted only behind the base share (R117); while the load exceeds the
limit only SILENT bays hold heat (R125); the heater is desired ON only in HEATING and MAINTAIN with the heat share (R107); an LDRV
waits only in a RUNNING sweep with the lamp share (R82); a bay without a plan has its heat gate FAIL (R110). They are kept together,
with what the parts of a bay say of each other. -/
def Obligations.AnAdmittedHeatShareHeatsTheBay : Prop :=
  (∀ (e : Env) (b : Bay) (l : Live), (l.bay b).php.state = .waitFeed →
    ((l.bay b).php.pauseRequested = false →
      ((heatAdmitted e b l).bay b).php.state = .heating ∧ ((heatAdmitted e b l).bay b).blm.desired.heater = true) ∧
    ((l.bay b).php.pauseRequested = true →
      ((heatAdmitted e b l).bay b).php.state = .paused ∧ ((heatAdmitted e b l).bay b).php.resume = .heating ∧
        ((heatAdmitted e b l).bay b).blm = (l.bay b).blm) ∧
    ((heatAdmitted e b l).bay b).fal = (l.bay b).fal ∧
    ∀ c : Bay, c ≠ b → (heatAdmitted e b l).bay c = l.bay c) ∧
  (∀ r : BayRec, ownerLaw r = true →
    shareLaw r = true ∧ heaterLaw r = true ∧ driveLaw r = true ∧ (r.php.state = .none → r.php.gate = false)) ∧
  ∀ s t : State, (∀ b : Bay, ownerLaw (s.bay b) = true) → queueLaw s.live = true →
    overcommitLaw s.dev.env s.live = true → feederLaw s.dev.env s.live = true → step s = .next t →
    (∀ b : Bay, ownerLaw (t.bay b) = true) ∧ queueLaw t.live = true ∧ overcommitLaw t.dev.env t.live = true ∧
      feederLaw t.dev.env t.live = true

/-! ## Invariants of every step -/

/-- Every step keeps the report ring to its rule: each number at most once, and exactly those whose masked reason set is not empty
(R171). -/
def Obligations.EveryStepKeepsTheReportRing : Prop :=
  ∀ s t : State, ringLaw s.dev.env s.live = true → step s = .next t → ringLaw t.dev.env t.live = true

/-- Every step keeps the 256 cells: free cells, cells of bays and cells of parked lists total 256, every list keeps its quota of 64
cells, holds each fault once, and has no more BLOCK records than its blocking count (R139, R140). -/
def Obligations.EveryStepKeepsTheCells : Prop :=
  ∀ s t : State, cellLaw s.live = true → faultLaw s.live = true → step s = .next t →
    cellLaw t.live = true ∧ faultLaw t.live = true

/-- Every step keeps the departure list and its clearances: at most 32 entries with distinct ids, at most one for a bay and none for
a DISABLED one, in ascending distance on an addressed part, and an entry is CLEARED or RELEASED only while its bay is OCCUPIED by a
matching coach, the link ONLINE and its gates passing (R152, R156, R157). -/
def Obligations.EveryStepKeepsTheDepartures : Prop :=
  ∀ s t : State, departureLaw s.live = true → bindingLaw s.live = true → clearanceLaw s.live = true →
    (addressed s = true → orderLaw s.dev.env s.live = true) → step s = .next t →
    departureLaw t.live = true ∧ bindingLaw t.live = true ∧ clearanceLaw t.live = true ∧
      (addressed t = true → orderLaw t.dev.env t.live = true)

/-- Every step keeps the coaches apart: no two OCCUPIED bays hold one coach id, and the cache holds at most 4 slots with distinct
coach ids, none that of an OCCUPIED bay (R5, R16, R20). -/
def Obligations.EveryStepKeepsTheCoachesApart : Prop :=
  ∀ s t : State, coachLaw s.live = true → cacheLaw s.live = true → step s = .next t →
    coachLaw t.live = true ∧ cacheLaw t.live = true

/-- Every step keeps OVERCOMMIT to its rule: it is set exactly while the committed load exceeds the limit, so no admission ever
carries the load above it (R115, R122, R125, R126). Every step leaves no request waiting that a pass would admit (R122), and none
in the queue but those of QUEUED shares (R118, R123): the two are kept together. A pass does nothing while OVERCOMMIT is set;
otherwise it admits the requests it tells of, whose amounts stand, moves held shares into the queue behind their base share, changes
no other share, and does not carry a load within the limit above it (R118, R122). -/
def Obligations.EveryStepKeepsTheOvercommitFlag : Prop :=
  (∀ s t : State, overcommitLaw s.dev.env s.live = true → step s = .next t → overcommitLaw t.dev.env t.live = true) ∧
  (∀ s t : State, queueLaw s.live = true → servedLaw s.dev.env s.live = true → step s = .next t →
    queueLaw t.live = true ∧ servedLaw t.dev.env t.live = true) ∧
  ∀ (e : Env) (l : Live),
    (l.fal.overcommit = true → admissionPass e l = (l, [])) ∧
    (l.fal.overcommit = false →
      servedLaw e (admissionPass e l).1 = true ∧
      (committed l ≤ e.params.feederLimit → committed (admissionPass e l).1 ≤ e.params.feederLimit) ∧
      ∀ (b : Bay) (k : ShareKind),
        ((b, k) ∈ (admissionPass e l).2 →
          shareOf (admissionPass e l).1 b k = { shareOf l b k with state := .admitted }) ∧
        ((b, k) ∉ (admissionPass e l).2 →
          shareOf (admissionPass e l).1 b k =
            if (shareOf l b k).state = .held ∧ k ≠ .base ∧ (b, .base) ∈ (admissionPass e l).2 then
              { shareOf l b k with state := .queued }
            else shareOf l b k))
end

