-- ==== Sys2Proof/Laws/Codec.lean ====
section
/-! SUPPORT. Byte order and the frame check: what was written is read back. -/
namespace Sys2Proof.Machine

@[simp] theorem byteOf_toNat (b : Byte) : byteOf b.toNat = b := by simp [byteOf]

@[simp] theorem toNat_byteOf (n : Nat) : (byteOf n).toNat = n % 256 := by simp [byteOf]

@[simp] theorem be16_length (n : Nat) : (be16 n).length = 2 := rfl
@[simp] theorem be24_length (n : Nat) : (be24 n).length = 3 := rfl
@[simp] theorem be32_length (n : Nat) : (be32 n).length = 4 := rfl

theorem num16_be16 (n : Nat) (h : n < 65536) : num16 (byteOf (n / 256)) (byteOf n) = n := by
  simp [num16]; omega

theorem num16_lt (hi lo : Byte) : num16 hi lo < 65536 := by
  have := hi.isLt; have := lo.isLt
  simp [num16]; omega

theorem be16_num16 (hi lo : Byte) : be16 (num16 hi lo) = [hi, lo] := by
  have h1 := hi.isLt; have h2 := lo.isLt
  have e1 : byteOf (num16 hi lo / 256) = hi := by
    apply BitVec.eq_of_toNat_eq; simp [num16]; omega
  have e2 : byteOf (num16 hi lo) = lo := by
    apply BitVec.eq_of_toNat_eq; simp [num16]; omega
  simp [be16, e1, e2]

theorem num32_be32 (n : Nat) (h : n < 4294967296) :
    num32 (byteOf (n / 16777216)) (byteOf (n / 65536)) (byteOf (n / 256)) (byteOf n) = n := by
  simp [num32]; omega

/-- A frame sent with its check passes the check, and its body is what was sent. -/
theorem checked_withCheck (body : List Byte) : checked (withCheck body) = some body := by
  simp [checked, withCheck]

/-- Bytes that pass the check are their body with its check. -/
theorem withCheck_of_checked (bytes body : List Byte) (h : checked bytes = some body) : bytes = withCheck body := by
  simp only [checked] at h
  split at h
  · rename_i hc
    have hb := Option.some.inj h
    rw [hb] at hc
    rw [withCheck, ← hc.2, ← hb, List.take_append_drop]
  · exact absurd h (by simp)

/-- The bay a bay number names. -/
@[simp] theorem bayOf_bayNumber (b : Bay) : bayOf (bayNumber b) = some b := by
  have := b.isLt
  simp [bayOf, bayNumber]

theorem bayOf_zero : bayOf 0 = none := rfl

theorem bayOf_large (n : Nat) (h : 16 < n) : bayOf n = none := by
  simp [bayOf]; omega

end Sys2Proof.Machine
end

