-- ==== Sys2Proof/Laws/State.lean ====
section
/-! SUPPORT. The small laws of the state updates: what each update writes and what it leaves. -/
namespace Sys2Proof.Machine

/-- An entry of a table given by its index. -/
@[simp] theorem tabulate_getElem (n : Nat) (f : Nat → α) (i : Nat) (h : i < n) : (tabulate n f)[i] = f i := by
  simp [tabulate]

variable {l : Live} {b c : Bay}

/-! ## One bay record -/

@[simp] theorem bay_modBay_self (f : BayRec → BayRec) : (l.modBay b f).bay b = f (l.bay b) := by
  simp [Live.modBay, Live.bay]

@[simp] theorem bay_modBay_ne (f : BayRec → BayRec) (h : c ≠ b) : (l.modBay b f).bay c = l.bay c := by
  have h' : b.val ≠ c.val := fun x => h (Fin.ext x.symm)
  simp [Live.modBay, Live.bay, h']

theorem bay_modBay (f : BayRec → BayRec) : (l.modBay b f).bay c = if c = b then f (l.bay b) else l.bay c := by
  by_cases h : c = b
  · subst h; simp
  · simp [h]

@[simp] theorem modBay_tsw (f : BayRec → BayRec) : (l.modBay b f).tsw = l.tsw := rfl
@[simp] theorem modBay_mgu (f : BayRec → BayRec) : (l.modBay b f).mgu = l.mgu := rfl
@[simp] theorem modBay_reports (f : BayRec → BayRec) : (l.modBay b f).reports = l.reports := rfl
@[simp] theorem modBay_walk (f : BayRec → BayRec) : (l.modBay b f).walk = l.walk := rfl
@[simp] theorem modBay_cache (f : BayRec → BayRec) : (l.modBay b f).cache = l.cache := rfl
@[simp] theorem modBay_pool (f : BayRec → BayRec) : (l.modBay b f).pool = l.pool := rfl
@[simp] theorem modBay_sampleRejects (f : BayRec → BayRec) : (l.modBay b f).sampleRejects = l.sampleRejects := rfl
@[simp] theorem modBay_fal (f : BayRec → BayRec) : (l.modBay b f).fal = l.fal := rfl
@[simp] theorem modBay_departures (f : BayRec → BayRec) : (l.modBay b f).departures = l.departures := rfl

/-! ## BtbPart -/

@[simp] theorem modBtb_tsw (f : BtbPart → BtbPart) : (l.modBtb b f).tsw = l.tsw := rfl
@[simp] theorem modBtb_mgu (f : BtbPart → BtbPart) : (l.modBtb b f).mgu = l.mgu := rfl
@[simp] theorem modBtb_reports (f : BtbPart → BtbPart) : (l.modBtb b f).reports = l.reports := rfl
@[simp] theorem modBtb_walk (f : BtbPart → BtbPart) : (l.modBtb b f).walk = l.walk := rfl
@[simp] theorem modBtb_cache (f : BtbPart → BtbPart) : (l.modBtb b f).cache = l.cache := rfl
@[simp] theorem modBtb_pool (f : BtbPart → BtbPart) : (l.modBtb b f).pool = l.pool := rfl
@[simp] theorem modBtb_sampleRejects (f : BtbPart → BtbPart) : (l.modBtb b f).sampleRejects = l.sampleRejects := rfl
@[simp] theorem modBtb_fal (f : BtbPart → BtbPart) : (l.modBtb b f).fal = l.fal := rfl
@[simp] theorem modBtb_departures (f : BtbPart → BtbPart) : (l.modBtb b f).departures = l.departures := rfl

@[simp] theorem bay_modBtb_self (f : BtbPart → BtbPart) : (l.modBtb b f).bay b = { l.bay b with btb := f (l.bay b).btb } := by
  simp [Live.modBtb]

@[simp] theorem bay_modBtb_ne (f : BtbPart → BtbPart) (h : c ≠ b) : (l.modBtb b f).bay c = l.bay c := by
  simp [Live.modBtb, h]

@[simp] theorem modBtb_bay_blm (f : BtbPart → BtbPart) : ((l.modBtb b f).bay c).blm = (l.bay c).blm := by
  by_cases h : c = b
  · subst h; simp
  · simp [h]

@[simp] theorem modBtb_bay_scv (f : BtbPart → BtbPart) : ((l.modBtb b f).bay c).scv = (l.bay c).scv := by
  by_cases h : c = b
  · subst h; simp
  · simp [h]

@[simp] theorem modBtb_bay_lsw (f : BtbPart → BtbPart) : ((l.modBtb b f).bay c).lsw = (l.bay c).lsw := by
  by_cases h : c = b
  · subst h; simp
  · simp [h]

@[simp] theorem modBtb_bay_frd (f : BtbPart → BtbPart) : ((l.modBtb b f).bay c).frd = (l.bay c).frd := by
  by_cases h : c = b
  · subst h; simp
  · simp [h]

@[simp] theorem modBtb_bay_php (f : BtbPart → BtbPart) : ((l.modBtb b f).bay c).php = (l.bay c).php := by
  by_cases h : c = b
  · subst h; simp
  · simp [h]

@[simp] theorem modBtb_bay_fal (f : BtbPart → BtbPart) : ((l.modBtb b f).bay c).fal = (l.bay c).fal := by
  by_cases h : c = b
  · subst h; simp
  · simp [h]

@[simp] theorem modBtb_bay_dpc (f : BtbPart → BtbPart) : ((l.modBtb b f).bay c).dpc = (l.bay c).dpc := by
  by_cases h : c = b
  · subst h; simp
  · simp [h]


/-! ## BlmPart -/

@[simp] theorem modBlm_tsw (f : BlmPart → BlmPart) : (l.modBlm b f).tsw = l.tsw := rfl
@[simp] theorem modBlm_mgu (f : BlmPart → BlmPart) : (l.modBlm b f).mgu = l.mgu := rfl
@[simp] theorem modBlm_reports (f : BlmPart → BlmPart) : (l.modBlm b f).reports = l.reports := rfl
@[simp] theorem modBlm_walk (f : BlmPart → BlmPart) : (l.modBlm b f).walk = l.walk := rfl
@[simp] theorem modBlm_cache (f : BlmPart → BlmPart) : (l.modBlm b f).cache = l.cache := rfl
@[simp] theorem modBlm_pool (f : BlmPart → BlmPart) : (l.modBlm b f).pool = l.pool := rfl
@[simp] theorem modBlm_sampleRejects (f : BlmPart → BlmPart) : (l.modBlm b f).sampleRejects = l.sampleRejects := rfl
@[simp] theorem modBlm_fal (f : BlmPart → BlmPart) : (l.modBlm b f).fal = l.fal := rfl
@[simp] theorem modBlm_departures (f : BlmPart → BlmPart) : (l.modBlm b f).departures = l.departures := rfl

@[simp] theorem bay_modBlm_self (f : BlmPart → BlmPart) : (l.modBlm b f).bay b = { l.bay b with blm := f (l.bay b).blm } := by
  simp [Live.modBlm]

@[simp] theorem bay_modBlm_ne (f : BlmPart → BlmPart) (h : c ≠ b) : (l.modBlm b f).bay c = l.bay c := by
  simp [Live.modBlm, h]

@[simp] theorem modBlm_bay_btb (f : BlmPart → BlmPart) : ((l.modBlm b f).bay c).btb = (l.bay c).btb := by
  by_cases h : c = b
  · subst h; simp
  · simp [h]

@[simp] theorem modBlm_bay_scv (f : BlmPart → BlmPart) : ((l.modBlm b f).bay c).scv = (l.bay c).scv := by
  by_cases h : c = b
  · subst h; simp
  · simp [h]

@[simp] theorem modBlm_bay_lsw (f : BlmPart → BlmPart) : ((l.modBlm b f).bay c).lsw = (l.bay c).lsw := by
  by_cases h : c = b
  · subst h; simp
  · simp [h]

@[simp] theorem modBlm_bay_frd (f : BlmPart → BlmPart) : ((l.modBlm b f).bay c).frd = (l.bay c).frd := by
  by_cases h : c = b
  · subst h; simp
  · simp [h]

@[simp] theorem modBlm_bay_php (f : BlmPart → BlmPart) : ((l.modBlm b f).bay c).php = (l.bay c).php := by
  by_cases h : c = b
  · subst h; simp
  · simp [h]

@[simp] theorem modBlm_bay_fal (f : BlmPart → BlmPart) : ((l.modBlm b f).bay c).fal = (l.bay c).fal := by
  by_cases h : c = b
  · subst h; simp
  · simp [h]

@[simp] theorem modBlm_bay_dpc (f : BlmPart → BlmPart) : ((l.modBlm b f).bay c).dpc = (l.bay c).dpc := by
  by_cases h : c = b
  · subst h; simp
  · simp [h]


/-! ## ScvPart -/

@[simp] theorem modScv_tsw (f : ScvPart → ScvPart) : (l.modScv b f).tsw = l.tsw := rfl
@[simp] theorem modScv_mgu (f : ScvPart → ScvPart) : (l.modScv b f).mgu = l.mgu := rfl
@[simp] theorem modScv_reports (f : ScvPart → ScvPart) : (l.modScv b f).reports = l.reports := rfl
@[simp] theorem modScv_walk (f : ScvPart → ScvPart) : (l.modScv b f).walk = l.walk := rfl
@[simp] theorem modScv_cache (f : ScvPart → ScvPart) : (l.modScv b f).cache = l.cache := rfl
@[simp] theorem modScv_pool (f : ScvPart → ScvPart) : (l.modScv b f).pool = l.pool := rfl
@[simp] theorem modScv_sampleRejects (f : ScvPart → ScvPart) : (l.modScv b f).sampleRejects = l.sampleRejects := rfl
@[simp] theorem modScv_fal (f : ScvPart → ScvPart) : (l.modScv b f).fal = l.fal := rfl
@[simp] theorem modScv_departures (f : ScvPart → ScvPart) : (l.modScv b f).departures = l.departures := rfl

@[simp] theorem bay_modScv_self (f : ScvPart → ScvPart) : (l.modScv b f).bay b = { l.bay b with scv := f (l.bay b).scv } := by
  simp [Live.modScv]

@[simp] theorem bay_modScv_ne (f : ScvPart → ScvPart) (h : c ≠ b) : (l.modScv b f).bay c = l.bay c := by
  simp [Live.modScv, h]

@[simp] theorem modScv_bay_btb (f : ScvPart → ScvPart) : ((l.modScv b f).bay c).btb = (l.bay c).btb := by
  by_cases h : c = b
  · subst h; simp
  · simp [h]

@[simp] theorem modScv_bay_blm (f : ScvPart → ScvPart) : ((l.modScv b f).bay c).blm = (l.bay c).blm := by
  by_cases h : c = b
  · subst h; simp
  · simp [h]

@[simp] theorem modScv_bay_lsw (f : ScvPart → ScvPart) : ((l.modScv b f).bay c).lsw = (l.bay c).lsw := by
  by_cases h : c = b
  · subst h; simp
  · simp [h]

@[simp] theorem modScv_bay_frd (f : ScvPart → ScvPart) : ((l.modScv b f).bay c).frd = (l.bay c).frd := by
  by_cases h : c = b
  · subst h; simp
  · simp [h]

@[simp] theorem modScv_bay_php (f : ScvPart → ScvPart) : ((l.modScv b f).bay c).php = (l.bay c).php := by
  by_cases h : c = b
  · subst h; simp
  · simp [h]

@[simp] theorem modScv_bay_fal (f : ScvPart → ScvPart) : ((l.modScv b f).bay c).fal = (l.bay c).fal := by
  by_cases h : c = b
  · subst h; simp
  · simp [h]

@[simp] theorem modScv_bay_dpc (f : ScvPart → ScvPart) : ((l.modScv b f).bay c).dpc = (l.bay c).dpc := by
  by_cases h : c = b
  · subst h; simp
  · simp [h]


/-! ## LswPart -/

@[simp] theorem modLsw_tsw (f : LswPart → LswPart) : (l.modLsw b f).tsw = l.tsw := rfl
@[simp] theorem modLsw_mgu (f : LswPart → LswPart) : (l.modLsw b f).mgu = l.mgu := rfl
@[simp] theorem modLsw_reports (f : LswPart → LswPart) : (l.modLsw b f).reports = l.reports := rfl
@[simp] theorem modLsw_walk (f : LswPart → LswPart) : (l.modLsw b f).walk = l.walk := rfl
@[simp] theorem modLsw_cache (f : LswPart → LswPart) : (l.modLsw b f).cache = l.cache := rfl
@[simp] theorem modLsw_pool (f : LswPart → LswPart) : (l.modLsw b f).pool = l.pool := rfl
@[simp] theorem modLsw_sampleRejects (f : LswPart → LswPart) : (l.modLsw b f).sampleRejects = l.sampleRejects := rfl
@[simp] theorem modLsw_fal (f : LswPart → LswPart) : (l.modLsw b f).fal = l.fal := rfl
@[simp] theorem modLsw_departures (f : LswPart → LswPart) : (l.modLsw b f).departures = l.departures := rfl

@[simp] theorem bay_modLsw_self (f : LswPart → LswPart) : (l.modLsw b f).bay b = { l.bay b with lsw := f (l.bay b).lsw } := by
  simp [Live.modLsw]

@[simp] theorem bay_modLsw_ne (f : LswPart → LswPart) (h : c ≠ b) : (l.modLsw b f).bay c = l.bay c := by
  simp [Live.modLsw, h]

@[simp] theorem modLsw_bay_btb (f : LswPart → LswPart) : ((l.modLsw b f).bay c).btb = (l.bay c).btb := by
  by_cases h : c = b
  · subst h; simp
  · simp [h]

@[simp] theorem modLsw_bay_blm (f : LswPart → LswPart) : ((l.modLsw b f).bay c).blm = (l.bay c).blm := by
  by_cases h : c = b
  · subst h; simp
  · simp [h]

@[simp] theorem modLsw_bay_scv (f : LswPart → LswPart) : ((l.modLsw b f).bay c).scv = (l.bay c).scv := by
  by_cases h : c = b
  · subst h; simp
  · simp [h]

@[simp] theorem modLsw_bay_frd (f : LswPart → LswPart) : ((l.modLsw b f).bay c).frd = (l.bay c).frd := by
  by_cases h : c = b
  · subst h; simp
  · simp [h]

@[simp] theorem modLsw_bay_php (f : LswPart → LswPart) : ((l.modLsw b f).bay c).php = (l.bay c).php := by
  by_cases h : c = b
  · subst h; simp
  · simp [h]

@[simp] theorem modLsw_bay_fal (f : LswPart → LswPart) : ((l.modLsw b f).bay c).fal = (l.bay c).fal := by
  by_cases h : c = b
  · subst h; simp
  · simp [h]

@[simp] theorem modLsw_bay_dpc (f : LswPart → LswPart) : ((l.modLsw b f).bay c).dpc = (l.bay c).dpc := by
  by_cases h : c = b
  · subst h; simp
  · simp [h]


/-! ## FrdPart -/

@[simp] theorem modFrd_tsw (f : FrdPart → FrdPart) : (l.modFrd b f).tsw = l.tsw := rfl
@[simp] theorem modFrd_mgu (f : FrdPart → FrdPart) : (l.modFrd b f).mgu = l.mgu := rfl
@[simp] theorem modFrd_reports (f : FrdPart → FrdPart) : (l.modFrd b f).reports = l.reports := rfl
@[simp] theorem modFrd_walk (f : FrdPart → FrdPart) : (l.modFrd b f).walk = l.walk := rfl
@[simp] theorem modFrd_cache (f : FrdPart → FrdPart) : (l.modFrd b f).cache = l.cache := rfl
@[simp] theorem modFrd_pool (f : FrdPart → FrdPart) : (l.modFrd b f).pool = l.pool := rfl
@[simp] theorem modFrd_sampleRejects (f : FrdPart → FrdPart) : (l.modFrd b f).sampleRejects = l.sampleRejects := rfl
@[simp] theorem modFrd_fal (f : FrdPart → FrdPart) : (l.modFrd b f).fal = l.fal := rfl
@[simp] theorem modFrd_departures (f : FrdPart → FrdPart) : (l.modFrd b f).departures = l.departures := rfl

@[simp] theorem bay_modFrd_self (f : FrdPart → FrdPart) : (l.modFrd b f).bay b = { l.bay b with frd := f (l.bay b).frd } := by
  simp [Live.modFrd]

@[simp] theorem bay_modFrd_ne (f : FrdPart → FrdPart) (h : c ≠ b) : (l.modFrd b f).bay c = l.bay c := by
  simp [Live.modFrd, h]

@[simp] theorem modFrd_bay_btb (f : FrdPart → FrdPart) : ((l.modFrd b f).bay c).btb = (l.bay c).btb := by
  by_cases h : c = b
  · subst h; simp
  · simp [h]

@[simp] theorem modFrd_bay_blm (f : FrdPart → FrdPart) : ((l.modFrd b f).bay c).blm = (l.bay c).blm := by
  by_cases h : c = b
  · subst h; simp
  · simp [h]

@[simp] theorem modFrd_bay_scv (f : FrdPart → FrdPart) : ((l.modFrd b f).bay c).scv = (l.bay c).scv := by
  by_cases h : c = b
  · subst h; simp
  · simp [h]

@[simp] theorem modFrd_bay_lsw (f : FrdPart → FrdPart) : ((l.modFrd b f).bay c).lsw = (l.bay c).lsw := by
  by_cases h : c = b
  · subst h; simp
  · simp [h]

@[simp] theorem modFrd_bay_php (f : FrdPart → FrdPart) : ((l.modFrd b f).bay c).php = (l.bay c).php := by
  by_cases h : c = b
  · subst h; simp
  · simp [h]

@[simp] theorem modFrd_bay_fal (f : FrdPart → FrdPart) : ((l.modFrd b f).bay c).fal = (l.bay c).fal := by
  by_cases h : c = b
  · subst h; simp
  · simp [h]

@[simp] theorem modFrd_bay_dpc (f : FrdPart → FrdPart) : ((l.modFrd b f).bay c).dpc = (l.bay c).dpc := by
  by_cases h : c = b
  · subst h; simp
  · simp [h]


/-! ## PhpPart -/

@[simp] theorem modPhp_tsw (f : PhpPart → PhpPart) : (l.modPhp b f).tsw = l.tsw := rfl
@[simp] theorem modPhp_mgu (f : PhpPart → PhpPart) : (l.modPhp b f).mgu = l.mgu := rfl
@[simp] theorem modPhp_reports (f : PhpPart → PhpPart) : (l.modPhp b f).reports = l.reports := rfl
@[simp] theorem modPhp_walk (f : PhpPart → PhpPart) : (l.modPhp b f).walk = l.walk := rfl
@[simp] theorem modPhp_cache (f : PhpPart → PhpPart) : (l.modPhp b f).cache = l.cache := rfl
@[simp] theorem modPhp_pool (f : PhpPart → PhpPart) : (l.modPhp b f).pool = l.pool := rfl
@[simp] theorem modPhp_sampleRejects (f : PhpPart → PhpPart) : (l.modPhp b f).sampleRejects = l.sampleRejects := rfl
@[simp] theorem modPhp_fal (f : PhpPart → PhpPart) : (l.modPhp b f).fal = l.fal := rfl
@[simp] theorem modPhp_departures (f : PhpPart → PhpPart) : (l.modPhp b f).departures = l.departures := rfl

@[simp] theorem bay_modPhp_self (f : PhpPart → PhpPart) : (l.modPhp b f).bay b = { l.bay b with php := f (l.bay b).php } := by
  simp [Live.modPhp]

@[simp] theorem bay_modPhp_ne (f : PhpPart → PhpPart) (h : c ≠ b) : (l.modPhp b f).bay c = l.bay c := by
  simp [Live.modPhp, h]

@[simp] theorem modPhp_bay_btb (f : PhpPart → PhpPart) : ((l.modPhp b f).bay c).btb = (l.bay c).btb := by
  by_cases h : c = b
  · subst h; simp
  · simp [h]

@[simp] theorem modPhp_bay_blm (f : PhpPart → PhpPart) : ((l.modPhp b f).bay c).blm = (l.bay c).blm := by
  by_cases h : c = b
  · subst h; simp
  · simp [h]

@[simp] theorem modPhp_bay_scv (f : PhpPart → PhpPart) : ((l.modPhp b f).bay c).scv = (l.bay c).scv := by
  by_cases h : c = b
  · subst h; simp
  · simp [h]

@[simp] theorem modPhp_bay_lsw (f : PhpPart → PhpPart) : ((l.modPhp b f).bay c).lsw = (l.bay c).lsw := by
  by_cases h : c = b
  · subst h; simp
  · simp [h]

@[simp] theorem modPhp_bay_frd (f : PhpPart → PhpPart) : ((l.modPhp b f).bay c).frd = (l.bay c).frd := by
  by_cases h : c = b
  · subst h; simp
  · simp [h]

@[simp] theorem modPhp_bay_fal (f : PhpPart → PhpPart) : ((l.modPhp b f).bay c).fal = (l.bay c).fal := by
  by_cases h : c = b
  · subst h; simp
  · simp [h]

@[simp] theorem modPhp_bay_dpc (f : PhpPart → PhpPart) : ((l.modPhp b f).bay c).dpc = (l.bay c).dpc := by
  by_cases h : c = b
  · subst h; simp
  · simp [h]


/-! ## FalPart -/

@[simp] theorem modFal_tsw (f : FalPart → FalPart) : (l.modFal b f).tsw = l.tsw := rfl
@[simp] theorem modFal_mgu (f : FalPart → FalPart) : (l.modFal b f).mgu = l.mgu := rfl
@[simp] theorem modFal_reports (f : FalPart → FalPart) : (l.modFal b f).reports = l.reports := rfl
@[simp] theorem modFal_walk (f : FalPart → FalPart) : (l.modFal b f).walk = l.walk := rfl
@[simp] theorem modFal_cache (f : FalPart → FalPart) : (l.modFal b f).cache = l.cache := rfl
@[simp] theorem modFal_pool (f : FalPart → FalPart) : (l.modFal b f).pool = l.pool := rfl
@[simp] theorem modFal_sampleRejects (f : FalPart → FalPart) : (l.modFal b f).sampleRejects = l.sampleRejects := rfl
@[simp] theorem modFal_fal (f : FalPart → FalPart) : (l.modFal b f).fal = l.fal := rfl
@[simp] theorem modFal_departures (f : FalPart → FalPart) : (l.modFal b f).departures = l.departures := rfl

@[simp] theorem bay_modFal_self (f : FalPart → FalPart) : (l.modFal b f).bay b = { l.bay b with fal := f (l.bay b).fal } := by
  simp [Live.modFal]

@[simp] theorem bay_modFal_ne (f : FalPart → FalPart) (h : c ≠ b) : (l.modFal b f).bay c = l.bay c := by
  simp [Live.modFal, h]

@[simp] theorem modFal_bay_btb (f : FalPart → FalPart) : ((l.modFal b f).bay c).btb = (l.bay c).btb := by
  by_cases h : c = b
  · subst h; simp
  · simp [h]

@[simp] theorem modFal_bay_blm (f : FalPart → FalPart) : ((l.modFal b f).bay c).blm = (l.bay c).blm := by
  by_cases h : c = b
  · subst h; simp
  · simp [h]

@[simp] theorem modFal_bay_scv (f : FalPart → FalPart) : ((l.modFal b f).bay c).scv = (l.bay c).scv := by
  by_cases h : c = b
  · subst h; simp
  · simp [h]

@[simp] theorem modFal_bay_lsw (f : FalPart → FalPart) : ((l.modFal b f).bay c).lsw = (l.bay c).lsw := by
  by_cases h : c = b
  · subst h; simp
  · simp [h]

@[simp] theorem modFal_bay_frd (f : FalPart → FalPart) : ((l.modFal b f).bay c).frd = (l.bay c).frd := by
  by_cases h : c = b
  · subst h; simp
  · simp [h]

@[simp] theorem modFal_bay_php (f : FalPart → FalPart) : ((l.modFal b f).bay c).php = (l.bay c).php := by
  by_cases h : c = b
  · subst h; simp
  · simp [h]

@[simp] theorem modFal_bay_dpc (f : FalPart → FalPart) : ((l.modFal b f).bay c).dpc = (l.bay c).dpc := by
  by_cases h : c = b
  · subst h; simp
  · simp [h]


/-! ## DpcPart -/

@[simp] theorem modDpc_tsw (f : DpcPart → DpcPart) : (l.modDpc b f).tsw = l.tsw := rfl
@[simp] theorem modDpc_mgu (f : DpcPart → DpcPart) : (l.modDpc b f).mgu = l.mgu := rfl
@[simp] theorem modDpc_reports (f : DpcPart → DpcPart) : (l.modDpc b f).reports = l.reports := rfl
@[simp] theorem modDpc_walk (f : DpcPart → DpcPart) : (l.modDpc b f).walk = l.walk := rfl
@[simp] theorem modDpc_cache (f : DpcPart → DpcPart) : (l.modDpc b f).cache = l.cache := rfl
@[simp] theorem modDpc_pool (f : DpcPart → DpcPart) : (l.modDpc b f).pool = l.pool := rfl
@[simp] theorem modDpc_sampleRejects (f : DpcPart → DpcPart) : (l.modDpc b f).sampleRejects = l.sampleRejects := rfl
@[simp] theorem modDpc_fal (f : DpcPart → DpcPart) : (l.modDpc b f).fal = l.fal := rfl
@[simp] theorem modDpc_departures (f : DpcPart → DpcPart) : (l.modDpc b f).departures = l.departures := rfl

@[simp] theorem bay_modDpc_self (f : DpcPart → DpcPart) : (l.modDpc b f).bay b = { l.bay b with dpc := f (l.bay b).dpc } := by
  simp [Live.modDpc]

@[simp] theorem bay_modDpc_ne (f : DpcPart → DpcPart) (h : c ≠ b) : (l.modDpc b f).bay c = l.bay c := by
  simp [Live.modDpc, h]

@[simp] theorem modDpc_bay_btb (f : DpcPart → DpcPart) : ((l.modDpc b f).bay c).btb = (l.bay c).btb := by
  by_cases h : c = b
  · subst h; simp
  · simp [h]

@[simp] theorem modDpc_bay_blm (f : DpcPart → DpcPart) : ((l.modDpc b f).bay c).blm = (l.bay c).blm := by
  by_cases h : c = b
  · subst h; simp
  · simp [h]

@[simp] theorem modDpc_bay_scv (f : DpcPart → DpcPart) : ((l.modDpc b f).bay c).scv = (l.bay c).scv := by
  by_cases h : c = b
  · subst h; simp
  · simp [h]

@[simp] theorem modDpc_bay_lsw (f : DpcPart → DpcPart) : ((l.modDpc b f).bay c).lsw = (l.bay c).lsw := by
  by_cases h : c = b
  · subst h; simp
  · simp [h]

@[simp] theorem modDpc_bay_frd (f : DpcPart → DpcPart) : ((l.modDpc b f).bay c).frd = (l.bay c).frd := by
  by_cases h : c = b
  · subst h; simp
  · simp [h]

@[simp] theorem modDpc_bay_php (f : DpcPart → DpcPart) : ((l.modDpc b f).bay c).php = (l.bay c).php := by
  by_cases h : c = b
  · subst h; simp
  · simp [h]

@[simp] theorem modDpc_bay_fal (f : DpcPart → DpcPart) : ((l.modDpc b f).bay c).fal = (l.bay c).fal := by
  by_cases h : c = b
  · subst h; simp
  · simp [h]

/-! ## The part -/

section part
variable (d : Dev)

@[simp] theorem act_env (f : Env → Live → Live) : (d.act f).env = d.env := rfl
@[simp] theorem act_live (f : Env → Live → Live) : (d.act f).live = f d.env d.live := rfl
@[simp] theorem modTables_live (f : Tables → Tables) : (d.modTables f).live = d.live := rfl
@[simp] theorem modTables_params (f : Tables → Tables) : (d.modTables f).env.params = d.env.params := rfl
@[simp] theorem modTables_clock (f : Tables → Tables) : (d.modTables f).env.clock = d.env.clock := rfl
@[simp] theorem modTables_straps (f : Tables → Tables) : (d.modTables f).env.straps = d.env.straps := rfl
@[simp] theorem modParams_live (f : Params → Params) : (d.modParams f).live = d.live := rfl
@[simp] theorem modParams_tables (f : Params → Params) : (d.modParams f).env.tables = d.env.tables := rfl
@[simp] theorem modParams_clock (f : Params → Params) : (d.modParams f).env.clock = d.env.clock := rfl
@[simp] theorem modParams_straps (f : Params → Params) : (d.modParams f).env.straps = d.env.straps := rfl
@[simp] theorem modClock_live (f : Clock → Clock) : (d.modClock f).live = d.live := rfl
@[simp] theorem modClock_tables (f : Clock → Clock) : (d.modClock f).env.tables = d.env.tables := rfl
@[simp] theorem modClock_params (f : Clock → Clock) : (d.modClock f).env.params = d.env.params := rfl
@[simp] theorem modClock_straps (f : Clock → Clock) : (d.modClock f).env.straps = d.env.straps := rfl
@[simp] theorem after_pending (s : State) (f : Dev → Dev) : (s.after f).pending = s.pending := rfl

end part

end Sys2Proof.Machine
end

