-- ==== Sys2Proof/Laws/Management.lean ====
section
/-! SUPPORT. What a management operation comes to when MGU is free to execute it. -/
namespace Sys2Proof.Machine

/-- What `ready` says. -/
theorem ready_iff (s : State) : ready s = true ↔
    s.dev.env.straps.addressed = true ∧ s.dev.live.mgu.loader.running = false ∧ s.dev.live.mgu.queue = [] ∧
      s.dev.live.mgu.mrsp = none := by
  simp [ready, addressed, State.live, and_assoc]

/-- MGU executes a request at once when its queue and its MRSP slot are empty. -/
theorem submit_free (s : State) (payload : List Byte) (ha : s.dev.env.straps.addressed = true)
    (hq : s.dev.live.mgu.queue = []) (hm : s.dev.live.mgu.mrsp = none) :
    submit payload s = s.becomes (answerPayload payload s.dev) := by
  simp [submit, State.after, State.becomes, whenAddressed, ha, takeRequest, hq, hm]

/-- An operation that can be parsed is run and answered when MGU is free and the loader does not run. -/
theorem submit_ready (s : State) (tag : Byte) (m : MgmtOp) (h : ready s = true)
    (hp : parseOperation m.code m.params = some m) :
    submit (m.payload tag) s = s.becomes (respond tag m.code (m.run s.dev)) := by
  obtain ⟨ha, hl, hq, hm⟩ := (ready_iff s).1 h
  rw [submit_free s _ ha hq hm]
  simp [answerPayload, MgmtOp.payload, hp, MgmtOp.answer, MgmtOp.execute, hl]

/-- The answer of an operation without data that leaves the tables and the clock alone. -/
theorem respond_live (s : State) (tag op : Byte) (st : Status) (l : Live) :
    s.becomes (respond tag op (st, [], { s.dev with live := l })) = s.answers tag op st l := rfl

/-- A bay operation of bay `b` on the part. -/
theorem onBay_of_number (bay : Byte) (b : Bay) (h : bay.toNat = bayNumber b) (f : Env → Bay → Live → Status × Live) (d : Dev) :
    onBay bay f d = ((f d.env b d.live).1, [], { d with live := (f d.env b d.live).2 }) := by
  simp [onBay, h]

/-- A bay operation of a number outside 1 to 16. -/
theorem onBay_out_of_range (bay : Byte) (h : bay.toNat = 0 ∨ 16 < bay.toNat) (f : Env → Bay → Live → Status × Live) (d : Dev) :
    onBay bay f d = (.range, [], d) := by
  have : bayOf bay.toNat = none := by
    rcases h with h | h
    · rw [h]; rfl
    · exact bayOf_large _ h
  simp [onBay, this]

/-- A two-byte field read back. -/
theorem halfOf_bytes (h : Half) : halfOf (byteOf (h.toNat / 256)) (byteOf h.toNat) = h := by
  apply BitVec.eq_of_toNat_eq
  have := h.isLt
  rw [halfOf, num16_be16 _ this]
  simp

end Sys2Proof.Machine
end

