-- ==== Sys2Proof/Laws/Ops.lean ====
section
/-! SUPPORT. The shared operations, each said once: changes of one record, the job slot, report reasons, latch, entries. -/
namespace Sys2Proof.Machine

/-! ## One record changed twice -/

/-- Two changes of one record are one change. -/
@[simp] theorem modBay_modBay (l : Live) (b : Bay) (f g : BayRec → BayRec) :
    (l.modBay b f).modBay b g = l.modBay b (g ∘ f) := by
  simp [Live.modBay]

/-- A change of one part is a change of the record. -/
theorem modBtb_eq (l : Live) (b : Bay) (f : BtbPart → BtbPart) : l.modBtb b f = l.modBay b fun r => { r with btb := f r.btb } := rfl
theorem modBlm_eq (l : Live) (b : Bay) (f : BlmPart → BlmPart) : l.modBlm b f = l.modBay b fun r => { r with blm := f r.blm } := rfl
theorem modScv_eq (l : Live) (b : Bay) (f : ScvPart → ScvPart) : l.modScv b f = l.modBay b fun r => { r with scv := f r.scv } := rfl
theorem modLsw_eq (l : Live) (b : Bay) (f : LswPart → LswPart) : l.modLsw b f = l.modBay b fun r => { r with lsw := f r.lsw } := rfl
theorem modFrd_eq (l : Live) (b : Bay) (f : FrdPart → FrdPart) : l.modFrd b f = l.modBay b fun r => { r with frd := f r.frd } := rfl
theorem modPhp_eq (l : Live) (b : Bay) (f : PhpPart → PhpPart) : l.modPhp b f = l.modBay b fun r => { r with php := f r.php } := rfl
theorem modFal_eq (l : Live) (b : Bay) (f : FalPart → FalPart) : l.modFal b f = l.modBay b fun r => { r with fal := f r.fal } := rfl
theorem modDpc_eq (l : Live) (b : Bay) (f : DpcPart → DpcPart) : l.modDpc b f = l.modBay b fun r => { r with dpc := f r.dpc } := rfl

/-- A record changed to itself. -/
theorem modBay_id (l : Live) (b : Bay) (f : BayRec → BayRec) (h : f (l.bay b) = l.bay b) : l.modBay b f = l := by
  have e : f l.bays[b] = l.bays[b] := h
  rw [Live.modBay, e]
  have : l.bays.set b l.bays[b] = l.bays := by
    ext i hi
    simp
  simp only [Fin.getElem_fin] at this ⊢
  rw [this]

/-- Two changes of one record agree when they agree on the record as it stands. -/
theorem modBay_congr (l : Live) (b : Bay) (f g : BayRec → BayRec) (h : f (l.bay b) = g (l.bay b)) :
    l.modBay b f = l.modBay b g := by
  have e : f l.bays[b] = g l.bays[b] := h
  rw [Live.modBay, Live.modBay, e]

/-! ## Report reasons (R171) -/

@[simp] theorem addReason_bays (e : Env) (n : ReportNumber) (r : Reason) (l : Live) : (addReason e n r l).bays = l.bays := rfl
@[simp] theorem addReason_bay (e : Env) (n : ReportNumber) (r : Reason) (l : Live) (b : Bay) :
    (addReason e n r l).bay b = l.bay b := rfl
@[simp] theorem addReason_tsw (e : Env) (n : ReportNumber) (r : Reason) (l : Live) : (addReason e n r l).tsw = l.tsw := rfl
@[simp] theorem addReason_mgu (e : Env) (n : ReportNumber) (r : Reason) (l : Live) : (addReason e n r l).mgu = l.mgu := rfl
@[simp] theorem addReason_walk (e : Env) (n : ReportNumber) (r : Reason) (l : Live) : (addReason e n r l).walk = l.walk := rfl
@[simp] theorem addReason_cache (e : Env) (n : ReportNumber) (r : Reason) (l : Live) : (addReason e n r l).cache = l.cache := rfl
@[simp] theorem addReason_pool (e : Env) (n : ReportNumber) (r : Reason) (l : Live) : (addReason e n r l).pool = l.pool := rfl
@[simp] theorem addReason_fal (e : Env) (n : ReportNumber) (r : Reason) (l : Live) : (addReason e n r l).fal = l.fal := rfl
@[simp] theorem addReason_departures (e : Env) (n : ReportNumber) (r : Reason) (l : Live) :
    (addReason e n r l).departures = l.departures := rfl

/-- The set written for a number is the set read for it. -/
@[simp] theorem of_put_self (r : Reports) (n : ReportNumber) (s : Reasons) : (r.put n s).of n = s := by
  cases n <;> simp [Reports.put, Reports.of]

/-- The sets of the other numbers stay. -/
theorem of_put_ne (r : Reports) (n k : ReportNumber) (s : Reasons) (h : k ≠ n) : (r.put n s).of k = r.of k := by
  cases n with
  | row => cases k with
    | row => exact absurd rfl h
    | bay c => rfl
  | bay b => cases k with
    | row => rfl
    | bay c =>
      have hc : ¬ b.val = c.val := fun x => h (by rw [Fin.ext x])
      simp [Reports.put, Reports.of, hc]

@[simp] theorem put_ring (r : Reports) (n : ReportNumber) (s : Reasons) : (r.put n s).ring = r.ring := by
  cases n <;> rfl

/-- An addition puts the reason into the set of its number, and no other set changes. -/
theorem of_add_self (mask : Reasons) (n : ReportNumber) (x : Reason) (r : Reports) :
    (r.add mask n x).of n = r.of n ||| x.single := by
  simp only [Reports.add]
  split
  · exact of_put_self r n _
  · exact of_put_self r n _

theorem of_add_ne (mask : Reasons) (n k : ReportNumber) (x : Reason) (r : Reports) (h : k ≠ n) :
    (r.add mask n x).of k = r.of k := by
  simp only [Reports.add]
  split
  · exact of_put_ne r n k _ h
  · exact of_put_ne r n k _ h

/-- The ring gains the number at its tail, or stays. -/
theorem add_ring (mask : Reasons) (n : ReportNumber) (x : Reason) (r : Reports) :
    (r.add mask n x).ring = if r.of n &&& mask = 0 ∧ (r.of n ||| x.single) &&& mask ≠ 0 then r.ring ++ [n] else r.ring := by
  simp only [Reports.add]
  split <;> simp

/-! ## Desired state and latch (R13, R37) -/

/-- A write of the desired state leaves the state written, dirty when it was another. -/
theorem desire_eq (a : Actuators) (m : BlmPart) :
    m.desire a = { m with desired := a, dirty := m.dirty || (m.desired != a) } := by
  unfold BlmPart.desire
  split
  · rename_i h
    subst h
    cases m
    simp
  · rename_i h
    simp [h]

/-- Purpose and desired latch are written together; nothing else of the record changes. -/
theorem setLatch_eq (b : Bay) (p : Purpose) (release : Bool) (l : Live) :
    setLatch b p release l = l.modBay b fun r =>
      { r with
        btb := { r.btb with purpose := p }
        blm :=
          { r.blm with
            desired := { r.blm.desired with latch := release }
            dirty := r.blm.dirty || (r.blm.desired.latch != release) } } := by
  simp only [setLatch, modBtb_eq, modBlm_eq, modBay_modBay]
  apply modBay_congr
  simp only [Function.comp, desire_eq]
  rcases (l.bay b).blm.desired with ⟨x, y, z⟩
  congr 2
  cases y <;> cases release <;> simp

/-! ## The job slot (R34) -/

/-- A frame placed in an empty slot enters it unsent. -/
theorem place_empty (f : JobFrame) (m : BlmPart) (h : m.job = none) : m.place f = { m with job := some ⟨f, false⟩ } := by
  simp [BlmPart.place, h]

/-- A withdrawal with an empty slot only drops the claim. -/
theorem withdraw_empty (o : Owner) (m : BlmPart) (h : m.job = none) : m.withdraw o = m.dropClaim o := by
  cases o <;> simp [BlmPart.withdraw, BlmPart.dropClaim, h]

/-! ## The most recent exchange (R29) -/

@[simp] theorem recordEnd_recent (r : Recent) (m : BlmPart) : (m.recordEnd r).recent = r := rfl

@[simp] theorem recordEnd_sampleOwed (r : Recent) (m : BlmPart) :
    (m.recordEnd r).sampleOwed = (m.recent == .reply true true) := rfl

/-! ## Requests taken back (R123) -/

/-- What a dropped request changes: a share that was QUEUED or HELD, and the queue behind the former. -/
theorem dropRequest_eq (b : Bay) (k : ShareKind) (l : Live) :
    dropRequest b k l =
      if (shareOf l b k).state = .queued then
        { (l.modFal b fun f => f.setShare k .none) with
          fal := { l.fal with queue := l.fal.queue.filter (· != (b, k)) } }
      else if (shareOf l b k).state = .held then l.modFal b fun f => f.setShare k .none
      else l := by
  unfold dropRequest
  split <;> simp_all [dropShare, dequeue, Live.modFal, Live.modBay]

/-- A withdrawal without a request changes nothing. -/
theorem withdrawShare_none (e : Env) (b : Bay) (k : ShareKind) (l : Live) (hq : (shareOf l b k).state ≠ .queued)
    (hh : (shareOf l b k).state ≠ .held) : withdrawShare e b k l = l := by
  simp [withdrawShare, dropRequest_eq, hq, hh]

/-! ## Entries (R152) -/

theorem boundEntry_congr (l k : Live) (b : Bay) (h : l.departures = k.departures) : boundEntry l b = boundEntry k b := by
  simp [boundEntry, h]

@[simp] theorem boundEntry_modBay (l : Live) (b c : Bay) (f : BayRec → BayRec) :
    boundEntry (l.modBay c f) b = boundEntry l b := rfl

/-- The entry bound to a bay is in the list and names the bay. -/
theorem boundEntry_some {l : Live} {b : Bay} {x : DepEntry} (h : boundEntry l b = some x) :
    x ∈ l.departures ∧ x.bay = some b :=
  ⟨List.mem_of_find?_eq_some h, by simpa using List.find?_some h⟩

/-- With no entry bound to it a bay is judged without effect. -/
theorem judge_unbound (e : Env) (b : Bay) (l : Live) (h : boundEntry l b = none) : judge e b l = l := by
  simp [judge, h]

/-- The ids of the list survive a change of entries that keeps them. -/
theorem updateEntry_ids (id : Nat) (f : DepEntry → DepEntry) (l : Live) (h : ∀ x, (f x).id = x.id) :
    (updateEntry id f l).departures.map (·.id) = l.departures.map (·.id) := by
  simp only [updateEntry, List.map_map]
  apply List.map_congr_left
  intro x _
  by_cases hx : (x.id == id) = true <;> simp_all

end Sys2Proof.Machine
end

