-- ==== Sys2Proof/Tests/Slice0.lean ====
section
/-! SUPPORT. Tests: ill-formed terms are refused, the worked figures of the manual, one small step per command, and for each
statement for the provers states and operands that meet its hypotheses. -/
namespace Sys2Proof.Tests
open Sys2Proof Sys2Proof.Machine
set_option Elab.async false

/-! ## Small states -/

/-- An addressed part, its loader not running, with nothing waiting and no slot begun. -/
def idle : State := { dev := { env := .reset .initial, live := .reset }, pending := [] }

/-- `idle` with its live state changed. -/
def live (f : Live → Live) : State := { idle with dev := { idle.dev with live := f idle.dev.live } }

/-- `idle` with the record of bay 1 changed. -/
def bay1 (f : BayRec → BayRec) : State := live fun l => l.modBay 0 f

/-- `idle` with bay 1 OCCUPIED by coach 77 and profile 0 valid, an 8 by 12 grid. -/
def occupied1 (f : BayRec → BayRec) : State :=
  { dev :=
      { env :=
          { idle.dev.env with
            tables :=
              { idle.dev.env.tables with
                profiles := idle.dev.env.tables.profiles.set 0
                  { ProfileHeader.reset with valid := true, groups := 8, positions := 12, lampLoad := 5, heaterPower := 40 } } }
        live := Live.reset.modBay 0 fun r =>
          f { r with btb := { r.btb with occupancy := .occupied, coach := 77 }, blm := { r.blm with link := .online, dirty := false } } }
    pending := [] }

/-- `s` with an exchange of bay 1 in flight. -/
def flying (sent : SentFrame) (s : State) : State :=
  { s with dev := { s.dev with live := { s.dev.live with
      walk := { s.dev.live.walk with slot := some ⟨.exchange 0 sent, 4, .counts⟩ } } } }

/-- `s` with a departure list. -/
def listing (xs : List DepEntry) (s : State) : State :=
  { s with dev := { s.dev with live := { s.dev.live with departures := xs } } }

/-- An entry of id 7 at minute 100, WAITING and bound to no bay. -/
def entry7 : DepEntry :=
  { id := 7, minute := 100, bay := none, coach := none, target := none, gates := ⟨false, false, false⟩, state := .waiting,
    clamped := false, mismatch := false, late := false, held := false }

/-- A trunk frame from the office. -/
def down (dr db : Nat) (kind : Byte) (payload : List Byte) : TrunkFrame := ⟨dr, db, 0, 0, kind, 15, payload⟩

/-- The state a command leaves; the state itself where it leaves none. -/
def after (c : Instr) (s : State) : State :=
  match exec c s with
  | .next t => t
  | _ => s

/-- The status of the response in the MRSP slot. -/
def statusOf (s : State) : Option Status := s.live.mgu.mrsp.map (·.status)

/-! ## Ill-formed terms are refused -/

theorem test_long_trunk_frame_ill_formed :
    (Instr.trunkFrameReceived .tu (List.replicate 265 0)).wellFormed = false := by decide +kernel
theorem test_long_reply_ill_formed : (Instr.exchangeReply (List.replicate 262 0)).wellFormed = false := by decide +kernel
theorem test_long_request_ill_formed : (Instr.mgmtFormatError (List.replicate 121 0)).wellFormed = false := by decide +kernel
theorem test_short_load_ill_formed : (Instr.load 1 [1, 0, 0]).wellFormed = false := by decide
theorem test_long_load_ill_formed : (Instr.load 1 (List.replicate 119 0)).wellFormed = false := by decide +kernel
theorem test_read_without_selector_ill_formed : (Instr.read 1 0x02 []).wellFormed = false := by decide
theorem test_read_unknown_long_ill_formed : (Instr.read 1 0x77 [0, 0, 0, 0, 0]).wellFormed = false := by decide
theorem test_no_word_spells_a_command : decodeTableWord 16 0x1234 = none ∧ State.reset.withFetchWord 16 1 = State.reset :=
  ⟨rfl, rfl⟩

/-! ## Worked figures of the manual -/

/-- R175: the check value of the nine characters 1 to 9. -/
theorem test_frame_check :
    frameCheck [0x31, 0x32, 0x33, 0x34, 0x35, 0x36, 0x37, 0x38, 0x39] = 0x29B1#16 := by decide +kernel
/-- R61: the 8-bit codes 0, 1, 254 and 255. -/
theorem test_normalize_eight_bits :
    [0, 1, 254, 255].map normalize8 = [(0, false), (24, false), (4072, false), (4095, true)] := by decide
/-- R97: a distance across the end of the week, and its two ends. -/
theorem test_distance : distance 5 10075 = 10 ∧ distance 5040 0 = -5040 ∧ distance 5039 0 = 5039 := by decide

/-- Table 4-4: cabin conversions at the default calibration. -/
theorem test_cabin_conversions :
    [0, 1593, 1592, 1608, 2731, 4094].map (cabinTemperature Params.reset) = [-80, -10, -11, -10, 40, 99] := by decide
/-- Table 4-5: offset -100 and span 200. -/
theorem test_cabin_conversions_clamped :
    [0, 409, 2048, 4094].map (cabinTemperature { Params.reset with cabinOffset := -100, cabinSpan := 200 }) = [-80, -80, 0, 99] := by
  decide
/-- Section 6.13.1: the header of the worked leads. -/
def header613 : ProfileHeader :=
  { ProfileHeader.reset with valid := true, heaterPower := 160, heatCapacity := 600, lossFactor := 250, margin := 5 }
/-- Section 6.13.1: 26 minutes from -10 to +40 at an outside of -16, and 11, 7, 0 and 8 minutes from +30, +37, +40 and +35. -/
theorem test_leads :
    [-10, 30, 37, 40, 35].map (fun c => (computeLead header613 40 c (-16)).lead) = [26, 11, 7, 0, 8] := by decide
/-- Section 4.1 of 00_scope: distances across the week wrap. -/
theorem test_distance_examples : distance 5 10070 = 15 ∧ distance 10070 5 = -15 := by decide

/-! ## One step per command -/

theorem test_power_on_reset_forgets :
    ((after (.powerOnReset 63 true 3) (bay1 fun r => { r with btb := { r.btb with coach := 9 } })).bay 0).btb.coach = 0 := by
  decide +kernel
theorem test_pin_reset_starts_the_loader : (after (.pinReset 62 false 0) idle).live.mgu.loader.running = true := by decide +kernel
theorem test_loader_byte_read : (after (.loaderByteRead 0xFF) State.reset).live.mgu.loader.running = false := by decide +kernel
theorem test_noack : (after .noack State.reset).live.mgu.loader.result = .noack := by decide +kernel
/-- R46: a frame for row 2 from the office leaves toward TD at once with its HOP kept. -/
theorem test_trunk_frame_relayed :
    (after (.trunkFrameReceived .tu (down 2 1 0x20 []).bytes) idle).live.tsw.tdSending = some (down 2 1 0x20 []) := by
  decide +kernel
/-- R52: a frame for bay 1 waits in its queue. -/
theorem test_down_frame_queued :
    (after (.trunkFrameReceived .td (down 1 1 0x20 [5]).bytes) (flying .poll (occupied1 id))).live.bays[0].blm.queue =
      [⟨0x20, [5]⟩] := by decide +kernel
theorem test_reception_breaks_off : (after (.receptionBreaksOff .td) idle).live.tsw.tdCounts.badFrame = 1 := by decide +kernel
theorem test_tu_transmit_end :
    (after .tuTransmitEnd (live fun l =>
      { l with
        tsw := { l.tsw with tuSending := some ⟨down 0 0 2 [], true⟩ }
        mgu := { l.mgu with mrsp := some ⟨1, 2, .done, []⟩ } })).live.mgu.mrsp = none := by decide +kernel
theorem test_td_transmit_end :
    (after .tdTransmitEnd (live fun l => { l with tsw := { l.tsw with tdSending := some (down 2 0 1 []), tdQueue :=
      [down 3 0 1 []] } })).live.tsw.tdSending = some (down 3 0 1 []) := by decide +kernel
/-- R5, R6: an IDRP of coach 4660 with profile 2 makes the PLUGGED bay OCCUPIED. -/
theorem test_exchange_reply_identifies :
    ((after (.exchangeReply (replyBytes 0 0x11 0x01 [0, 0, 0x12, 0x34, 2]))
      (flying (.job .ident) (bay1 fun r => { r with btb := { r.btb with occupancy := .plugged } }))).bay 0).btb.coach = 4660 := by
  decide +kernel
theorem test_exchange_reply_converts_a_cabin_sample :
    ((after (.exchangeReply (replyBytes 0 0x12 0x01 [0x14, 0, 0x0A, 0xAB])) (flying .poll (occupied1 id))).bay 0).scv.held =
      some 40 := by decide +kernel
theorem test_bad_reply : ((after .badReply (flying .poll idle)).bay 0).blm.missCount = 1 := by decide +kernel
/-- R32: the third miss in a row makes the link SILENT. -/
theorem test_reply_timeout_silent :
    ((after .replyTimeout (flying .poll (bay1 fun r => { r with blm := { r.blm with missCount := 2 } }))).bay 0).blm.link =
      .silent := by decide +kernel
theorem test_poll_slot_idle_end :
    (after .pollSlotIdleEnd (live fun l => { l with walk := { l.walk with slot := some ⟨.idle, 4, .counts⟩ } })).live.walk.pointer =
      1 := by decide +kernel
theorem test_link_silent : ((after (.linkSilent 0) idle).bay 0).blm.link = .silent := by decide +kernel
theorem test_ident_failed :
    ((after (.identFailed 0) (bay1 fun r => { r with btb := { r.btb with occupancy := .plugged } })).bay 0).btb.identFailed =
      true := by decide +kernel
theorem test_step_visit_limit_wraps_the_tag :
    ((after (.stepVisitLimit 0) (occupied1 fun r =>
      { r with
        lsw :=
          { r.lsw with
            sweep := .running
            pointer := some (1, 1)
            tries := 1
            tagCounter := 15 } })).bay 0).lsw.stepTag = 0 := by decide +kernel
theorem test_coach_busy :
    ((after (.coachBusy 0) (occupied1 fun r => { r with frd := { r.frd with status := .reading } })).bay 0).frd.cause =
      .coachBusy := by decide +kernel
theorem test_coach_silent :
    ((after (.coachSilent 0) (occupied1 fun r => { r with frd := { r.frd with status := .reading } })).bay 0).frd.status =
      .aborted := by decide +kernel
theorem test_clear_timeout :
    ((after (.clearTimeout 0) (occupied1 fun r => { r with frd := { r.frd with status := .clearing } })).bay 0).frd.cause =
      .clearTimeout := by decide +kernel
theorem test_cabin_stale_onset :
    ((after (.cabinStaleOnset 0) (bay1 fun r => { r with scv := { r.scv with age := 3 } })).bay 0).scv.age = 10 := by
  decide +kernel
theorem test_second_tick_turns_the_minute :
    (after .secondTick { idle with dev := { idle.dev with env := { idle.dev.env with clock :=
      { idle.dev.env.clock with minute := 10079, second := 59 } } } }).dev.env.clock.minute = 0 := by decide +kernel
theorem test_minute_event : (after .minuteEvent idle).dev.env.clock.minute = 1 := by decide +kernel
theorem test_time_stale : (after .timeStale idle).live.reports.ring = [] ∧
    (after .timeStale idle).live.tsw.tuSending.isSome = true := by decide +kernel
theorem test_parked_slot_expiry :
    (after .parkedSlotExpiry (live fun l => { l with cache := [⟨5, 0, untestedMap, [], 0, .none, .none, 0, 10000⟩] })).live.cache =
      [] := by decide +kernel
theorem test_mgmt_format_error : statusOf (after (.mgmtFormatError [9, 0x10]) idle) = some .format := by decide +kernel
theorem test_load_poll_entry :
    (after (.load 1 [2, 0, 0, 1, 0x83]) idle).dev.env.tables.poll[0] = ⟨some 2, true⟩ := by decide +kernel
theorem test_read_loader_result : statusOf (after (.read 1 0x0A []) State.reset) = some .done := by decide +kernel
theorem test_ident_of_a_vacant_bay : statusOf (after (.ident 1 1) idle) = some .state := by decide +kernel
theorem test_lamp_check : ((after (.lampCheck 1 1 1 8 1 12 0) (occupied1 id)).bay 0).lsw.sweep = .waitPower := by decide +kernel
theorem test_lamp_stop :
    ((after (.lampStop 1 1) (occupied1 fun r => { r with lsw := { r.lsw with sweep := .running } })).bay 0).lsw.sweep = .aborted := by
  decide +kernel
theorem test_fault_read :
    ((after (.faultRead 1 1) (flying .poll (occupied1 id))).bay 0).blm.job = some ⟨.crd 0 32, false⟩ := by decide +kernel
theorem test_fault_clear : ((after (.faultClear 1 1) (occupied1 id)).bay 0).frd.clearTimer = 30 := by decide +kernel
theorem test_fault_flush :
    ((after (.faultFlush 1 1) (occupied1 fun r => { r with frd := { r.frd with status := .complete } })).bay 0).frd.status = .none := by
  decide +kernel
theorem test_latch_shunt : ((after (.latchShunt 1 1) (occupied1 id)).bay 0).blm.desired.latch = true := by decide +kernel
theorem test_latch_lock :
    ((after (.latchLock 1 1) (occupied1 fun r => { r with btb := { r.btb with purpose := .shunt } })).bay 0).btb.purpose = .none := by
  decide +kernel
theorem test_bay_enable :
    ((after (.bayEnable 1 1) (bay1 fun r => { r with btb := { r.btb with occupancy := .disabled } })).bay 0).btb.occupancy =
      .unknown := by decide +kernel
theorem test_bay_disable : ((after (.bayDisable 1 16) idle).bay 15).btb.occupancy = .disabled := by decide +kernel
theorem test_dep_add_clamps :
    (after (.depAdd 1 7 100 0 0 60 0) idle).live.departures = [{ entry7 with target := some 56, clamped := true }] := by
  decide +kernel
theorem test_dep_change_not_found : statusOf (after (.depChange 1 8 0 0 0 0 0) (listing [entry7] idle)) = some .notFound := by
  decide +kernel
theorem test_dep_cancel : (after (.depCancel 1 7) (listing [entry7] idle)).live.departures = [] := by decide +kernel
theorem test_release_now_of_a_waiting_entry : statusOf (after (.releaseNow 1 7) (listing [entry7] idle)) = some .state := by
  decide +kernel
theorem test_feeder_set_boundary : (after (.feederSet 1 4000) idle).dev.env.params.feederLimit = 4000 ∧
    statusOf (after (.feederSet 1 4001) idle) = some .range := by decide +kernel
theorem test_row_reset : (after (.rowReset 1) (listing [entry7] idle)).live.departures = [] := by decide +kernel
theorem test_reload : (after (.reload 1) idle).live.mgu.loader.running = true := by decide +kernel

/-! ## What meets the hypotheses of the statements

Each theorem names a statement and gives states and operands that meet its hypotheses, clause by clause, at boundary values. -/

/-- A claim about the frame of an empty job slot. -/
theorem no_job {m : BlmPart} {P : JobInSlot → Prop} (h : m.job = none) : ∀ j, m.job = some j → P j := by
  intro j hj
  rw [h] at hj
  exact absurd hj (by simp)

/-- A claim about the entry bound to a bay without one. -/
theorem no_entry {o : Option DepEntry} {P : DepEntry → Prop} (h : o = none) : ∀ x, o = some x → P x := by
  intro x hx
  rw [h] at hx
  exact absurd hx (by simp)

/-- A bay of which every exchange counts is not in flight where no slot is. -/
theorem no_slot {o : Option Slot} (h : o = none) (f : SentFrame → Nat → Slot) : ∀ sent timeout, o ≠ some (f sent timeout) := by
  intro sent timeout hs
  rw [h] at hs
  exact absurd hs (by simp)

theorem witness_StepRunsTheFrontCommand : State.reset.pending = [] := rfl

theorem witness_SettlingTouchesOnlyTheLines : quiet State.reset.dev = true ∧ State.reset.dev.live.mgu.queue = [] ∧
    (live fun l => { l with mgu := { l.mgu with queue := [[1]], mrsp := some ⟨1, 2, .done, []⟩ } }).dev.live.mgu.mrsp.isSome =
      true ∧
    idle.dev.live.walk.slot = none ∧ (settle idle.dev).live.walk.slot = some ⟨.exchange 0 (.actuate .off), 4, .counts⟩ ∧
    (let d := (bay1 fun r => { r with blm := { r.blm with dirty := false, queue := [⟨0x20, []⟩], job := some ⟨.cclr, false⟩ } }).dev
     d.live.walk.slot = none ∧ (settle d).live.walk.slot = some ⟨.exchange 0 (.job .cclr), 4, .counts⟩) ∧
    (let d := (bay1 fun r => { r with blm := { r.blm with dirty := false, queue := [⟨0x20, []⟩] } }).dev
     d.live.walk.slot = none ∧ (settle d).live.walk.slot = some ⟨.exchange 0 (.office ⟨0x20, []⟩), 4, .counts⟩) := by
  decide +kernel

/-- `idle` with a loader that runs in a phase. -/
def loading (phase : LoaderPhase) (address length : Nat) : State :=
  live fun l =>
    { l with mgu := { l.mgu with loader := { l.mgu.loader with running := true, phase := phase, address := address, length := length } } }

theorem witness_TheLoaderRunsEndByTheirResult : State.reset.live.mgu.loader.running = true ∧
    State.reset.live.mgu.loader.phase = .marker ∧ idle.live.mgu.loader.running = false ∧
    (loading .lengthHigh 1 0).live.mgu.loader.phase = .lengthHigh ∧
    (loading (.lengthLow 0) 2 0).live.mgu.loader.phase = .lengthLow 0 ∧ (loading (.lengthLow 0) 2 0).live.mgu.loader.address = 2 ∧
    (loading .recordTable 3 4).live.mgu.loader.phase = .recordTable ∧ 6 < (7 : Byte).toNat ∧ tableOf 6 = some .rowparam ∧
    (loading (.recordCount .poll 32) 6 9).live.mgu.loader.phase = .recordCount .poll 32 ∧ TableId.poll.size ≤ 32 ∧
    (loading (.recordCount .poll 31) 6 9).live.mgu.loader.running = true := by decide +kernel

/-- A loader that waits for the last byte of ROUTE entry 222, the last but one of the table and of its memory. -/
def loading222 : State :=
  live fun l =>
    { l with
      mgu :=
        { l.mgu with
          loader :=
            { l.mgu.loader with
              running := true
              phase := .entry .route 222 2 [3]
              address := 254
              length := 253 } } }

theorem witness_LoaderWritesARouteEntry : loading222.live.mgu.loader.running = true ∧
    loading222.live.mgu.loader.phase = .entry .route (222 : Fin 224).val 2 [3] ∧ 2 ≤ 2 ∧ (222 : Fin 224).val + 1 < 224 ∧
    (3 : Byte).toNat < 4 ∧ (15 : Byte).toNat < 16 ∧
    loading222.live.mgu.loader.address + 1 < 3 + loading222.live.mgu.loader.length ∧
    loading222.live.mgu.loader.address + 1 < memorySize loading222.dev.env.straps := by decide +kernel

/-- The last byte of POLL entry 31, the last of its table: one that passes its check, and one with target 17. -/
theorem witness_LoaderWritesEveryEntry :
    let s := loading (.entry .poll 31 2 []) 7 5
    s.live.mgu.loader.running = true ∧ s.live.mgu.loader.phase = .entry .poll 31 2 [] ∧
      ([] : List Byte).length + 1 = TableId.poll.entryBytes ∧ writeEntry .poll 31 ([] ++ [0x11]) s.dev = none ∧
      (writeEntry .poll 31 ([] ++ [0x90]) s.dev).isSome = true ∧ TableId.poll.size ≤ 31 + 1 ∧
      (loading (.entry .poll 31 1 []) 7 5).live.mgu.loader.address + 1 = 3 + (loading (.entry .poll 31 1 []) 7 5).live.mgu.loader.length ∧
      30 + 1 < TableId.poll.size ∧ 6 + 1 < 3 + (loading (.entry .poll 30 2 []) 6 5).live.mgu.loader.length ∧
      6 + 1 < memorySize s.dev.env.straps := by
  decide +kernel

theorem witness_BadFramesAreOnlyCounted : parseTrunk [] = none ∧ addressed idle = true ∧ idle.dev.env.straps.row.val = 1 ∧
    parseTrunk (down 1 17 0x20 []).bytes = some (down 1 17 0x20 []) ∧
    parseTrunk (down 1 30 0x20 []).bytes = some (down 1 30 0x20 []) ∧
    parseTrunk (down 1 16 0x1F []).bytes = some (down 1 16 0x1F []) ∧
    parseTrunk (down 1 0 0x03 []).bytes = some (down 1 0 0x03 []) := by decide +kernel

theorem witness_FramesForOtherRowsAreRelayed : addressed idle = true ∧ idle.dev.env.straps.row.val = 1 ∧
    parseTrunk (down 0 0 0x02 []).bytes = some (down 0 0 0x02 []) ∧
    parseTrunk (down 62 31 0xFF []).bytes = some (down 62 31 0xFF []) ∧
    parseTrunk (down 63 1 0x20 []).bytes = some (down 63 1 0x20 []) ∧
    parseTrunk (down 1 1 0x20 []).bytes = some { down 63 1 0x20 [] with dr := idle.dev.env.straps.row.val } ∧
    addressed { idle with dev := .reset ⟨0, false, 0⟩ } = false ∧ addressed { idle with dev := .reset ⟨63, true, 0⟩ } = false := by
  decide +kernel

theorem witness_DownFrameForOneBay : addressed idle = true ∧ idle.dev.env.straps.row.val = 1 ∧
    parseTrunk (down 1 (bayNumber 0) 0x20 []).bytes = some (down 1 (bayNumber 0) 0x20 []) ∧
    (0x20 : Byte).toNat = 32 + (0 : Fin 224).val ∧
    parseTrunk (down 1 (bayNumber 15) 0xFF []).bytes = some (down 1 (bayNumber 15) 0xFF []) ∧
    (0xFF : Byte).toNat = 32 + (223 : Fin 224).val := by decide +kernel

theorem witness_DownFrameForAllBays : addressed idle = true ∧ idle.dev.env.straps.row.val = 1 ∧
    parseTrunk (down 1 31 0x20 []).bytes = some (down 1 31 0x20 []) ∧ (0x20 : Byte).toNat = 32 + (0 : Fin 224).val ∧
    parseTrunk (down 1 31 0xFF []).bytes = some (down 1 31 0xFF []) ∧ (0xFF : Byte).toNat = 32 + (223 : Fin 224).val := by
  decide +kernel

/-- `idle` with a response in the MRSP slot and `n` requests waiting behind it. -/
def waiting (n : Nat) : State :=
  live fun l => { l with mgu := { l.mgu with queue := List.replicate n [1, 2], mrsp := some ⟨1, 2, .done, []⟩ } }

theorem witness_MgmtFramesJoinTheInputQueue : addressed (waiting 3) = true ∧ (waiting 3).dev.env.straps.row.val = 1 ∧
    parseTrunk (down 1 0 0x01 [1]).bytes = some (down 1 0 0x01 [1]) ∧ (waiting 3).live.mgu.queue.length < 4 ∧
    addressed (waiting 4) = true ∧ 4 ≤ (waiting 4).live.mgu.queue.length := by decide +kernel

theorem witness_TimeFramesSetTheClock : addressed idle = true ∧ idle.dev.env.straps.row.val = 1 ∧
    parseTrunk (down 1 0 0x04 [1]).bytes = some (down 1 0 0x04 [1]) ∧
    (parseTrunk (down 1 0 0x04 [0x27, 0x60, 0, 0]).bytes = some (down 1 0 0x04 [0x27, 0x60, 0, 0]) ∧
      10079 < (0x27 : Byte).toNat * 256 + (0x60 : Byte).toNat) ∧
    59 < (60 : Byte).toNat ∧ (0xAF : Byte).toInt < -80 ∧ 99 < (100 : Byte).toInt ∧
    (0x27 : Byte).toNat * 256 + (0x5F : Byte).toNat ≤ 10079 ∧ -80 ≤ (0xB0 : Byte).toInt ∧ (99 : Byte).toInt ≤ 99 ∧
    parseTrunk (down 1 0 0x04 [0, 0, 59, 0]).bytes = some (down 1 0 0x04 [0, 0, 59, 0]) ∧
    (0 : Byte).toNat * 256 + (0 : Byte).toNat = idle.dev.env.clock.minute ∧ (0 : Byte).toInt = idle.dev.env.clock.outside := by
  decide +kernel

theorem witness_TimeFramesSetTheMinute : addressed idle = true ∧ (∀ b : Bay, (idle.bay b).php.state = .none) ∧
    parseTrunk (down 63 0 0x04 [0x27, 0x5F, 59, 99]).bytes = some (down 63 0 0x04 [0x27, 0x5F, 59, 99]) ∧
    (0x27 : Byte).toNat * 256 + (0x5F : Byte).toNat ≤ 10079 ∧ (59 : Byte).toNat ≤ 59 ∧ -80 ≤ (99 : Byte).toInt ∧
    (99 : Byte).toInt ≤ 99 ∧ idle.live.mgu.queue = [] ∧ idle.live.departures = [] ∧ idle.live.fal.queue = [] := by decide +kernel

/-- `idle` with a transmission in flight on TU. -/
def sending (isMrsp : Bool) : State := live fun l => { l with tsw := { l.tsw with tuSending := some ⟨down 0 0 2 [], isMrsp⟩ } }

theorem witness_TheArbiterTakesTurns : (sending true).live.tsw.tuSending = some ⟨down 0 0 2 [], true⟩ ∧
    addressed (sending true) = true ∧ (sending true).live.mgu.queue = [] ∧
    (sending false).live.tsw.tuSending = some ⟨down 0 0 2 [], false⟩ ∧ addressed (sending false) = true ∧
    (sending false).live.mgu.queue = [] := by decide +kernel

theorem witness_TdServesItsQueueInOrder : State.reset.live.tsw.tdQueue = [] ∧ step State.reset = .next State.reset ∧
    trunkEndLaw State.reset.dev = true ∧ trunkEndLaw (Dev.reset ⟨5, true, 0⟩) = true := ⟨rfl, rfl, rfl, rfl⟩

theorem witness_TheWalkServesTheSchedule : idle.live.walk.slot = none ∧ idle.dev.env.straps.addressed = true ∧
    idle.live.mgu.loader.running = false ∧ State.reset.live.walk.slot = none ∧ State.reset.live.mgu.loader.running = true ∧
    (live fun l => { l with walk := { l.walk with slot := some ⟨.idle, 4, .counts⟩ } }).live.walk.slot =
      some ⟨.idle, 4, .counts⟩ := by decide +kernel

/-- R27 to R29: a dirty bay, a job of BTB's, a sample pending, a job frame sent before, an office frame sent before, and the two
values of the memory with both waiting. -/
theorem witness_TheFrameOfAnExchange :
    let m := { BlmPart.reset with dirty := false }
    let both := { m with queue := [⟨0x20, []⟩], job := some ⟨.cclr, false⟩ }
    BlmPart.reset.dirty = true ∧ JobFrame.ident.owner = .btb ∧ { m with recent := .reply true false }.samplePollDue = true ∧
      both.samplePollDue = false ∧ JobFrame.cclr.owner ≠ .btb ∧ both.headSent = false ∧ both.turn = .office ∧
      { both with turn := .job }.turn = .job ∧ { both with headSent := true }.headSent = true := by decide

theorem witness_MissesAreCountedUnlessCutOff :
    let s := flying .poll (bay1 fun r => { r with blm := { r.blm with missCount := 1 } })
    s.live.walk.slot = some ⟨.exchange 0 .poll, 4, .counts⟩ ∧
      bumpTo 15 (s.bay 0).blm.missCount < s.dev.env.params.missLimit ∧ SentFrame.poll ≠ .job .ident ∧
      (s.bay 0).lsw.sweep ≠ .running ∧ (s.bay 0).frd.carried = false ∧ SlotFate.bayDisabled ≠ .counts := by decide +kernel

/-- The state of a bay that a plain reply finds. -/
def plain : State := flying .poll (occupied1 id)

theorem witness_APlainReplyUpdatesTheBay : plain.live.walk.slot = some ⟨.exchange 0 .poll, 4, .counts⟩ ∧
    (plain.bay 0).btb.occupancy = .occupied ∧ (plain.bay 0).blm.link = .online ∧ boundEntry plain.live 0 = none ∧
    plain.live.fal.overcommit = false ∧ (plain.bay 0).lsw.sweep ≠ .running ∧ (plain.bay 0).frd.carried = false ∧
    (plain.bay 0).php.state = .none ∧
    parseReply 0 (replyBytes 0 0x10 0x01 []) = some ⟨⟨true, false, false, false, false, false⟩, .stat⟩ ∧
    parseReply 0 (replyBytes 0 0x20 0x01 []) = some ⟨⟨true, false, false, false, false, false⟩, .office ⟨0x20, []⟩⟩ ∧
    (routeEntry plain.dev.env 0x20).upPass = true ∧ plain.live.tsw.tuQueue.length < 6 ∧
    parseReply 0 (replyBytes 0 0x12 0x01 [2, 0, 0, 0]) = some ⟨⟨true, false, false, false, false, false⟩, .smp 2 0 0⟩ ∧
    2 ≤ (2 : Byte).toNat % 4 ∧
    parseReply 0 (replyBytes 0 0x12 0x01 [0x14, 0, 0x0F, 0xFE]) =
      some ⟨⟨true, false, false, false, false, false⟩, .smp 0x14 0 4094⟩ := by decide +kernel

/-- A first reply of bay 1 with its plug IN, to a POLL and, from a SILENT link, to an office frame. -/
theorem witness_APlugSeenInBeginsIdentification :
    let s := flying .poll idle
    let o := flying (.office ⟨0x20, []⟩) (bay1 fun r =>
      { r with blm := { r.blm with link := .silent, queue := [⟨0x20, []⟩], headSent := true } })
    let p : Pstat := ⟨true, false, false, false, false, false⟩
    s.live.walk.slot = some ⟨.exchange 0 .poll, 4, .counts⟩ ∧ SentFrame.poll ≠ .job .ident ∧
      (s.bay 0).btb.occupancy = .unknown ∧ (s.bay 0).blm.job = none ∧ (s.bay 0).blm.claimLsw = none ∧
      (s.bay 0).blm.claimFrd = none ∧ boundEntry s.live 0 = none ∧ (s.bay 0).fal.heat.state ≠ .admitted ∧
      (s.bay 0).lsw.sweep ≠ .running ∧ (s.bay 0).frd.status = .none ∧ (s.bay 0).frd.carried = false ∧
      (s.bay 0).php.state = .none ∧ s.live.mgu.queue = [] ∧ heldElsewhere s.live 0 7 = false ∧
      o.live.walk.slot = some ⟨.exchange 0 (.office ⟨0x20, []⟩), 4, .counts⟩ ∧ (o.bay 0).blm.link = .silent ∧
      parseReply 0 (replyBytes 0 0x10 0x01 []) = some ⟨p, .stat⟩ ∧
      parseReply 0 (replyBytes 0 0x20 0x01 []) = some ⟨p, .office ⟨0x20, []⟩⟩ ∧
      parseReply 0 (replyBytes 0 0x12 0x01 [0x02, 0, 0, 0]) = some ⟨p, .smp 0x02 0 0⟩ ∧
      parseReply 0 (replyBytes 0 0x12 0x01 [0x04, 0, 0, 0]) = some ⟨p, .smp 0x04 0 0⟩ ∧
      parseReply 0 (replyBytes 0 0x12 0x01 [0x14, 0, 0x0F, 0xFF]) = some ⟨p, .smp 0x14 0 4095⟩ ∧
      parseReply 0 (replyBytes 0 0x12 0x01 [0x10, 0, 0, 254]) = some ⟨p, .smp 0x10 0 254⟩ ∧
      parseReply 0 (replyBytes 0 0x11 0x01 [0, 0, 0, 7, 1]) = some ⟨p, .idrp 7 1⟩ := by decide +kernel

theorem witness_APlugSeenInByADuplicate :
    let s := flying .poll (live fun l => (l.modBay 1 fun r => { r with btb := { r.btb with occupancy := .occupied, coach := 7 } }))
    heldElsewhere s.live 0 7 = true ∧ (s.bay 0).btb.occupancy = .unknown ∧ s.live.mgu.queue = [] := by decide +kernel

theorem witness_AnAcceptedIdentityOccupiesTheBay :
    let s := flying (.job .ident) (bay1 fun r => { r with btb := { r.btb with occupancy := .plugged } })
    s.live.walk.slot = some ⟨.exchange 0 (.job .ident), 4, .counts⟩ ∧
      parseReply 0 (replyBytes 0 0x11 0x01 [0, 0, 0, 1, 7]) = some ⟨⟨true, false, false, false, false, false⟩, .idrp 1 7⟩ ∧
      heldElsewhere s.live 0 1 = false ∧ (s.bay 0).btb.occupancy = .plugged ∧ s.live.mgu.queue = [] := by decide +kernel

theorem witness_TeardownLeavesNothingBehind : plain.live.walk.slot = some ⟨.exchange 0 .poll, 4, .counts⟩ ∧
    parseReply 0 (replyBytes 0 0x10 0x00 []) = some ⟨⟨false, false, false, false, false, false⟩, .stat⟩ ∧
    (plain.bay 0).btb.occupancy = .occupied ∧ ((plain.bay 0).php.state = .none ∧ (plain.bay 0).php.gate = false) ∧
    departureLaw plain.live = true ∧ plain.live.mgu.queue = [] ∧ (plain.bay 0).btb.purpose ≠ .depart ∧
    plain.dev.env.params.holdTime ≠ 0 := by decide +kernel

theorem witness_LinkSilenceIsReportedAndJudged : addressed idle = true ∧ (idle.bay 0).blm.link ≠ .silent ∧
    (idle.bay 0).btb.occupancy ≠ .disabled ∧ (idle.bay 0).lsw.sweep.inProgress = false ∧
    (idle.bay 0).frd.status.inProgress = false ∧
    ((bay1 fun r => { r with blm := { r.blm with link := .silent } }).bay 0).blm.link = .silent := by decide +kernel

/-- `idle` with bay 1 PLUGGED. -/
def plugged1 : State := bay1 fun r => { r with btb := { r.btb with occupancy := .plugged } }

theorem witness_IdentificationGivesUp : (addressed plugged1 = true ∧ (plugged1.bay 0).btb.occupancy = .plugged ∧
    (plugged1.bay 0).btb.identFailed = false ∧ (plugged1.bay 0).btb.dupCoach = false ∧ (plugged1.bay 0).blm.claimLsw = none ∧
    (plugged1.bay 0).blm.claimFrd = none) ∧ ∀ j : JobInSlot, (plugged1.bay 0).blm.job = some j → j.frame = .ident :=
  ⟨by decide +kernel, no_job (by decide +kernel)⟩

/-- A bay that steps the last lamp but one of its grid for the `tries`-th time. -/
def stepping (tries : Nat) : State :=
  let s := occupied1 fun r => { r with lsw := { r.lsw with sweep := .running, pointer := some (8, 11), tries := tries } }
  { s with dev := s.dev.modTables fun t => { t with lamps := t.lamps.set 95 { LampEntry.reset 95 with present := true } } }

theorem witness_TheVisitLimitDrivesAgainOrGivesUp : addressed (stepping 1) = true ∧ ((stepping 1).bay 0).lsw.sweep = .running ∧
    ((stepping 1).bay 0).lsw.pointer = some (8, 11) ∧ ((stepping 1).bay 0).lsw.tries ≤ 1 ∧ 2 ≤ ((stepping 2).bay 0).lsw.tries ∧
    lampAfter (stepping 2).dev.env (stepping 2).live 0 (8, 11) = some (8, 12) ∧ (stepping 2).live.fal.queue = [] ∧
    (stepping 2).live.mgu.queue = [] ∧
    (let s := { stepping 2 with dev := (stepping 2).dev.modTables fun t => { t with lamps := t.lamps.set 95 (.reset 95) } }
     addressed s = true ∧ (s.bay 0).lsw.sweep = .running ∧ (s.bay 0).lsw.pointer = some (8, 11) ∧ 2 ≤ (s.bay 0).lsw.tries ∧
       lampAfter s.dev.env s.live 0 (8, 11) = none ∧ s.live.fal.queue = [] ∧ s.live.mgu.queue = []) := by decide +kernel

/-- A lamp sample with the step tag, and one with another. -/
theorem witness_TheSampleEndsTheStep :
    let s := flying .samplePoll (stepping 1)
    s.live.walk.slot = some ⟨.exchange 0 .samplePoll, 4, .counts⟩ ∧
      parseReply 0 (replyBytes 0 0x12 0x01 [0x15, 0, 0x0F, 0xFF]) =
        some ⟨⟨true, false, false, false, false, false⟩, .smp 0x15 0 4095⟩ ∧
      (s.bay 0).btb.occupancy = .occupied ∧ (s.bay 0).blm.link = .online ∧ boundEntry s.live 0 = none ∧
      s.live.fal.overcommit = false ∧ (s.bay 0).frd.carried = false ∧ (s.bay 0).lsw.sweep = .running ∧
      (s.bay 0).lsw.pointer = some (8, 11) ∧ (0 : Byte).toNat % 16 = (s.bay 0).lsw.stepTag ∧
      lampAfter s.dev.env s.live 0 (8, 11) = some (8, 12) ∧ (1 : Byte).toNat % 16 ≠ (s.bay 0).lsw.stepTag ∧
      (s.bay 0).lsw.driveSent = false := by decide +kernel

/-- `occupied1` with a read status. -/
def reading1 (status : ReadStatus) : State := occupied1 fun r => { r with frd := { r.frd with status := status } }

theorem witness_ReadsAndClearsAbortWithTheirCause : addressed (reading1 .reading) = true ∧
    ((reading1 .reading).bay 0).frd.gate = false ∧ ((reading1 .reading).bay 0).frd.status = .reading ∧
    ((reading1 .clearing).bay 0).frd.status = .clearing ∧ ((reading1 .none).bay 0).frd.status ≠ .reading ∧
    ((reading1 .none).bay 0).frd.status ≠ .clearing := by decide +kernel

/-- Bay 1 with FRD's frame in flight, in a status, with counts. -/
def carrying (status : ReadStatus) (f : JobFrame) (attempts busy : Nat) : State :=
  flying (.job f) (occupied1 fun r =>
    { r with
      blm := { r.blm with job := some ⟨f, true⟩ }
      frd := { r.frd with status := status, current := some f, carried := true, attempts := attempts, busy := busy } })

theorem witness_FramesOfFrdAreSettled :
    let s := carrying .reading (.crd 32 16) 1 19
    let p : Pstat := ⟨true, false, false, false, false, false⟩
    s.live.walk.slot = some ⟨.exchange 0 (.job (.crd 32 16)), 4, .counts⟩ ∧ (s.bay 0).btb.occupancy = .occupied ∧
      (s.bay 0).frd.gate = false ∧ (s.bay 0).frd.current = some (.crd 32 16) ∧ (s.bay 0).frd.carried = true ∧
      (s.bay 0).blm.job = some ⟨.crd 32 16, true⟩ ∧ (s.bay 0).blm.claimLsw = none ∧ (s.bay 0).blm.claimFrd = none ∧
      (s.bay 0).blm.link = .online ∧ boundEntry s.live 0 = none ∧ s.live.fal.overcommit = false ∧
      (s.bay 0).lsw.sweep ≠ .running ∧ (s.bay 0).frd.busy < 20 ∧ (s.bay 0).frd.attempts < 2 ∧
      20 ≤ ((carrying .reading (.crd 32 16) 2 20).bay 0).frd.busy ∧ 2 ≤ ((carrying .reading (.crd 32 16) 2 20).bay 0).frd.attempts ∧
      bumpTo 15 (s.bay 0).blm.missCount < s.dev.env.params.missLimit ∧
      ((carrying .clearing .cclr 0 0).bay 0).frd.status = .clearing ∧
      ((carrying .clearing .cqry 0 0).bay 0).frd.current = some .cqry ∧
      parseReply 0 (replyBytes 0 0x14 0x01 []) = some ⟨p, .cbusy⟩ ∧ parseReply 0 (replyBytes 0 0x15 0x01 []) = some ⟨p, .cnak⟩ ∧
      parseReply 0 (replyBytes 0 0x16 0x01 []) = some ⟨p, .cdone⟩ ∧ parseReply 0 (replyBytes 0 0x10 0x01 []) = some ⟨p, .stat⟩ := by
  decide +kernel

/-- R91: bay 1 runs a sweep and bay 2 waits for its power; both lose profile 0, and both sweeps end ABORTED. -/
def sharing : State :=
  let s := occupied1 fun r =>
    { r with lsw := { r.lsw with sweep := .running }, fal := { r.fal with base := ⟨.admitted, 0, 0⟩, lamp := ⟨.admitted, 5, 1⟩ } }
  let l := s.dev.live.modBay 1 fun r =>
    { r with
      btb := { r.btb with occupancy := .occupied, coach := 78 }
      lsw := { r.lsw with sweep := .waitPower, gate := true }
      fal := { r.fal with base := ⟨.admitted, 0, 2⟩, lamp := ⟨.queued, 5, 3⟩ } }
  { s with dev := { env := { s.dev.env with params := { s.dev.env.params with feederLimit := 5 } },
                    live := { l with fal := { l.fal with queue := [(1, .lamp)] } } } }

theorem test_lost_profile_aborts_each_sweep :
    ((after (.load 1 [3, 0, 0, 1, 0, 0, 20, 0, 10, 0x22, 0, 100, 2, 0, 0, 200, 5]) sharing).live.bays.toList.take 2).map
        (fun r => (r.lsw.sweep, r.lsw.gate, r.btb.profileMissing, r.fal.lamp.state)) =
      [(.aborted, false, true, .none), (.aborted, false, true, .none)] := by decide +kernel

/-- R29: the reply to a sample POLL governs the exchange after next, whatever the reply between them. -/
theorem test_sample_poll_after_next :
    let m := (BlmPart.reset.recordEnd (.reply true true)).recordEnd
    (BlmPart.reset.recordEnd (.reply true true)).samplePollDue = false ∧ (m (.reply false false)).samplePollDue = true ∧
      ((m (.reply false false)).recordEnd .miss).samplePollDue = false := by decide

theorem witness_CabinAndTimeBecomeStale :
    let s := bay1 fun r => { r with scv := { r.scv with age := 9 } }
    addressed s = true ∧ (s.bay 0).scv.age < 10 ∧ (s.bay 0).php.state = .none ∧ 10 ≤ (idle.bay 0).scv.age ∧
      s.dev.env.clock.minutesNoTime < 15 ∧
      15 ≤ (after .timeStale s).dev.env.clock.minutesNoTime := by decide +kernel

theorem witness_ExpiredSlotsLeaveTheCache : addressed idle = true := by decide

theorem witness_SecondTicksCountTheClockAndTheClearTimer :
    let s := bay1 fun r => { r with frd := { r.frd with status := .clearing, clearTimer := 2 } }
    addressed s = true ∧ s.dev.env.clock.second < 59 ∧ (∀ c : Bay, c ≠ 0 → (s.bay c).frd.status ≠ .clearing) ∧
      ((s.bay 0).frd.status = .clearing ∧ 1 < (s.bay 0).frd.clearTimer) := by decide +kernel

theorem witness_MinutesAdvanceTheClockAndTheCabinAges : addressed idle = true ∧ idle.live.cache = [] ∧
    idle.live.departures = [] ∧ (∀ b : Bay, (idle.bay b).php.state = .none ∧ (idle.bay b).scv.age ≠ 9) ∧
    idle.dev.env.clock.minutesNoTime < 14 ∧ idle.live.mgu.queue = [] := by decide +kernel

/-- An entry of bay 1 that expires at the next minute event, and a CLEARED one that is released by it. -/
theorem witness_EntriesExpireAndAreReleased :
    let old : DepEntry := { entry7 with bay := some 0, minute := 10020, state := .released }
    let due : DepEntry := { entry7 with bay := some 0, minute := 11, state := .cleared }
    let s := listing [due] (occupied1 id)
    addressed s = true ∧ s.live.departures = [due] ∧ s.live.mgu.queue = [] ∧ (listing [old] s).live.departures = [old] ∧
      distance old.minute 1 < -60 ∧ (1 = if s.dev.env.clock.minute < 10079 then s.dev.env.clock.minute + 1 else 0) ∧
      due.bay = some 0 ∧ due.held = false ∧ due.mismatch = false ∧ -60 ≤ distance due.minute 1 ∧
      distance due.minute 1 ≤ s.dev.env.params.releaseLead ∧ distance due.minute 1 ≤ s.dev.env.params.clearWindow ∧
      gatesPass due (s.bay 0).dpc = true ∧ (s.bay 0).blm.link = .online ∧ (∀ c : Bay, (s.bay c).php.state = .none) := by
  decide +kernel

theorem witness_RequestsWaitOrAreAnsweredLoading : addressed (waiting 3) = true ∧ (waiting 3).live.mgu.mrsp.isSome = true ∧
    (waiting 3).live.mgu.queue.length < 4 ∧ 4 ≤ (waiting 4).live.mgu.queue.length ∧ addressed State.reset = true ∧
    State.reset.live.mgu.queue = [] ∧ State.reset.live.mgu.mrsp = none ∧ State.reset.live.mgu.loader.running = true ∧
    MgmtOp.rowReset.isRead = false ∧ parseOperation MgmtOp.rowReset.code MgmtOp.rowReset.params = some .rowReset := by
  decide +kernel

theorem witness_UnreadableRequestsAreAnsweredFormat : addressed idle = true ∧ idle.live.mgu.queue = [] ∧
    idle.live.mgu.mrsp = none ∧ parseOperation 0x10 [] = none ∧ parseOperation 0x77 [] = none := by decide +kernel

theorem witness_BayNumbersOutOfRangeAreRefused : ready idle = true ∧ 16 < (17 : Byte).toNat := by decide +kernel

theorem witness_IdentBeginsIdentificationAfresh : (ready plugged1 = true ∧ (1 : Byte).toNat = bayNumber 0 ∧
    (plugged1.bay 0).btb.occupancy = .plugged ∧ ready idle = true ∧ (16 : Byte).toNat = bayNumber 15 ∧
    (idle.bay 15).btb.occupancy ≠ .plugged ∧ 16 < (17 : Byte).toNat) ∧
    ∀ j : JobInSlot, (plugged1.bay 0).blm.job = some j → j.frame = .ident :=
  ⟨by decide +kernel, no_job (by decide +kernel)⟩

/-- `idle` with bay 1 DISABLED. -/
def disabled1 : State := bay1 fun r => { r with btb := { r.btb with occupancy := .disabled } }

theorem witness_BaysAreDisabledAndEnabled : (ready idle = true ∧ (16 : Byte).toNat = bayNumber 15 ∧
    (idle.bay 15).btb.occupancy = .unknown ∧ boundEntry idle.live 15 = none ∧ ready plugged1 = true ∧
    (plugged1.bay 0).btb.occupancy = .plugged ∧ ready (listing [{ entry7 with bay := some 0 }] idle) = true ∧
    (boundEntry (listing [{ entry7 with bay := some 0 }] idle).live 0).isSome = true ∧ ready disabled1 = true ∧
    (disabled1.bay 0).btb.occupancy = .disabled ∧ (1 : Byte).toNat = bayNumber 0) ∧
    ∀ (sent : SentFrame) (timeout : Nat), idle.live.walk.slot ≠ some ⟨.exchange 15 sent, timeout, .counts⟩ :=
  ⟨by decide +kernel, no_slot rfl _⟩

/-- An entry bound to bay 1 in a state. -/
def bound1 (state : EntryState) : DepEntry := { entry7 with bay := some 0, state := state }

theorem witness_LatchOperationsWritePurposeAndLatch : (ready (occupied1 id) = true ∧ (1 : Byte).toNat = bayNumber 0 ∧
    ((occupied1 id).bay 0).btb.occupancy = .occupied ∧ ready disabled1 = true ∧
    (disabled1.bay 0).btb.occupancy = .disabled ∧ ready (listing [bound1 .released] (occupied1 id)) = true ∧
    boundEntry (listing [bound1 .released] (occupied1 id)).live 0 = some (bound1 .released) ∧ 16 < (17 : Byte).toNat) ∧
    ∀ x, boundEntry (occupied1 id).live 0 = some x → x.state ≠ .cleared ∧ x.state ≠ .released :=
  ⟨by decide +kernel, no_entry (by decide +kernel)⟩

theorem witness_LatchLaw :
    let s := listing [bound1 .released] (occupied1 fun r =>
      { r with btb := { r.btb with purpose := .depart }, blm := { r.blm with desired := { r.blm.desired with latch := true } } })
    departureLaw s.live = true ∧ bindingLaw s.live = true ∧ (∀ b : Bay, latchLaw s.live b = true) := by decide +kernel

theorem witness_LampCheckAsksForPower :
    let s := occupied1 id
    ready s = true ∧ (1 : Byte).toNat = bayNumber 0 ∧ (s.bay 0).btb.occupancy = .occupied ∧
      (s.bay 0).btb.profileMissing = false ∧ entryCleared s.live 0 = false ∧
      (9 : Byte).toNat > (profileOf s.dev.env s.live 0).groups ∧ (8 : Byte).toNat ≤ (profileOf s.dev.env s.live 0).groups ∧
      (12 : Byte).toNat ≤ (profileOf s.dev.env s.live 0).positions ∧ (s.bay 0).lsw.sweep.inProgress = false ∧
      (s.bay 0).fal.base.state ≠ .admitted ∧ (s.bay 0).fal.lamp.state = .none ∧
      (idle.bay 0).btb.occupancy ≠ .occupied ∧ ready idle = true := by decide +kernel

/-- Bay 1 OCCUPIED with one lamp present, a sweep in a state, and its base share ADMITTED. -/
def swept (state : SweepState) : State :=
  let s := occupied1 fun r => { r with lsw := { r.lsw with sweep := state }, fal := { r.fal with base := ⟨.admitted, 0, 0⟩ } }
  let d := s.dev.modTables fun t => { t with lamps := t.lamps.set 0 { LampEntry.reset 0 with present := true } }
  { s with dev := d.modParams fun p => { p with feederLimit := 5 } }

theorem witness_LampCheckRunsAtOnceAndRestarts :
    let s := swept .idle
    ready s = true ∧ (s.bay 0).btb.occupancy = .occupied ∧ (s.bay 0).btb.profileMissing = false ∧
      entryCleared s.live 0 = false ∧ (s.bay 0).lsw.sweep.inProgress = false ∧ (s.bay 0).fal.base.state = .admitted ∧
      (s.bay 0).fal.lamp.state = .none ∧ s.live.fal.queue = [] ∧ s.live.fal.overcommit = false ∧
      committed s.live + (profileOf s.dev.env s.live 0).lampLoad ≤ s.dev.env.params.feederLimit ∧
      (profileOf s.dev.env s.live 0).sharedSupply = false ∧
      (walkOrder ⟨1, 8, 1, 12⟩ ⟨false, false, false⟩).find? (steppable s.dev.env s.live 0) = some (1, 1) ∧
      ((swept .waitPower).bay 0).lsw.sweep = .waitPower ∧ ((swept .running).bay 0).lsw.sweep = .running ∧
      walkOrder ⟨1, 1, 1, 3⟩ ⟨false, false, true⟩ = [(1, 3)] ++ (1, 2) :: [(1, 1)] := by decide +kernel

theorem witness_LampStopAbortsTheSweep :
    let s := occupied1 fun r => { r with lsw := { r.lsw with sweep := .waitPower, gate := true }, fal := { r.fal with lamp := ⟨.held, 5, 0⟩ } }
    ready s = true ∧ (1 : Byte).toNat = bayNumber 0 ∧ (s.bay 0).btb.occupancy = .occupied ∧ (s.bay 0).lsw.sweep = .waitPower ∧
      (s.bay 0).fal.lamp.state = .held ∧ (s.bay 0).lsw.pauseMarker = false ∧
      (s.bay 0).lsw.gate = lampGateNow s.dev.env s.live 0 ∧ (idle.bay 0).btb.occupancy ≠ .occupied ∧
      ((occupied1 id).bay 0).lsw.sweep.inProgress = false ∧ ready idle = true := by decide +kernel

theorem witness_LampStopReleasesTheShare :
    let t := occupied1 fun r =>
      { r with lsw := { r.lsw with sweep := .running, gate := true }, fal := { r.fal with base := ⟨.admitted, 9, 0⟩, lamp := ⟨.admitted, 5, 0⟩ } }
    let s : State := { t with dev := { t.dev with live := { t.dev.live with fal := { t.dev.live.fal with overcommit := true } } } }
    ready s = true ∧ (s.bay 0).btb.occupancy = .occupied ∧ (s.bay 0).lsw.sweep = .running ∧
      (s.bay 0).fal.lamp.state = .admitted ∧ s.live.fal.overcommit = true ∧
      s.dev.env.params.feederLimit + (s.bay 0).fal.lamp.amount < committed s.live ∧ (s.bay 0).lsw.pauseMarker = false ∧
      (s.bay 0).lsw.gate = lampGateNow s.dev.env s.live 0 := by decide +kernel

theorem witness_FaultReadStartsFromAnEmptyList :
    let s := reading1 .complete
    ready s = true ∧ (1 : Byte).toNat = bayNumber 0 ∧ (s.bay 0).btb.occupancy = .occupied ∧
      (s.bay 0).btb.profileMissing = false ∧ (s.bay 0).frd.status ≠ .reading ∧ (s.bay 0).frd.status ≠ .clearing ∧
      (s.bay 0).blm.job = none ∧ (s.bay 0).blm.claimFrd = none ∧ (s.bay 0).frd.gate = false ∧
      ready (reading1 .reading) = true ∧ ((reading1 .reading).bay 0).frd.status = .reading := by decide +kernel

theorem witness_TheFirstChunkIsParsed :
    let s := flying (.job (.crd 0 32)) (occupied1 fun r =>
      { r with
        blm := { r.blm with job := some ⟨.crd 0 32, true⟩ }
        frd := { r.frd with status := .reading, current := some (.crd 0 32), carried := true } })
    s.live.walk.slot = some ⟨.exchange 0 (.job (.crd 0 32)), 4, .counts⟩ ∧
      parseReply 0 (replyBytes 0 0x13 0x01 [0, 0, 0x00]) = some ⟨⟨true, false, false, false, false, false⟩, .cdata 0 [0x00]⟩ ∧
      parseReply 0 (replyBytes 0 0x13 0x01 [0, 0, 0x5A]) = some ⟨⟨true, false, false, false, false, false⟩, .cdata 0 [0x5A]⟩ ∧
      parseReply 0 (replyBytes 0 0x13 0x01 [0, 0, 0x5B]) = some ⟨⟨true, false, false, false, false, false⟩, .cdata 0 [0x5B]⟩ ∧
      parseReply 0 (replyBytes 0 0x13 0x01 [0, 0, 0x5A, 0, 1, 3, 0, 2, 1, 1, 0]) =
        some ⟨⟨true, false, false, false, false, false⟩, .cdata 0 [0x5A, 0, 1, 3, 0, 2, 1, 1, 0]⟩ ∧
      (s.bay 0).btb.occupancy = .occupied ∧ (s.bay 0).frd.status = .reading ∧ (s.bay 0).frd.current = some (.crd 0 32) ∧
      (s.bay 0).frd.list = [] ∧ (s.bay 0).frd.imageRecords = 0 ∧ (s.bay 0).frd.parsed = 0 ∧ (s.bay 0).frd.imageEnd = none ∧
      s.live.mgu.queue = [] ∧ 1 ≤ s.live.pool.free ∧ effectiveAction s.dev.env ⟨3, 2, 1, true, []⟩ ≠ .ignore := by decide +kernel

/-- Bay 1 with a fault list, a pool of free cells, and a filter entry 0 that ignores source 9. -/
def listed (list : List FaultRecord) (free : Nat) : Dev :=
  ((bay1 fun r => { r with frd := { r.frd with list := list } }).dev.modTables fun t =>
    { t with filter := t.filter.set 0 ⟨true, 9, 0, 65535, .ignore, false⟩ }).act fun _ l => { l with pool := { l.pool with free := free } }

theorem witness_AlertsStartAReadAndCellsAreEvicted :
    let s := flying .poll (reading1 .complete)
    let x : ParkedSlot := ⟨9, 0, untestedMap, [⟨1, 2, 3, true, true, []⟩, ⟨1, 3, 3, true, true, []⟩], 0, .complete, .none, 2, 0⟩
    let d := listed [⟨1, 2, 200, false, false, []⟩] 0
    let r : ReadRecord := ⟨1, 9, 3, true, [7]⟩
    parseReply 0 (replyBytes 0 0x10 0x11 []) = some ⟨⟨true, false, false, false, true, false⟩, .stat⟩ ∧
      (s.bay 0).frd.alertSeen = false ∧ (s.bay 0).btb.profileMissing = false ∧ (s.bay 0).frd.gate = false ∧
      (s.bay 0).frd.status = .complete ∧ (s.bay 0).blm.job = none ∧ effectiveAction d.env r ≠ .ignore ∧
      heldCells (d.live.bay 0).frd.list + 2 ≤ 64 ∧ d.live.pool.free < 2 ∧ 2 ≤ d.live.pool.free + heldCells x.list ∧
      d.live.pool.free + cacheCells d.live < 1 ∧ 1 + (([] : List Byte).length + 7) / 8 < 1 + (r.freeze.length + 7) / 8 ∧
      64 < heldCells (List.replicate 64 (⟨1, 2, 200, false, false, []⟩ : FaultRecord)) + 1 ∧
      (listed [⟨1, 9, 1, true, true, []⟩] 0).live.pool.free < 1 ∧ heldCells [⟨1, 9, 1, true, true, []⟩] + 1 ≤ 64 ∧
      1 ≤ (listed [⟨1, 9, 1, true, true, []⟩] 0).live.pool.free + heldCells x.list := by decide +kernel

theorem witness_RecordsAreIgnoredStoredLostOrMerged :
    let x : ReadRecord := ⟨1, 2, 3, true, [7]⟩
    let old : FaultRecord := ⟨1, 2, 200, false, false, [7]⟩
    let d := listed [] 2
    effectiveAction d.env ⟨9, 0, 1, true, []⟩ = .ignore ∧ effectiveAction d.env x ≠ .ignore ∧
      heldCells (d.live.bay 0).frd.list + 2 ≤ 64 ∧ 2 ≤ d.live.pool.free ∧ (listed [] 1).live.pool.free < 2 ∧
      (listed [] 1).live.cache = [] ∧
      64 < heldCells ((listed [⟨8, 8, 1, true, true, List.replicate 500 0⟩] 2).live.bay 0).frd.list + 2 ∧
      ((listed [old] 0).live.bay 0).frd.list = [] ++ old :: [] ∧ 1 + (x.freeze.length + 7) / 8 ≤ 1 + (old.freeze.length + 7) / 8 ∧
      (d.env.tables.filter.toList.head?.map fun y => y.matchesRecord ⟨9, 0, 1, true, []⟩) = some true ∧
      (d.env.tables.filter.toList.all fun y => !y.matchesRecord x) = true := by decide +kernel

theorem witness_FaultClearKeepsAndFlushEmptiesTheList :
    let s := reading1 .aborted
    ready s = true ∧ (1 : Byte).toNat = bayNumber 0 ∧ (s.bay 0).btb.occupancy = .occupied ∧
      (s.bay 0).btb.profileMissing = false ∧ (s.bay 0).frd.status ≠ .reading ∧ (s.bay 0).frd.status ≠ .clearing ∧
      (s.bay 0).blm.job = none ∧ (s.bay 0).frd.gate = false ∧ ready (reading1 .clearing) = true ∧
      ((reading1 .clearing).bay 0).frd.status = .clearing := by decide +kernel

/-- A list of 32 entries. -/
def fullList : List DepEntry := (List.range 32).map fun i => { entry7 with id := i + 1 }

theorem witness_DepAddChecksAndInserts : ready idle = true ∧ 10079 < (10080 : Half).toNat ∧
    distance (10019 : Half).toNat idle.dev.env.clock.minute = -61 ∧ distance (10020 : Half).toNat idle.dev.env.clock.minute = -60 ∧
    distance (1440 : Half).toNat idle.dev.env.clock.minute = 1440 ∧ distance (1441 : Half).toNat idle.dev.env.clock.minute = 1441 ∧
    ready (listing [entry7] idle) = true ∧ (∃ x ∈ (listing [entry7] idle).live.departures, x.id = (7 : Half).toNat) ∧
    (∀ x ∈ (listing [entry7] idle).live.departures, x.id ≠ (8 : Half).toNat) ∧ ready (listing fullList idle) = true ∧
    (∀ x ∈ (listing fullList idle).live.departures, x.id ≠ (33 : Half).toNat) ∧
    32 ≤ (listing fullList idle).live.departures.length ∧
    (listing (fullList.take 31) idle).live.departures.length < 32 ∧ ready disabled1 = true ∧
    (disabled1.bay 0).btb.occupancy = .disabled ∧ ready (listing [bound1 .waiting] idle) = true ∧
    (idle.bay 0).btb.occupancy ≠ .disabled ∧ (∃ x ∈ (listing [bound1 .waiting] idle).live.departures, x.bay = some 0) := by
  decide +kernel

theorem witness_DepAddBinds : ready (occupied1 id) = true ∧ (1 : Byte).toNat = bayNumber 0 ∧
    ((occupied1 id).bay 0).btb.occupancy = .occupied ∧ ((occupied1 id).bay 0).btb.coach = (77 : Quad).toNat ∧
    (78 : Quad).toNat ≠ ((occupied1 id).bay 0).btb.coach ∧ (∀ x ∈ (occupied1 id).live.departures, x.bay ≠ some 0) ∧
    (idle.bay 15).btb.occupancy ≠ .occupied ∧ (idle.bay 15).btb.occupancy ≠ .disabled ∧ (16 : Byte).toNat = bayNumber 15 := by
  decide +kernel

theorem witness_EntriesAreInsertedByDistance :
    ascending idle.dev.env [{ entry7 with minute := 10079 }, entry7, { entry7 with minute := 101 }] = true ∧
    (idle.live.bay 0).fal.key = none ∧ (∀ k ∈ [ShareKind.base, .lamp, .heat], (shareOf idle.live 0 k).state ≠ .queued) ∧
    (let l := (bay1 fun r => { r with fal := { r.fal with base := ⟨.queued, 5, 0⟩ } }).live
     (l.bay 0).fal.key ≠ some 3 ∧ (shareOf l 0 .base).state = .queued ∧
       ({ l with fal := { l.fal with queue := [(0, .base)], overcommit := true } } : Live).fal.overcommit = true) := by decide +kernel

theorem witness_DepChangeWritesTheNamedValues : ready (listing [entry7] idle) = true ∧
    (∀ x ∈ (listing [entry7] idle).live.departures, x.id ≠ (8 : Half).toNat) ∧
    minuteOutOfRange idle.dev.env (10080 : Half).toNat = true ∧ minuteOutOfRange idle.dev.env (1440 : Half).toNat = false ∧
    (6 : Byte).getLsbD 0 = false ∧ (6 : Byte).getLsbD 1 = true ∧ (6 : Byte).getLsbD 2 = true ∧ (6 : Byte).getLsbD 3 = false ∧
    entryById (listing [entry7] idle).live (7 : Half).toNat = some entry7 ∧ entry7.bay = none ∧ entry7.state ≠ .released ∧
    ready (listing [bound1 .released] (occupied1 id)) = true ∧
    entryById (listing [bound1 .released] (occupied1 id)).live (7 : Half).toNat = some (bound1 .released) ∧
    (16 : Byte).toNat ≤ 16 ∧ (9 : Byte).getLsbD 0 = true ∧ (9 : Byte).getLsbD 3 = true ∧ (disabled1.bay 0).btb.occupancy = .disabled ∧
    ready (listing [entry7] disabled1) = true ∧ (1 : Byte).toNat = bayNumber 0 ∧
    (∃ y ∈ (listing [entry7, { bound1 .waiting with id := 9 }] idle).live.departures, y.bay = some 0 ∧ y.id ≠ (7 : Half).toNat) := by
  decide +kernel

/-- Bay 1 OCCUPIED without plan and requests: an unbound entry, one that expects another coach, and one bound. -/
theorem witness_DepChangeMovesAndJudges :
    let s := listing [{ bound1 .preparing with target := none }] (occupied1 id)
    ready s = true ∧ entryById s.live (7 : Half).toNat = some { bound1 .preparing with target := none } ∧
      (∀ y ∈ s.live.departures, y.bay = some 0 → y.id = (7 : Half).toNat) ∧ (s.bay 0).php.state = .none ∧
      (∀ k ∈ [ShareKind.base, .lamp, .heat], (shareOf s.live 0 k).state ≠ .queued) ∧ (bound1 .preparing).bay = some 0 ∧
      (idle.bay 15).btb.occupancy ≠ .occupied ∧ (idle.bay 15).btb.occupancy ≠ .disabled ∧
      (8 : Byte).getLsbD 1 = false ∧ (8 : Byte).getLsbD 3 = true ∧ (4 : Byte).getLsbD 2 = true ∧ (1 : Byte).getLsbD 0 = true ∧
      ({ entry7 with coach := some 78 }.coach).isSome = true ∧ some 78 ≠ some (s.bay 0).btb.coach := by decide +kernel

theorem witness_CancelAndReleaseActOnTheEntry : ready (listing [entry7] idle) = true ∧
    (∀ x ∈ (listing [entry7] idle).live.departures, x.id ≠ (8 : Half).toNat) ∧
    entryById (listing [entry7] idle).live (7 : Half).toNat = some entry7 ∧ entry7.bay = none ∧ entry7.state ≠ .cleared ∧
    ready (listing [bound1 .cleared] (occupied1 id)) = true ∧
    entryById (listing [bound1 .cleared] (occupied1 id)).live (7 : Half).toNat = some (bound1 .cleared) ∧
    (bound1 .cleared).bay = some 0 ∧
    (∀ y ∈ (listing [bound1 .cleared] (occupied1 id)).live.departures, y.bay = some 0 → y.id = (7 : Half).toNat) ∧
    ((listing [bound1 .cleared] (occupied1 id)).bay 0).php.state = .none ∧
    (∀ k ∈ [ShareKind.base, .lamp, .heat], (shareOf (listing [bound1 .cleared] (occupied1 id)).live 0 k).state ≠ .queued) := by
  decide +kernel

/-- Bay 1 OCCUPIED and ONLINE with an entry in a state; the entry requires the lamp gate where `gated`, which fails. -/
def judged (state : EntryState) (gated : Bool) : State :=
  listing [{ bound1 state with gates := ⟨gated, false, false⟩, minute := 30 }] (occupied1 id)

theorem witness_JudgementsClearAndRevoke : boundEntry (judged .waiting true).live 0 = (judged .waiting true).live.departures.head? ∧
    ([EntryState.preparing, .cleared, .released].all fun x =>
      (judged x false).live.departures.all (clearable (judged x false).dev.env (judged x false).live 0) &&
        (judged x true).live.departures.all fun y => !clearable (judged x true).dev.env (judged x true).live 0 y) = true := by
  decide +kernel

theorem witness_FeederSetWritesTheLimit : addressed State.reset = true ∧ State.reset.live.mgu.queue = [] ∧
    State.reset.live.mgu.mrsp = none ∧ State.reset.live.mgu.loader.running = true ∧ addressed idle = true ∧
    idle.live.mgu.queue = [] ∧ idle.live.mgu.mrsp = none ∧ idle.live.mgu.loader.running = false ∧ 4000 < (4001 : Half).toNat ∧
    (4000 : Half).toNat ≤ 4000 := by decide +kernel

/-- `idle` with a limit, and bays 1 and 2 with heat shares of 7. -/
def heated (limit : Nat) (link : Link) (overcommit : Bool) : Dev :=
  let f : BayRec → BayRec := fun r =>
    { r with fal := { r.fal with base := ⟨.admitted, 0, 0⟩, heat := ⟨.admitted, 7, 0⟩ }, blm := { r.blm with link := link } }
  ((live fun l => (l.modBay 0 f).modBay 1 f).dev.modParams fun p => { p with feederLimit := limit }).act fun _ l =>
    { l with fal := { l.fal with overcommit := overcommit } }

theorem witness_LimitsAndSheds : committed (heated 14 .online false).live ≤ (heated 14 .online false).env.params.feederLimit ∧
    (heated 13 .online true).env.params.feederLimit < committed (heated 13 .online true).live ∧
    (heated 13 .online true).live.fal.overcommit = true ∧ (heated 14 .online true).live.fal.queue = [] ∧
    (∀ b : Bay, sheddable (heated 13 .silent true).live b = false) ∧
    chooseShed (heated 13 .online false).env (heated 13 .online false).live = some 1 := by decide +kernel

theorem witness_RowResetClearsAndReloadStarts : ready idle = true := by decide

theorem witness_LoadWritesEntriesInOrder : ready idle = true ∧ (3 : Byte).toNat < 4 ∧ (15 : Byte).toNat < 16 ∧
    tableOf 0x07 = none ∧ tableOf 0x02 = some .poll ∧ TableId.poll.size ≤ (0 : Byte).toNat * 256 + (32 : Byte).toNat ∧
    (0 : Byte).toNat * 256 + (30 : Byte).toNat < TableId.poll.size ∧
    (∀ x ∈ [[(0x03 : Byte)], [0x90]], x.length = TableId.poll.entryBytes) ∧ ([] : List Byte).length < TableId.poll.entryBytes ∧
    [[(0x03 : Byte)], [0x90]].length ≤ (2 : Byte).toNat ∧ (0 : Byte).toNat * 256 + (30 : Byte).toNat + 2 ≤ TableId.poll.size ∧
    (writtenInOrder .poll 30 [[0x03], [0x90]] idle.dev).1 = 2 ∧ (writtenInOrder .poll 30 [[0x03], [0x11]] idle.dev).1 = 1 ∧
    2 < (3 : Byte).toNat := by decide +kernel

theorem witness_FieldChecksPassAndFail : 4 ≤ (4 : Byte).toNat ∧ 0 < (0x20 : Byte).toNat / 32 % 4 ∧ 16 < (17 : Byte).toNat % 32 ∧
    (0x90 : Byte).toNat / 32 % 4 = 0 ∧ (0x90 : Byte).toNat % 32 ≤ 16 ∧ 96 < (97 : Byte).toNat ∧ 1 ≤ (1 : Byte).toNat ∧
    16000 < (0x3E : Byte).toNat * 256 + (0x81 : Byte).toNat ∧ (0x3E : Byte).toNat * 256 + (0x80 : Byte).toNat ≤ 16000 ∧
    (∀ b : Bay, (idle.dev.live.bay b).btb.occupancy ≠ .occupied ∧ (idle.dev.live.bay b).php.state = .none) ∧
    (6 : Byte).toNat / 2 % 4 = 3 ∧ (4 : Byte).toNat / 2 % 4 ≠ 3 ∧
    (let h : ProfileHeader := ⟨true, true, 400, 400, 8, 12, 400, 2000, 4000, 60⟩
     h.valid = true ∧ headerInRange h = true ∧ headerInRange { h with margin := 61 } = false ∧ h.lossFactor < 65536) ∧
    paramsInRange .reset = true ∧ paramsInRange { Params.reset with replyTimeout := 16 } = false ∧
    Params.reset.feederLimit = idle.dev.env.params.feederLimit ∧ idle.dev.live.departures = [] := by decide +kernel

theorem witness_ReadsChangeOnlyTheResponse : addressed State.reset = true ∧ State.reset.live.mgu.queue = [] ∧
    State.reset.live.mgu.mrsp = none ∧ readLengthSuits 0x02 [17] = true ∧ readSelectorBytes 0x0B = none ∧
    readLengthSuits 0x0B [] = true ∧ 16 < (17 : Byte).toNat ∧ readLengthSuits 0x06 [1, 0] = true ∧
    (listing [entry7] State.reset).live.departures.length ≤ (1 : Byte).toNat ∧ readLengthSuits 0x01 [7, 0, 0, 1] = true ∧
    tableOf 7 = none ∧ tableOf 6 = some .rowparam ∧ TableId.rowparam.size ≤ (0 : Byte).toNat * 256 + (1 : Byte).toNat ∧
    readLengthSuits 0x04 [0] = true ∧ readLengthSuits 0x05 [16, 0, 1] = true ∧ (16 : Byte).toNat = bayNumber 15 ∧
    (State.reset.bay 15).frd.list.length ≤ (0 : Byte).toNat := by decide +kernel

theorem witness_OperationsReadBackAsWritten : 4 ≤ [1, 0, 0, (1 : Byte)].length ∧ readLengthSuits 0x01 [1, 0, 0, 1] = true ∧
    readLengthSuits 0xFF [1, 2, 3, 4] = true := by decide

theorem witness_PostFramesReadBackForTheirBay : (List.replicate 255 (0 : Byte)).length ≤ 255 ∧ (1 : Bay) ≠ 0 ∧
    32 ≤ (0x20 : Byte).toNat ∧ (0x10 : Byte).toNat < 32 ∧ (0x10 : Byte) ∉ [0x11#8, 0x12#8, 0x13#8, 0x14#8, 0x15#8, 0x16#8] ∧
    48 < (List.replicate 49 (0 : Byte)).length ∧ (List.replicate 46 (0 : Byte)).length ≤ 46 := by decide +kernel

/-- Section 6.13, minute 358: a loss of 6,375 W leaves 9,625 W, so 3,000,000 J take 312 s, which are 6 minutes. -/
theorem witness_LeadsStayWithinFourHours :
    (let h := header613
     let loss := h.lossFactor * ((40 : Int) + 30 - 2 * -16).toNat / 4
     (30 : Int) < 40 ∧ loss < h.heaterPower * 100 - h.heaterPower * 100 / 8 ∧ 9625 + loss = h.heaterPower * 100 ∧
       h.heatCapacity * 500 * ((40 : Int) - 30).toNat ≤ 312 * 9625 ∧
       312 * 9625 < h.heatCapacity * 500 * ((40 : Int) - 30).toNat + 9625 ∧ 312 ≤ 60 * 6 ∧ 60 * 6 < 312 + 60) ∧
    (let h := { header613 with lossFactor := 550 }
     h.heaterPower * 100 - h.heaterPower * 100 / 8 ≤ h.lossFactor * ((40 : Int) + 30 - 2 * -16).toNat / 4) ∧
    (computeLead { header613 with lossFactor := 550 } 40 30 (-16)).unreachable = true ∧
    (computeLead { header613 with margin := 60, heatCapacity := 9999 } 56 (-80) (-80)).capped = true ∧ (20 : Int) ≤ 20 := by
  decide +kernel

theorem witness_AnAdmittedHeatShareHeatsTheBay :
    let s := occupied1 fun r => { r with php := { r.php with state := .waitFeed } }
    let t := occupied1 fun r => { r with php := { r.php with state := .waitFeed, pauseRequested := true } }
    (s.live.bay 0).php.state = .waitFeed ∧ (s.live.bay 0).php.pauseRequested = false ∧ (t.live.bay 0).php.state = .waitFeed ∧
      (t.live.bay 0).php.pauseRequested = true ∧ (1 : Bay) ≠ 0 := by decide +kernel

/-- A state with an occupied bay and an entry bound to it, in which every law holds, and a step from it. -/
def peopled : State :=
  { listing [bound1 .preparing] (occupied1 id) with pending := [.minuteEvent] }

theorem witness_EveryStepKeeps : (ringLaw peopled.dev.env peopled.live && cellLaw peopled.live && faultLaw peopled.live &&
    departureLaw peopled.live && bindingLaw peopled.live && clearanceLaw peopled.live && orderLaw peopled.dev.env peopled.live &&
    coachLaw peopled.live && cacheLaw peopled.live && overcommitLaw peopled.dev.env peopled.live && addressed peopled &&
    feederLaw peopled.dev.env peopled.live && queueLaw peopled.live && servedLaw peopled.dev.env peopled.live &&
    allBays.all fun b => ownerLaw (peopled.bay b)) = true ∧ ∃ t, step peopled = .next t :=
  ⟨by decide +kernel, _, rfl⟩

end Sys2Proof.Tests
end

/-! # What the service blocks leave of a bay's coach

Three relations between a live state and what an operation makes of it, each a preorder, from the weakest to the strongest:
`Served` (whatever LSW, PHP, FAL, FRD and DPC do), `Supplied` (no work of FRD, and no entry bound or unbound) and `Passed` (an
admission pass and its notices, on the bays of a set). An operation is said once, in the strongest relation it satisfies. -/
namespace Sys2Proof.Machine

/-! ## The relations -/

/-- The coach of a bay stands but for the purpose of its release, and its base share stays requested. -/
structure RecServed (r r' : BayRec) : Prop where
  btb : ∃ p, r'.btb = { r.btb with purpose := p }
  base : r.fal.base.state ≠ .none → r'.fal.base.state ≠ .none

/-- FRD's part stands as well. -/
structure RecSupplied (r r' : BayRec) : Prop extends RecServed r r' where
  frd : r'.frd = r.frd

/-- The lamp results and the heat gate stand, no sweep starts, and a plan neither begins nor ends. -/
structure RecPassed (r r' : BayRec) : Prop extends RecSupplied r r' where
  map : r'.lsw.map = r.lsw.map
  sweep : r.lsw.sweep.inProgress = false → r'.lsw.sweep.inProgress = false
  plan : r'.php.state = .none ↔ r.php.state = .none
  gate : r'.php.gate = r.php.gate

/-- Which entry is bound to which bay, in list order. -/
def bindings (l : Live) : List (Nat × Option Bay) := l.departures.map fun x => (x.id, x.bay)

/-- Cache, pool, walk, MGU and the bindings of the list stand. -/
structure RowStands (l l' : Live) : Prop where
  mgu : l'.mgu = l.mgu
  walk : l'.walk = l.walk
  cache : l'.cache = l.cache
  pool : l'.pool = l.pool
  bindings : bindings l' = bindings l

/-- The coaches of the bays stand, and no slot joins the cache. -/
structure Served (l l' : Live) : Prop where
  bays : ∀ b, RecServed (l.bay b) (l'.bay b)
  mgu : l'.mgu = l.mgu
  walk : l'.walk = l.walk
  cache : l'.cache.Sublist l.cache

/-- The coaches and the fault lists of the bays stand, and the row beside them. -/
structure Supplied (l l' : Live) : Prop where
  bays : ∀ b, RecSupplied (l.bay b) (l'.bay b)
  row : RowStands l l'

/-- Every request of a list is one of a bay of the set. -/
def BaysIn (S : Set Bay) (xs : List (Bay × ShareKind)) : Prop := ∀ x ∈ xs, x.1 ∈ S

/-- Every request that waits is one of a bay of the set. -/
def QueueIn (S : Set Bay) (l : Live) : Prop := BaysIn S l.fal.queue

/-- Admissions and their notices on bays of a set: the other bays stand, and no request of theirs joins the queue. -/
structure Passed (S : Set Bay) (l l' : Live) : Prop where
  bays : ∀ b, RecPassed (l.bay b) (l'.bay b)
  row : RowStands l l'
  others : ∀ c, c ∉ S → l'.bay c = l.bay c
  queue : QueueIn S l → QueueIn S l'

variable {S : Set Bay} {e : Env} {b : Bay} {l l' l'' : Live} {r r' r'' : BayRec}

theorem RecServed.refl (r : BayRec) : RecServed r r := ⟨⟨_, rfl⟩, id⟩

theorem RecServed.trans (h : RecServed r r') (h' : RecServed r' r'') : RecServed r r'' := by
  obtain ⟨p, hp⟩ := h.btb
  obtain ⟨q, hq⟩ := h'.btb
  exact ⟨⟨q, by rw [hq, hp]⟩, h'.base ∘ h.base⟩

theorem RecSupplied.refl (r : BayRec) : RecSupplied r r := ⟨.refl r, rfl⟩

theorem RecSupplied.trans (h : RecSupplied r r') (h' : RecSupplied r' r'') : RecSupplied r r'' :=
  ⟨h.toRecServed.trans h'.toRecServed, h'.frd.trans h.frd⟩

theorem RecPassed.refl (r : BayRec) : RecPassed r r := ⟨.refl r, rfl, id, Iff.rfl, rfl⟩

theorem RecPassed.trans (h : RecPassed r r') (h' : RecPassed r' r'') : RecPassed r r'' :=
  ⟨h.toRecSupplied.trans h'.toRecSupplied, h'.map.trans h.map, h'.sweep ∘ h.sweep, h'.plan.trans h.plan, h'.gate.trans h.gate⟩

theorem RowStands.refl (l : Live) : RowStands l l := ⟨rfl, rfl, rfl, rfl, rfl⟩

theorem RowStands.trans (h : RowStands l l') (h' : RowStands l' l'') : RowStands l l'' :=
  ⟨h'.mgu.trans h.mgu, h'.walk.trans h.walk, h'.cache.trans h.cache, h'.pool.trans h.pool, h'.bindings.trans h.bindings⟩

theorem Served.refl (l : Live) : Served l l := ⟨fun _ => .refl _, rfl, rfl, .refl _⟩

theorem Served.trans (h : Served l l') (h' : Served l' l'') : Served l l'' :=
  ⟨fun b => (h.bays b).trans (h'.bays b), h'.mgu.trans h.mgu, h'.walk.trans h.walk, h'.cache.trans h.cache⟩

theorem Supplied.refl (l : Live) : Supplied l l := ⟨fun _ => .refl _, .refl l⟩

theorem Supplied.trans (h : Supplied l l') (h' : Supplied l' l'') : Supplied l l'' :=
  ⟨fun b => (h.bays b).trans (h'.bays b), h.row.trans h'.row⟩

theorem Passed.refl (l : Live) : Passed S l l := ⟨fun _ => .refl _, .refl l, fun _ _ => rfl, id⟩

theorem Passed.trans (h : Passed S l l') (h' : Passed S l' l'') : Passed S l l'' :=
  ⟨fun b => (h.bays b).trans (h'.bays b), h.row.trans h'.row, fun c hc => (h'.others c hc).trans (h.others c hc),
    h'.queue ∘ h.queue⟩

/-- The same chains, written with the last operation first, as an application stands. -/
theorem Served.after (h' : Served l' l'') (h : Served l l') : Served l l'' := h.trans h'

theorem Supplied.after (h' : Supplied l' l'') (h : Supplied l l') : Supplied l l'' := h.trans h'

theorem Passed.after (h' : Passed S l' l'') (h : Passed S l l') : Passed S l l'' := h.trans h'

theorem Supplied.served (h : Supplied l l') : Served l l' :=
  ⟨fun b => (h.bays b).toRecServed, h.row.mgu, h.row.walk, by rw [h.row.cache]⟩

theorem Passed.supplied (h : Passed .univ l l') : Supplied l l' := ⟨fun b => (h.bays b).toRecSupplied, h.row⟩

theorem queueIn_univ (l : Live) : QueueIn .univ l := fun _ _ => trivial

/-! ## One record changed -/

theorem RowStands.modBay (b : Bay) (f : BayRec → BayRec) (l : Live) : RowStands l (l.modBay b f) := ⟨rfl, rfl, rfl, rfl, rfl⟩

/-- What holds of a record and itself holds of each bay before and after one bay's record changes by it. -/
theorem bays_modBay {R : BayRec → BayRec → Prop} {f : BayRec → BayRec} (refl : ∀ r, R r r) (h : R (l.bay b) (f (l.bay b)))
    (c : Bay) : R (l.bay c) ((l.modBay b f).bay c) := by
  by_cases hc : c = b
  · subst hc
    simpa using h
  · simpa [hc] using refl _

theorem modBay_served {f : BayRec → BayRec} (h : RecServed (l.bay b) (f (l.bay b))) : Served l (l.modBay b f) :=
  ⟨bays_modBay .refl h, rfl, rfl, .refl _⟩

theorem modBay_supplied {f : BayRec → BayRec} (h : RecSupplied (l.bay b) (f (l.bay b))) : Supplied l (l.modBay b f) :=
  ⟨bays_modBay .refl h, .modBay b f l⟩

theorem modBay_passed {f : BayRec → BayRec} (hb : b ∈ S) (h : RecPassed (l.bay b) (f (l.bay b))) : Passed S l (l.modBay b f) :=
  ⟨bays_modBay .refl h, .modBay b f l, fun _ hc => bay_modBay_ne f fun hcb => hc (hcb ▸ hb), id⟩

theorem modBlm_passed {f : BlmPart → BlmPart} (hb : b ∈ S) : Passed S l (l.modBlm b f) :=
  modBay_passed hb ⟨⟨⟨⟨_, rfl⟩, id⟩, rfl⟩, rfl, id, Iff.rfl, rfl⟩

theorem modScv_passed {f : ScvPart → ScvPart} (hb : b ∈ S) : Passed S l (l.modScv b f) :=
  modBay_passed hb ⟨⟨⟨⟨_, rfl⟩, id⟩, rfl⟩, rfl, id, Iff.rfl, rfl⟩

theorem modDpc_passed {f : DpcPart → DpcPart} (hb : b ∈ S) : Passed S l (l.modDpc b f) :=
  modBay_passed hb ⟨⟨⟨⟨_, rfl⟩, id⟩, rfl⟩, rfl, id, Iff.rfl, rfl⟩

/-- LSW's part changes without a result and without a sweep that starts. -/
theorem modLsw_passed {f : LswPart → LswPart} (hb : b ∈ S) (hm : (f (l.bay b).lsw).map = (l.bay b).lsw.map)
    (hs : (l.bay b).lsw.sweep.inProgress = false → (f (l.bay b).lsw).sweep.inProgress = false) : Passed S l (l.modLsw b f) :=
  modBay_passed hb ⟨⟨⟨⟨_, rfl⟩, id⟩, rfl⟩, hm, hs, Iff.rfl, rfl⟩

/-- PHP's part changes within a plan or without one, and the heat gate stands. -/
theorem modPhp_passed {f : PhpPart → PhpPart} (hb : b ∈ S) (hp : (f (l.bay b).php).state = .none ↔ (l.bay b).php.state = .none)
    (hg : (f (l.bay b).php).gate = (l.bay b).php.gate) : Passed S l (l.modPhp b f) :=
  modBay_passed hb ⟨⟨⟨⟨_, rfl⟩, id⟩, rfl⟩, rfl, id, hp, hg⟩

/-- FAL's part changes and leaves the base share requested. -/
theorem modFal_passed {f : FalPart → FalPart} (hb : b ∈ S)
    (h : (l.bay b).fal.base.state ≠ .none → (f (l.bay b).fal).base.state ≠ .none) : Passed S l (l.modFal b f) :=
  modBay_passed hb ⟨⟨⟨⟨_, rfl⟩, h⟩, rfl⟩, rfl, id, Iff.rfl, rfl⟩

theorem modLsw_supplied {f : LswPart → LswPart} : Supplied l (l.modLsw b f) := modBay_supplied ⟨⟨⟨_, rfl⟩, id⟩, rfl⟩

theorem modPhp_supplied {f : PhpPart → PhpPart} : Supplied l (l.modPhp b f) := modBay_supplied ⟨⟨⟨_, rfl⟩, id⟩, rfl⟩

theorem modFrd_served {f : FrdPart → FrdPart} : Served l (l.modFrd b f) := modBay_served ⟨⟨_, rfl⟩, id⟩

/-! ## The row changed -/

theorem addReason_passed {n : ReportNumber} {x : Reason} : Passed S l (addReason e n x l) :=
  ⟨fun _ => .refl _, ⟨rfl, rfl, rfl, rfl, rfl⟩, fun _ _ => rfl, id⟩

theorem addBayReason_passed {x : Reason} : Passed S l (addBayReason e b x l) := addReason_passed

/-- FAL's state for the row changes, with requests of the set alone. -/
theorem fal_passed {f : FalState} (h : QueueIn S l → BaysIn S f.queue) : Passed S l { l with fal := f } :=
  ⟨fun _ => .refl _, ⟨rfl, rfl, rfl, rfl, rfl⟩, fun _ _ => rfl, h⟩

/-- An entry changes that stays at its bay. -/
theorem updateEntry_passed {f : DepEntry → DepEntry} (n : Nat) (hid : ∀ x, (f x).id = x.id) (hbay : ∀ x, (f x).bay = x.bay) :
    Passed S l (updateEntry n f l) := by
  refine ⟨fun _ => .refl _, ⟨rfl, rfl, rfl, rfl, ?_⟩, fun _ _ => rfl, id⟩
  simp only [bindings, updateEntry, List.map_map]
  refine List.map_congr_left fun x _ => ?_
  simp only [Function.comp]
  split <;> simp [hid, hbay]

theorem departures_served (xs : List DepEntry) : Served l { l with departures := xs } := ⟨fun _ => .refl _, rfl, rfl, .refl _⟩

/-! ## BLM's settings and frames -/

theorem setHeater_passed (hb : b ∈ S) {on : Bool} : Passed S l (setHeater b on l) := modBlm_passed hb

theorem setContactor_passed (hb : b ∈ S) {closed : Bool} : Passed S l (setContactor b closed l) := modBlm_passed hb

theorem setLatch_passed (hb : b ∈ S) {p : Purpose} {release : Bool} : Passed S l (setLatch b p release l) := by
  rw [setLatch_eq]
  exact modBay_passed hb ⟨⟨⟨⟨_, rfl⟩, id⟩, rfl⟩, rfl, id, Iff.rfl, rfl⟩

theorem withdrawJob_passed (hb : b ∈ S) {o : Owner} : Passed S l (withdrawJob b o l) := modBlm_passed hb

theorem placeJob_passed (hb : b ∈ S) {f : JobFrame} : Passed S l (placeJob b f l) := modBlm_passed hb

/-! ## DPC's judgement and its gate copies (R153, R157, R158) -/

theorem revokeEntry_passed (hb : b ∈ S) {x : DepEntry} : Passed S l (revokeEntry e b x l) := by
  have entry : Passed S l (updateEntry x.id (fun y => { y with state := .preparing, held := false }) l) :=
    updateEntry_passed _ (fun _ => rfl) fun _ => rfl
  refine addBayReason_passed.after (Passed.after ?_ entry)
  split
  · exact setLatch_passed hb
  · exact .refl _

theorem judge_passed (hb : b ∈ S) : Passed S l (judge e b l) := by
  unfold judge
  split
  · exact .refl l
  · split
    · exact .refl l
    · split
      · exact addBayReason_passed.after (updateEntry_passed _ (fun _ => rfl) fun _ => rfl)
      · exact .refl l
    · split
      · exact .refl l
      · exact revokeEntry_passed hb
    · split
      · exact .refl l
      · exact revokeEntry_passed hb

theorem gateNotice_passed (hb : b ∈ S) {judging : Bool} {g : Gate} {pass : Bool} :
    Passed S l (gateNotice e judging b g pass l) := by
  unfold gateNotice
  cases judging
  · exact modDpc_passed hb
  · exact (judge_passed hb).after (modDpc_passed hb)

theorem lateNotice_passed {late : Bool} : Passed S l (lateNotice b late l) := by
  unfold lateNotice
  split
  · exact .refl l
  · exact updateEntry_passed _ (fun _ => rfl) fun _ => rfl

theorem dpcPstat_passed (hb : b ∈ S) {released : Bool} : Passed S l (dpcPstat e b released l) :=
  (judge_passed hb).after (modDpc_passed hb)

/-! ## PHP's notices (R106, R109, R111) -/

theorem evalLate_passed (hb : b ∈ S) : Passed S l (evalLate e b l) := by
  simp only [evalLate]
  split
  · exact .refl l
  · split
    · exact lateNotice_passed.after (addBayReason_passed.after (modPhp_passed hb Iff.rfl rfl))
    · exact .refl l

theorem clearLate_passed (hb : b ∈ S) : Passed S l (clearLate b l) := by
  unfold clearLate
  split
  · exact lateNotice_passed.after (modPhp_passed hb Iff.rfl rfl)
  · exact .refl l

theorem heatAdmitted_passed (hb : b ∈ S) : Passed S l (heatAdmitted e b l) := by
  simp only [heatAdmitted]
  split
  · rename_i hw
    split
    · exact (evalLate_passed hb).after (modPhp_passed hb (by simp [hw]) rfl)
    · exact (evalLate_passed hb).after (addBayReason_passed.after
        ((setHeater_passed hb).after (modPhp_passed hb (by simp [hw]) rfl)))
  · exact .refl l

/-- A plan that runs is paused. -/
theorem pause_passed (hb : b ∈ S) (h : (l.bay b).php.state ≠ .none) {back : Resume} :
    Passed S l (evalLate e b (setHeater b false
      ((l.modPhp b fun q => { q with pauseRequested := true }).modPhp b fun q => { q with state := .paused, resume := back }))) :=
  (evalLate_passed hb).after ((setHeater_passed hb).after
    ((modPhp_passed hb (by simp [h]) rfl).after (modPhp_passed hb Iff.rfl rfl)))

theorem pauseBegins_passed (hb : b ∈ S) : Passed S l (pauseBegins e b l) := by
  simp only [pauseBegins]
  split
  · rename_i h
    exact pause_passed hb (by simp [h])
  · rename_i h
    exact pause_passed hb (by simp [h])
  · exact modPhp_passed hb Iff.rfl rfl

theorem pauseEnds_passed (hb : b ∈ S) : Passed S l (pauseEnds e b l) := by
  have lifted : Passed S l (l.modPhp b fun q => { q with pauseRequested := false }) := modPhp_passed hb Iff.rfl rfl
  simp only [pauseEnds]
  split
  · rename_i h
    split
    · exact (evalLate_passed hb).after (addBayReason_passed.after
        ((setHeater_passed hb).after ((modPhp_passed hb (by simp [h]) rfl).after lifted)))
    · exact (clearLate_passed hb).after ((setHeater_passed hb).after ((modPhp_passed hb (by simp [h]) rfl).after lifted))
  · exact lifted

theorem phpPstat_passed (hb : b ∈ S) {on : Bool} : Passed S l (phpPstat b on l) := modPhp_passed hb Iff.rfl rfl

theorem staleInMaintain_passed (hb : b ∈ S) : Passed S l (staleInMaintain b l) := by
  unfold staleInMaintain
  split
  · exact setHeater_passed hb
  · exact .refl l

/-! ## LSW's notices (R79 to R82, R87, R92) -/

theorem driveLamp_passed (hb : b ∈ S) {p : Nat × Nat} : Passed S l (driveLamp e b p l) := by
  simp only [driveLamp]
  exact (modScv_passed hb).after ((placeJob_passed hb).after (modLsw_passed hb rfl id))

theorem pointAt_passed (hb : b ∈ S) {p : Option (Nat × Nat)} : Passed S l (pointAt e b p l).1 := by
  have cleared : Passed S l (l.modLsw b fun s => { s with tries := 0, visits := 0 }) := modLsw_passed hb rfl id
  cases p with
  | none => exact cleared
  | some p => exact (driveLamp_passed hb).after cleared

theorem evalLampGate_passed (hb : b ∈ S) {judging : Bool} : Passed S l (evalLampGate e judging b l) := by
  simp only [evalLampGate]
  split
  · exact .refl l
  · exact (gateNotice_passed hb).after (modLsw_passed hb rfl id)

theorem endPause_passed (hb : b ∈ S) : Passed S l (endPause e b l) := by
  unfold endPause
  split
  · exact (pauseEnds_passed hb).after (modLsw_passed hb rfl id)
  · exact .refl l

theorem lampAdmitted_passed (hb : b ∈ S) : Passed S l (lampAdmitted e b l).1 := by
  simp only [lampAdmitted]
  split
  · rename_i hw
    have runs : Passed S l (l.modLsw b fun s => { s with sweep := .running }) :=
      modLsw_passed hb rfl (by simp [hw, SweepState.inProgress])
    refine (pointAt_passed hb).after ?_
    split
    · exact (pauseBegins_passed hb).after ((modLsw_passed hb rfl id).after runs)
    · exact runs
  · exact .refl l

theorem closeSweep_passed (hb : b ∈ S) : Passed S l (closeSweep e b l) :=
  (endPause_passed hb).after ((modLsw_passed hb rfl fun _ => rfl).after (withdrawJob_passed hb))

theorem reportSweep_passed (hb : b ∈ S) {judging : Bool} : Passed S l (reportSweep e judging b l) :=
  addBayReason_passed.after (evalLampGate_passed hb)

end Sys2Proof.Machine

/-! # The feeder, the sweeps and the plans leave the coaches as they are

The admission passes with their notices as `Passed`, and the other work of FAL, LSW and PHP as `Supplied`. -/
namespace Sys2Proof.Machine

variable {S : Set Bay} {e : Env} {b : Bay} {l l' : Live}

/-! ## A chain of steps -/

/-- What holds of each step of a fold holds from its beginning to its end, for a relation that can be chained. -/
theorem foldl_chain {R : Live → Live → Prop} {α : Type} {f : Live → α → Live} (refl : ∀ l, R l l)
    (trans : ∀ {l l' l''}, R l l' → R l' l'' → R l l'') (step : ∀ l x, R l (f l x)) (xs : List α) (l : Live) :
    R l (xs.foldl f l) := by
  induction xs generalizing l with
  | nil => exact refl l
  | cons x xs ih => exact trans (step l x) (ih _)

theorem forBays_supplied {f : Bay → Live → Live} (step : ∀ b l, Supplied l (f b l)) (bays : List Bay) :
    Supplied l (forBays bays f l) := foldl_chain .refl .trans (fun l b => step b l) bays l

theorem forBays_served {f : Bay → Live → Live} (step : ∀ b l, Served l (f b l)) (bays : List Bay) :
    Served l (forBays bays f l) := foldl_chain .refl .trans (fun l b => step b l) bays l

/-! ## Shares and the queue (R118, R119) -/

theorem BaysIn.append {xs ys : List (Bay × ShareKind)} (h : BaysIn S xs) (h' : BaysIn S ys) : BaysIn S (xs ++ ys) :=
  fun x hx => (List.mem_append.1 hx).elim (h x) (h' x)

theorem BaysIn.filter {xs : List (Bay × ShareKind)} (h : BaysIn S xs) (p : Bay × ShareKind → Bool) : BaysIn S (xs.filter p) :=
  fun x hx => h x (List.mem_filter.1 hx).1

theorem BaysIn.insertBefore {xs : List (Bay × ShareKind)} (h : BaysIn S xs) {x : Bay × ShareKind} (hx : x.1 ∈ S)
    (p : Bay × ShareKind → Bool) : BaysIn S (insertBefore p x xs) := by
  induction xs with
  | nil => simpa [Machine.insertBefore, BaysIn] using hx
  | cons y ys ih =>
    obtain ⟨hy, hys⟩ := List.forall_mem_cons.1 h
    unfold Machine.insertBefore
    split
    · exact List.forall_mem_cons.2 ⟨hx, h⟩
    · exact List.forall_mem_cons.2 ⟨hy, ih hys⟩

theorem enqueue_passed {x : Bay × ShareKind} (hx : x.1 ∈ S) : Passed S l (enqueue e x l) := fal_passed fun h => h.insertBefore hx _

theorem dequeue_passed {x : Bay × ShareKind} : Passed S l (dequeue x l) := fal_passed fun h => h.filter _

/-- A share is written that is not NONE, or not the base share. -/
theorem setShare_passed (hb : b ∈ S) {k : ShareKind} {f : FalPart → Share}
    (h : k = .base → (f (l.bay b).fal).state ≠ .none) : Passed S l (l.modFal b fun x => x.setShare k (f x)) := by
  refine modFal_passed hb fun hbase => ?_
  cases k with
  | base => exact h rfl
  | lamp => exact hbase
  | heat => exact hbase

theorem setShareState_passed (hb : b ∈ S) {k : ShareKind} {st : ShareState} (h : st ≠ .none) :
    Passed S l (setShareState b k st l) := setShare_passed hb fun _ => h

theorem dropShare_passed (hb : b ∈ S) {k : ShareKind} (hk : k ≠ .base) : Passed S l (dropShare b k l) :=
  setShare_passed hb fun h => absurd h hk

/-! ## Admission passes (R122 to R124) -/

theorem releaseHeld_passed (hb : b ∈ S) {k : ShareKind} : Passed S l (releaseHeld e b k l) := by
  unfold releaseHeld
  split
  · exact Passed.after (enqueue_passed hb) (setShareState_passed hb (by decide))
  · exact .refl l

theorem grantShare_passed {x : Bay × ShareKind} (hx : x.1 ∈ S) : Passed S l (grantShare e x l) := by
  have admitted : Passed S l (setShareState x.1 x.2 .admitted (dequeue x l)) :=
    (setShareState_passed hx (by decide)).after dequeue_passed
  simp only [grantShare]
  split
  · exact (releaseHeld_passed hx).after ((releaseHeld_passed hx).after admitted)
  · exact admitted

/-- A pass has gone on: more may have been admitted, on bays of the set. -/
structure Admitted (S : Set Bay) (s s' : Live × List (Bay × ShareKind)) : Prop where
  passed : Passed S s.1 s'.1
  told : BaysIn S s.2 → BaysIn S s'.2

theorem Admitted.refl (s : Live × List (Bay × ShareKind)) : Admitted S s s := ⟨.refl _, id⟩

theorem Admitted.trans {s s' s'' : Live × List (Bay × ShareKind)} (h : Admitted S s s') (h' : Admitted S s' s'') :
    Admitted S s s'' := ⟨h.passed.trans h'.passed, h'.told ∘ h.told⟩

/-- A change with no admission. -/
theorem Passed.admitted (h : Passed S l l') (told : List (Bay × ShareKind)) : Admitted S (l, told) (l', told) := ⟨h, id⟩

/-- One request is admitted and told. -/
theorem grantShare_admitted {x : Bay × ShareKind} {told : List (Bay × ShareKind)} (hx : x.1 ∈ S) :
    Admitted S (l, told) (grantShare e x l, told ++ [x]) :=
  ⟨grantShare_passed hx, fun h => h.append (by simpa [BaysIn] using hx)⟩

theorem admitHeads_admitted (n : Nat) (s : Live × List (Bay × ShareKind)) (hq : QueueIn S s.1) :
    Admitted S s (admitHeads e n s) := by
  induction n generalizing s with
  | zero => exact .refl s
  | succ n ih =>
    obtain ⟨l, told⟩ := s
    unfold admitHeads
    split
    · exact .refl _
    · rename_i x rest hqueue
      have hx : x.1 ∈ S := hq x (by simp [hqueue])
      split
      · exact (grantShare_admitted hx).trans (ih _ ((grantShare_passed hx).queue hq))
      · exact .refl _

theorem passLamps_admitted (xs : List (Bay × ShareKind)) (s : Live × List (Bay × ShareKind)) (hxs : BaysIn S xs) :
    Admitted S s (passLamps e xs s) := by
  induction xs generalizing s with
  | nil => exact .refl s
  | cons x xs ih =>
    obtain ⟨l, told⟩ := s
    obtain ⟨hx, hrest⟩ := List.forall_mem_cons.1 hxs
    unfold passLamps
    split
    · exact (grantShare_admitted hx).trans (ih _ hrest)
    · exact ih _ hrest

theorem passRound_admitted (hq : QueueIn S l) : Admitted S (l, []) (passRound e l) := by
  have heads := admitHeads_admitted (e := e) (requestBound l) (l, []) hq
  exact heads.trans (passLamps_admitted _ _ fun x hx => heads.passed.queue hq x (List.mem_of_mem_tail hx))

theorem passRounds_admitted (n : Nat) (l : Live) (told : List (Bay × ShareKind)) (hq : QueueIn S l) :
    Admitted S (l, told) (passRounds e n l told) := by
  induction n generalizing l told with
  | zero => exact .refl _
  | succ n ih =>
    have round := passRound_admitted (e := e) hq
    have more : Admitted S (l, told) ((passRound e l).1, told ++ (passRound e l).2) :=
      ⟨round.passed, fun h => h.append (round.told fun _ hx => absurd hx List.not_mem_nil)⟩
    simp only [passRounds]
    split
    · exact ⟨round.passed, id⟩
    · exact more.trans (ih _ _ (round.passed.queue hq))

theorem admissionPass_admitted (hq : QueueIn S l) : Admitted S (l, []) (admissionPass e l) := by
  unfold admissionPass
  split
  · exact .refl _
  · exact passRounds_admitted _ l [] hq

theorem judgeOvercommit_admitted (hq : QueueIn S l) : Admitted S (l, []) (judgeOvercommit e l) := by
  have cleared : Passed S l { l with fal := { l.fal with overcommit := false } } := fal_passed fun h => h
  unfold judgeOvercommit
  split
  · exact .refl _
  · exact (cleared.admitted []).trans (admissionPass_admitted (cleared.queue hq))

theorem freeShare_admitted (hb : b ∈ S) {k : ShareKind} (hk : k ≠ .base) (hq : QueueIn S l) :
    Admitted S (l, []) (freeShare e b k l) := by
  have dropped : Passed S l (dropShare b k l) := dropShare_passed hb hk
  unfold freeShare
  split
  · exact (dropped.admitted []).trans (judgeOvercommit_admitted (dropped.queue hq))
  · exact .refl _

/-- What a pass that began with nothing admitted has told is of the set. -/
theorem Admitted.told_nil {s : Live × List (Bay × ShareKind)} (h : Admitted S (l, []) s) : BaysIn S s.2 :=
  h.told fun _ hx => absurd hx List.not_mem_nil

theorem tellOwners_passed (n : Nat) (told : List (Bay × ShareKind)) (l : Live) (hq : QueueIn S l) (ht : BaysIn S told) :
    Passed S l (tellOwners e n told l) := by
  induction n generalizing told l with
  | zero => exact .refl l
  | succ n ih =>
    cases told with
    | nil => exact .refl l
    | cons x rest =>
      obtain ⟨b, k⟩ := x
      obtain ⟨hb, hrest⟩ := List.forall_mem_cons.1 ht
      have on {l' : Live} (h : Passed S l l') : Passed S l (tellOwners e n rest l') := h.trans (ih rest l' (h.queue hq) hrest)
      cases k with
      | base => exact on (setContactor_passed hb)
      | heat => exact on (heatAdmitted_passed hb)
      | lamp =>
        have told : Passed S l (lampAdmitted e b l).1 := lampAdmitted_passed hb
        rw [tellOwners]
        split
        · rename_i l1 h
          rw [h] at told
          exact on told
        · rename_i l1 h
          rw [h] at told
          have closed : Passed S l (closeSweep e b l1) := (closeSweep_passed hb).after told
          have freed := freeShare_admitted (e := e) (k := .lamp) hb (by decide) (closed.queue hq)
          have within : Passed S l (freeShare e b .lamp (closeSweep e b l1)).1 := closed.trans freed.passed
          exact on ((reportSweep_passed hb).after (within.trans (ih _ _ (within.queue hq) freed.told_nil)))

/-- A pass and its notices, on bays of a set that holds every request waiting. -/
theorem finishPass_passed {s : Live × List (Bay × ShareKind)} (h : Admitted S (l, []) s) (hq : QueueIn S l) :
    Passed S l (finishPass e s) :=
  h.passed.trans (tellOwners_passed _ _ _ (h.passed.queue hq) h.told_nil)

theorem runPass_passed (hq : QueueIn S l) : Passed S l (runPass e l) := finishPass_passed (admissionPass_admitted hq) hq

/-! ## Requests, withdrawals, releases and keys (R118 to R124) -/

theorem requestShare_passed (hb : b ∈ S) (hq : QueueIn S l) {k : ShareKind} {amount : Nat} :
    Passed S l (requestShare e b k amount l) := by
  have asked (s : Share) (hs : s.state ≠ .none) : Passed S l { (l.modFal b fun f => f.setShare k s) with
      fal := { (l.modFal b fun f => f.setShare k s).fal with sequence := l.fal.sequence + 1 } } :=
    (setShare_passed (f := fun _ => s) hb fun _ => hs).trans (fal_passed fun h => h)
  simp only [requestShare]
  split
  · split
    · have queued := (asked { state := .queued, amount := amount, sequence := l.fal.sequence } (by simp)).trans
        (enqueue_passed (e := e) (x := (b, k)) hb)
      exact queued.trans (runPass_passed (queued.queue hq))
    · exact asked _ (by simp)
  · exact .refl l

theorem dropRequest_passed (hb : b ∈ S) {k : ShareKind} (hk : k ≠ .base) : Passed S l (dropRequest b k l) := by
  unfold dropRequest
  split
  · exact (dropShare_passed hb hk).after dequeue_passed
  · exact dropShare_passed hb hk
  · exact .refl l

theorem withdrawShare_passed (hb : b ∈ S) (hq : QueueIn S l) {k : ShareKind} (hk : k ≠ .base) :
    Passed S l (withdrawShare e b k l) := by
  have dropped : Passed S l (dropRequest b k l) := dropRequest_passed hb hk
  unfold withdrawShare
  split
  · exact dropped.trans (runPass_passed (dropped.queue hq))
  · exact dropped

theorem releaseShare_passed (hb : b ∈ S) (hq : QueueIn S l) {k : ShareKind} (hk : k ≠ .base) :
    Passed S l (releaseShare e b k l) := finishPass_passed (freeShare_admitted hb hk hq) hq

theorem requeue_passed (hb : b ∈ S) {k : ShareKind} : Passed S l (requeue e b k l) := by
  unfold requeue
  split
  · exact enqueue_passed hb
  · exact .refl l

theorem setKey_passed (hb : b ∈ S) (hq : QueueIn S l) {key : Option Nat} : Passed S l (setKey e b key l) := by
  have keyed : Passed S l (l.modFal b fun f => { f with key := key }) := modFal_passed hb id
  simp only [setKey]
  split
  · exact .refl l
  · split
    · have again := (requeue_passed (e := e) (k := .heat) hb).after ((requeue_passed (e := e) (k := .lamp) hb).after
        ((requeue_passed (e := e) (k := .base) hb).after
          (Passed.after (fal_passed (f := { (l.modFal b fun f => { f with key := key }).fal with
            queue := (l.modFal b fun f => { f with key := key }).fal.queue.filter fun x => x.1 != b })
            fun h => h.filter _) keyed)))
      exact again.trans (runPass_passed (again.queue hq))
    · exact keyed

/-! ## Shedding (R125, R126) -/

theorem revokeHeat_passed (hb : b ∈ S) : Passed S l (revokeHeat e b l) :=
  addBayReason_passed.after (dropShare_passed hb (by decide))

theorem shedLoop_passed (n : Nat) (l : Live) (told : List Bay) : Passed .univ l (shedLoop e n l told).1 := by
  induction n generalizing l told with
  | zero => exact .refl l
  | succ n ih =>
    unfold shedLoop
    split
    · split
      · exact .refl l
      · exact (ih _ _).after (revokeHeat_passed (Set.mem_univ _))
    · exact .refl l

theorem judgeShed_passed (hq : QueueIn S l) : Passed S l (judgeShed e l) := by
  unfold judgeShed
  split
  · split
    · exact .refl l
    · exact addReason_passed.after (fal_passed fun h => h)
  · exact finishPass_passed (judgeOvercommit_admitted hq) hq

theorem requestShare_supplied {k : ShareKind} {amount : Nat} : Supplied l (requestShare e b k amount l) :=
  (requestShare_passed (Set.mem_univ _) (queueIn_univ l)).supplied

theorem heatRevoked_supplied : Supplied l (heatRevoked e b l) := by
  simp only [heatRevoked]
  exact (evalLate_passed (Set.mem_univ _)).supplied.after (requestShare_supplied.after
    ((evalLate_passed (Set.mem_univ _)).supplied.after ((setHeater_passed (Set.mem_univ _)).supplied.after modPhp_supplied)))

theorem shed_supplied : Supplied l (shed e l) := by
  simp only [shed]
  exact (forBays_supplied (fun _ _ => heatRevoked_supplied) _).after
    ((judgeShed_passed (queueIn_univ _)).supplied.after (shedLoop_passed _ _ _).supplied)

theorem limitWritten_supplied {old : Nat} : Supplied l (limitWritten e old l) := by
  simp only [limitWritten]
  split
  · exact .refl l
  · split
    · exact (finishPass_passed (judgeOvercommit_admitted (queueIn_univ l)) (queueIn_univ l)).supplied
    · split
      · exact shed_supplied
      · exact .refl l

theorem falPstat_supplied {closed : Bool} : Supplied l (falPstat e b closed l) := by
  have reported : Supplied l (l.modFal b fun f => { f with contactorReported := closed }) :=
    (modFal_passed (Set.mem_univ _) id).supplied
  simp only [falPstat]
  split
  · exact shed_supplied.after reported
  · exact reported

/-! ## Sweeps (R76, R77, R81, R84 to R93) -/

theorem completeSweep_passed (hb : b ∈ S) (hq : QueueIn S l) : Passed S l (completeSweep e b l) := by
  have closed : Passed S l (closeSweep e b l) := closeSweep_passed hb
  exact (reportSweep_passed hb).after (closed.trans (releaseShare_passed hb (closed.queue hq) (by decide)))

theorem stepTo_passed (hb : b ∈ S) (hq : QueueIn S l) {p : Option (Nat × Nat)} : Passed S l (stepTo e b p l) := by
  have pointed : Passed S l (pointAt e b p l).1 := pointAt_passed hb
  unfold stepTo
  split
  · rename_i l1 h
    rw [h] at pointed
    exact pointed.trans (completeSweep_passed hb (pointed.queue hq))
  · rename_i l1 h
    rw [h] at pointed
    exact pointed

theorem recordResult_supplied {p : Nat × Nat} {x : LampResult} : Supplied l (recordResult b p x l) := modLsw_supplied

theorem endStep_supplied {x : LampResult} : Supplied l (endStep e b x l) := by
  unfold endStep
  split
  · exact .refl l
  · exact (stepTo_passed (Set.mem_univ _) (queueIn_univ _)).supplied.after recordResult_supplied

/-- An abort without a result (R88), with a settlement of the lamp share that passes on bays of the set. -/
theorem abortWith_passed (hb : b ∈ S) (hq : QueueIn S l) {judging : Bool} {f : Live → Live}
    (hf : ∀ l, QueueIn S l → Passed S l (f l)) : Passed S l (abortWith e judging false b f l) := by
  have paused : Passed S l (endPause e b ((withdrawJob b .lsw l).modLsw b fun t =>
      { t with sweep := .aborted, pointer := none, tries := 0, visits := 0 })) :=
    (endPause_passed hb).after ((modLsw_passed hb rfl fun _ => rfl).after (withdrawJob_passed hb))
  have unmarked : abortWith e judging false b f l = reportSweep e judging b (f (endPause e b ((withdrawJob b .lsw l).modLsw b
      fun t => { t with sweep := .aborted, pointer := none, tries := 0, visits := 0 }))) := by
    simp only [abortWith]
    split <;> simp
  rw [unmarked]
  exact (reportSweep_passed hb).after (paused.trans (hf _ (paused.queue hq)))

/-- An abort with a result is one without, behind the result (R89). -/
theorem abortWith_supplied {judging silent : Bool} {f : Live → Live} (hf : ∀ l, Passed .univ l (f l)) :
    Supplied l (abortWith e judging silent b f l) := by
  have plain (l : Live) : Supplied l (abortWith e judging false b f l) :=
    (abortWith_passed (Set.mem_univ _) (queueIn_univ l) fun l _ => hf l).supplied
  by_cases h : ∃ p, (l.bay b).lsw.pointer = some p ∧ silent = true ∧ (l.bay b).lsw.sweep = .running
  · obtain ⟨p, hp, hsilent, hrun⟩ := h
    have marked : abortWith e judging silent b f l = abortWith e judging false b f (recordResult b p .noMeasure l) := by
      simp [abortWith, hp, hsilent, hrun, recordResult]
    rw [marked]
    exact (plain _).after recordResult_supplied
  · have unmarked : abortWith e judging silent b f l = abortWith e judging false b f l := by
      simp only [abortWith]
      split
      · rename_i p hp
        have hno : ¬ (silent = true ∧ (l.bay b).lsw.sweep = .running) := fun hr => h ⟨p, hp, hr⟩
        simp [hno]
      · rfl
    rw [unmarked]
    exact plain l

/-- How an abort settles the lamp share. -/
theorem settleLamp_passed (hb : b ∈ S) (hq : QueueIn S l') {c : Prop} [Decidable c] :
    Passed S l' ((if c then withdrawShare e b .lamp else releaseShare e b .lamp) l') := by
  split
  · exact withdrawShare_passed hb hq (by decide)
  · exact releaseShare_passed hb hq (by decide)

theorem stopSweep_passed (hb : b ∈ S) (hq : QueueIn S l) {judging : Bool} : Passed S l (stopSweep e judging false b l) := by
  unfold stopSweep
  split
  · exact abortWith_passed hb hq fun _ hq' => settleLamp_passed hb hq'
  · exact .refl l

theorem abortSweep_supplied {judging silent : Bool} : Supplied l (abortSweep e judging silent b l) :=
  abortWith_supplied fun l => settleLamp_passed (Set.mem_univ _) (queueIn_univ l)

theorem stopSweep_supplied {judging silent : Bool} : Supplied l (stopSweep e judging silent b l) := by
  unfold stopSweep
  split
  · exact abortSweep_supplied
  · exact .refl l

theorem startSweep_supplied {w : SweepWindow} {o : SweepOrder} : Supplied l (startSweep e b w o l) :=
  requestShare_supplied.after modLsw_supplied

theorem restartSweep_supplied {w : SweepWindow} {o : SweepOrder} : Supplied l (restartSweep e b w o l) := by
  simp only [restartSweep]
  split
  · exact (stepTo_passed (Set.mem_univ _) (queueIn_univ _)).supplied.after modLsw_supplied
  · exact modLsw_supplied

theorem lampCheck_supplied {w : SweepWindow} {o : SweepOrder} : Supplied l (lampCheck e b w o l).2 := by
  simp only [lampCheck]
  repeat' split
  all_goals first | exact .refl l | exact restartSweep_supplied | exact startSweep_supplied

theorem lampStop_supplied : Supplied l (lampStop e b l).2 := by
  unfold lampStop
  split
  · exact .refl l
  · exact stopSweep_supplied

theorem visitLimit_supplied : Supplied l (visitLimit e b l) := by
  simp only [visitLimit]
  split
  · exact .refl l
  · split
    · exact (driveLamp_passed (Set.mem_univ _)).supplied
    · exact endStep_supplied

theorem lswExchangeEnd_supplied : Supplied l (lswExchangeEnd e b l) := by
  simp only [lswExchangeEnd]
  split
  · split
    · exact visitLimit_supplied.after modLsw_supplied
    · exact modLsw_supplied
  · exact .refl l

theorem lampSample_supplied {tag current : Nat} {overrange : Bool} : Supplied l (lampSample e b tag current overrange l) := by
  simp only [lampSample]
  split
  · exact .refl l
  · split
    · exact endStep_supplied
    · exact .refl l

theorem lswOccupied_supplied {diverted : Bool} : Supplied l (lswOccupied e diverted b l) := by
  have judged := (evalLampGate_passed (e := e) (b := b) (judging := true) (Set.mem_univ _)).supplied.after (modLsw_supplied (b := b)
    (f := fun s => { s with sweep := .idle, window := wholeWindow e l b, order := .plain, counts := .zero, pointer := none,
                            tries := 0, visits := 0, pauseMarker := false }) (l := l))
  simp only [lswOccupied]
  split
  · exact startSweep_supplied.after judged
  · exact judged

theorem abortLost_supplied {queued : List Bay} : Supplied l (abortLost e queued b l) := by
  unfold abortLost
  split
  · refine abortWith_supplied fun l => ?_
    split
    · exact runPass_passed (queueIn_univ l)
    · exact .refl l
  · exact abortSweep_supplied
  · exact .refl l

theorem evalProfileGates_supplied {p : Fin 8} : Supplied l (evalProfileGates e p l) := by
  refine forBays_supplied (fun b l => ?_) _
  split
  · exact (evalLampGate_passed (Set.mem_univ _)).supplied
  · exact .refl l

/-! ## Plans (R101 to R112) -/

theorem latchHeatGate_supplied : Supplied l (latchHeatGate e b l) := by
  unfold latchHeatGate
  split
  · exact .refl l
  · exact (gateNotice_passed (Set.mem_univ _)).supplied.after (addBayReason_passed.supplied.after modPhp_supplied)

theorem judgeCabinSample_supplied {t : Int} : Supplied l (judgeCabinSample e b t l) := by
  have heater (on : Bool) (l : Live) : Supplied l (setHeater b on l) := (setHeater_passed (Set.mem_univ _)).supplied
  simp only [judgeCabinSample]
  split
  · exact .refl l
  · split
    · exact latchHeatGate_supplied
    · exact .refl l
  · split
    · exact latchHeatGate_supplied
    · exact .refl l
  · split
    · refine addBayReason_passed.supplied.after ((clearLate_passed (Set.mem_univ _)).supplied.after (latchHeatGate_supplied.after ?_))
      split
      · exact (heater _ _).after modPhp_supplied
      · exact modPhp_supplied
    · exact .refl l
  · split
    · exact heater _ l
    · split
      · exact .refl l
      · exact heater _ l
  · split
    · exact (clearLate_passed (Set.mem_univ _)).supplied.after (latchHeatGate_supplied.after modPhp_supplied)
    · exact .refl l

theorem computeBayLead_supplied : Supplied l (computeBayLead e b l) := by
  simp only [computeBayLead]
  split
  · exact addBayReason_passed.supplied.after modPhp_supplied
  · exact modPhp_supplied

theorem withdrawShare_supplied {k : ShareKind} (hk : k ≠ .base) : Supplied l (withdrawShare e b k l) :=
  (withdrawShare_passed (Set.mem_univ _) (queueIn_univ l) hk).supplied

theorem releaseShare_supplied {k : ShareKind} (hk : k ≠ .base) : Supplied l (releaseShare e b k l) :=
  (releaseShare_passed (Set.mem_univ _) (queueIn_univ l) hk).supplied

theorem evalLate_supplied : Supplied l (evalLate e b l) := (evalLate_passed (Set.mem_univ _)).supplied

theorem heatAct_supplied : Supplied l (heatAct e b l) := by
  simp only [heatAct]
  split
  · exact .refl l
  · split
    · exact .refl l
    · split
      · exact evalLate_supplied.after (requestShare_supplied.after (evalLate_supplied.after
          ((setHeater_passed (Set.mem_univ _)).supplied.after modPhp_supplied)))
      · exact .refl l
    · split
      · exact (withdrawShare_supplied (by decide)).after ((clearLate_passed (Set.mem_univ _)).supplied.after
          ((setHeater_passed (Set.mem_univ _)).supplied.after modPhp_supplied))
      · exact evalLate_supplied
    · exact evalLate_supplied

theorem recompute_supplied : Supplied l (recompute e b l) := by
  unfold recompute
  split
  · exact .refl l
  · exact heatAct_supplied.after computeBayLead_supplied

theorem leavePlan_supplied {teardown : Bool} : Supplied l (leavePlan e teardown b l) := by
  have settled : Supplied l (match (l.bay b).php.state with
      | .waitFeed => withdrawShare e b .heat l
      | .heating => releaseShare e b .heat l
      | .maintain => releaseShare e b .heat l
      | .paused => releaseShare e b .heat l
      | _ => l) := by
    split
    · exact withdrawShare_supplied (by decide)
    · exact releaseShare_supplied (by decide)
    · exact releaseShare_supplied (by decide)
    · exact releaseShare_supplied (by decide)
    · exact .refl l
  have off {k : Live} (h : Supplied l k) : Supplied l (setHeater b false k) := (setHeater_passed (Set.mem_univ _)).supplied.after h
  have failed {k : Live} (h : Supplied l k) : Supplied l
      (if (k.bay b).php.gate then gateNotice e (!teardown) b .heat false (k.modPhp b fun q => { q with gate := false }) else k) := by
    split
    · exact (gateNotice_passed (Set.mem_univ _)).supplied.after (modPhp_supplied.after h)
    · exact h
  have left {k : Live} (h : Supplied l k) : Supplied l ((clearLate b k).modPhp b fun q =>
      { q with unreachable := false, capped := false, staleCabin := false, lead := 0, state := .none }) :=
    modPhp_supplied.after ((clearLate_passed (Set.mem_univ _)).supplied.after h)
  simp only [leavePlan]
  split
  · exact addBayReason_passed.supplied.after (left (failed (off settled)))
  · exact left (failed (off settled))

theorem enterPlan_supplied {target : Int} : Supplied l (enterPlan e b target l) :=
  recompute_supplied.after ((setHeater_passed (Set.mem_univ _)).supplied.after modPhp_supplied)

theorem planNotice_supplied : Supplied l (planNotice e b l) := by
  simp only [planNotice]
  split
  · split
    · exact .refl l
    · exact leavePlan_supplied
  · split
    · exact enterPlan_supplied
    · exact recompute_supplied.after modPhp_supplied

theorem plannabilityNotice_supplied : Supplied l (plannabilityNotice e b l) := by
  simp only [plannabilityNotice]
  split
  · split
    · exact .refl l
    · exact leavePlan_supplied
  · split
    · exact enterPlan_supplied
    · exact .refl l

theorem cabinSample_supplied {t : Int} : Supplied l (cabinSample e b t l) := recompute_supplied.after judgeCabinSample_supplied

theorem cabinStaleOnset_supplied : Supplied l (cabinStaleOnset e b l) :=
  recompute_supplied.after (staleInMaintain_passed (Set.mem_univ _)).supplied

theorem recomputeProfile_supplied {p : Fin 8} : Supplied l (recomputeProfile e p l) := by
  refine forBays_supplied (fun b l => ?_) _
  split
  · exact recompute_supplied
  · exact .refl l

theorem recomputeAll_supplied : Supplied l (recomputeAll e l) := forBays_supplied (fun _ _ => recompute_supplied) _

theorem phpMinute_supplied : Supplied l (phpMinute e l) := forBays_supplied (fun _ _ => heatAct_supplied) _

end Sys2Proof.Machine

/-! # Fault reading, the departure list and the rest of the bay line leave the coaches as they are

The work of FRD, DPC, SCV and TSW as `Served`: a cache slot may go for its cells, and none comes. -/
namespace Sys2Proof.Machine

variable {S : Set Bay} {e : Env} {b : Bay} {l l' : Live}

/-! ## The row changed -/

theorem pool_served {p : Pool} : Served l { l with pool := p } := ⟨fun _ => .refl _, rfl, rfl, .refl _⟩

theorem modTsw_served {f : TswState → TswState} : Served l (l.modTsw f) := ⟨fun _ => .refl _, rfl, rfl, .refl _⟩

theorem sampleRejects_served {n : Nat} : Served l { l with sampleRejects := n } := ⟨fun _ => .refl _, rfl, rfl, .refl _⟩

theorem addReason_served {n : ReportNumber} {x : Reason} : Served l (addReason e n x l) := addReason_passed.supplied.served

theorem addBayReason_served {x : Reason} : Served l (addBayReason e b x l) := addReason_served

theorem modBlm_served {f : BlmPart → BlmPart} : Served l (l.modBlm b f) := (modBlm_passed (Set.mem_univ _)).supplied.served

theorem modDpc_served {f : DpcPart → DpcPart} : Served l (l.modDpc b f) := (modDpc_passed (Set.mem_univ _)).supplied.served

theorem modScv_served {f : ScvPart → ScvPart} : Served l (l.modScv b f) := (modScv_passed (Set.mem_univ _)).supplied.served

theorem setLatch_served {p : Purpose} {release : Bool} : Served l (setLatch b p release l) :=
  (setLatch_passed (Set.mem_univ _)).supplied.served

theorem judge_served : Served l (judge e b l) := (judge_passed (Set.mem_univ _)).supplied.served

theorem updateEntry_served {n : Nat} {f : DepEntry → DepEntry} : Served l (updateEntry n f l) := departures_served _

theorem removeEntry_served {n : Nat} : Served l (removeEntry n l) := departures_served _

/-! ## Cells and the cache (R18, R140, R141) -/

theorem evictOldest_served : Served l (evictOldest l) := by
  unfold evictOldest
  split
  · exact .refl l
  · rename_i x rest h
    exact ⟨fun _ => .refl _, rfl, rfl, by simp [freeCells, h]⟩

theorem evictUntil_served (n k : Nat) (l : Live) : Served l (evictUntil n k l) := by
  induction k generalizing l with
  | zero => exact .refl l
  | succ k ih =>
    unfold evictUntil
    split
    · exact .refl l
    · exact (ih _).after evictOldest_served

theorem placeCells_served {held n : Nat} : Served l (placeCells held n l).2 := by
  simp only [placeCells]
  split
  · exact .refl l
  · split
    · exact evictUntil_served _ _ l
    · exact pool_served.after (evictUntil_served _ _ l)

theorem countStarved_served {p : Placement} : Served l (countStarved e p l) := by
  unfold countStarved
  split
  · exact addReason_served.after pool_served
  · exact .refl l

theorem emptyList_served : Served l (emptyList b l) := modFrd_served.after pool_served

/-! ## Reads (R131 to R137, R143, R149) -/

theorem evalFaultGate_served {judging : Bool} : Served l (evalFaultGate e judging b l) := by
  simp only [evalFaultGate]
  split
  · exact .refl l
  · exact (gateNotice_passed (Set.mem_univ _)).supplied.served.after modFrd_served

theorem placeFrd_served {f : JobFrame} : Served l (placeFrd b f l) := modBlm_served.after modFrd_served

theorem placeChunk_served : Served l (placeChunk b l) := placeFrd_served.after modFrd_served

theorem startRead_served : Served l (startRead e b l) :=
  placeChunk_served.after (evalFaultGate_served.after (modFrd_served.after (emptyList_served.after modBlm_served)))

theorem endRead_served {judging : Bool} {status : ReadStatus} {cause : AbortCause} :
    Served l (endRead e judging b status cause l) :=
  addBayReason_served.after (evalFaultGate_served.after (modFrd_served.after modBlm_served))

theorem stopRead_served {judging : Bool} {cause : AbortCause} : Served l (stopRead e judging cause b l) := by
  unfold stopRead
  split
  · exact endRead_served
  · exact .refl l

theorem countBlocking_served {block : Bool} : Served l (countBlocking b block l) := by
  unfold countBlocking
  split
  · exact modFrd_served
  · exact .refl l

theorem storeNew_served {x : FaultRecord} : Served l (storeNew e b x l) :=
  countBlocking_served.after (modFrd_served.after (countStarved_served.after placeCells_served))

theorem mergeRecord_served {old x : FaultRecord} : Served l (mergeRecord e b old x l) := by
  simp only [mergeRecord]
  refine countBlocking_served.after ?_
  split
  · exact Served.after modFrd_served pool_served
  · exact Served.after modFrd_served (countStarved_served.after placeCells_served)

theorem storeRecord_served {r : ReadRecord} : Served l (storeRecord e b r l) := by
  unfold storeRecord
  split
  · exact .refl l
  · simp only
    split
    · exact storeNew_served
    · exact mergeRecord_served

theorem completeRecord_served {bytes : List Byte} : Served l (completeRecord e b bytes l) := by
  unfold completeRecord
  split
  · exact .refl l
  · rename_i r _
    have stored := (modFrd_served (b := b) (f := fun c => { c with parsed := c.parsed + 1 })).after
      ((storeRecord_served (e := e) (b := b) (r := r)).after
        (modFrd_served (l := l) (b := b) (f := fun c => { c with partialBytes := [] })))
    simp only
    split
    · exact endRead_served.after stored
    · exact stored

theorem parseRecordByte_served {offset : Nat} {x : Byte} : Served l (parseRecordByte e b offset x l) := by
  simp only [parseRecordByte]
  split
  · exact modFrd_served
  · split
    · exact Served.after endRead_served modFrd_served
    · split
      · refine completeRecord_served.after ?_
        split
        · exact modFrd_served.after modFrd_served
        · exact modFrd_served
      · split
        · exact modFrd_served.after modFrd_served
        · exact modFrd_served

theorem parseByte_served {offset : Nat} {x : Byte} : Served l (parseByte e b offset x l) := by
  unfold parseByte
  split
  · split
    · exact endRead_served
    · split
      · exact .refl l
      · exact endRead_served
  · exact modFrd_served
  · simp only
    split
    · exact Served.after endRead_served modFrd_served
    · split
      · exact Served.after endRead_served modFrd_served
      · exact modFrd_served.after modFrd_served
  · exact parseRecordByte_served

theorem parseBytes_served (offset : Nat) (bytes : List Byte) (l : Live) : Served l (parseBytes e b offset bytes l) := by
  induction bytes generalizing offset l with
  | nil =>
    unfold parseBytes
    split
    · exact endRead_served
    · exact .refl l
  | cons x rest ih =>
    unfold parseBytes
    split
    · exact (ih _ _).after parseByte_served
    · exact .refl l

theorem takeChunk_served {offset : Nat} {bytes : List Byte} : Served l (takeChunk e b offset bytes l) := by
  simp only [takeChunk]
  split
  · exact placeChunk_served.after ((parseBytes_served _ _ _).after modFrd_served)
  · exact (parseBytes_served _ _ _).after modFrd_served

theorem frdCdata_served {offset : Nat} {data : List Byte} : Served l (frdCdata e b offset data l) := by
  simp only [frdCdata]
  split
  · split
    · exact takeChunk_served
    · exact .refl l
  · exact .refl l

theorem frdCdone_served : Served l (frdCdone e b l) := by
  unfold frdCdone
  split
  · exact startRead_served
  · exact .refl l

/-! ## The end of an exchange, alerts, clears (R136, R144 to R148) -/

theorem countAttempt_served {again : Bool} {f : JobFrame} : Served l (countAttempt e b again f l) := by
  simp only [countAttempt]
  split
  · exact Served.after endRead_served modFrd_served
  · split
    · exact placeFrd_served.after modFrd_served
    · exact modFrd_served

theorem countBusy_served {f : JobFrame} : Served l (countBusy e b f l) := by
  simp only [countBusy]
  split
  · exact Served.after endRead_served modFrd_served
  · exact placeFrd_served.after modFrd_served

theorem settleFrd_served {f : JobFrame} {x : ExchangeEnd} : Served l (settleFrd e b f x l) := by
  unfold settleFrd
  split
  · exact countBusy_served
  · exact countAttempt_served
  · exact countAttempt_served
  · exact placeFrd_served
  · exact .refl l

theorem frdExchangeEnd_served {x : ExchangeEnd} : Served l (frdExchangeEnd e b x l) := by
  simp only [frdExchangeEnd]
  split
  · exact settleFrd_served.after modFrd_served
  · exact .refl l

theorem frdPstat_served {alert : Bool} : Served l (frdPstat e b alert l) := by
  unfold frdPstat
  refine modFrd_served.after ?_
  split
  · exact startRead_served
  · exact .refl l

theorem frdOccupied_served : Served l (frdOccupied e b l) := by
  simp only [frdOccupied]
  split
  · exact startRead_served.after (evalFaultGate_served.after modFrd_served)
  · exact evalFaultGate_served.after modFrd_served

theorem clearExpires_served : Served l (clearExpires e b l) := Served.after endRead_served modFrd_served

theorem frdTick_served : Served l (frdTick e l) := by
  refine forBays_served (fun b l => ?_) _
  simp only [frdTickBay]
  split
  · split
    · exact clearExpires_served
    · exact modFrd_served
  · exact .refl l

theorem faultRead_served : Served l (faultRead e b l).2 := by
  unfold faultRead
  split
  · exact startRead_served
  · exact .refl l

theorem faultClear_served : Served l (faultClear e b l).2 := by
  unfold faultClear
  split
  · exact evalFaultGate_served.after (modFrd_served.after placeFrd_served)
  · exact .refl l

theorem faultFlush_served : Served l (faultFlush e b l).2 := by
  unfold faultFlush
  split
  · exact evalFaultGate_served.after (modFrd_served.after emptyList_served)
  · exact .refl l

/-! ## The departure list (R152 to R163) -/

theorem tellBay_supplied {key : Option Nat} : Supplied l (tellBay e b key l) :=
  planNotice_supplied.after (setKey_passed (Set.mem_univ _) (queueIn_univ l)).supplied

theorem bindEntry_served {n : Nat} : Served l (bindEntry e n b l) :=
  judge_served.after (tellBay_supplied.served.after updateEntry_served)

theorem dpcOccupied_served : Served l (dpcOccupied e b l) := by
  unfold dpcOccupied
  split
  · exact bindEntry_served
  · split
    · exact bindEntry_served
    · exact .refl l

theorem depAdd_served {n minute bay : Nat} {coach : Option Nat} {target : Option Int} {gates : GateMask} :
    Served l (depAdd e n minute bay coach target gates l).2 := by
  simp only [depAdd]
  split
  · exact .refl l
  · split
    · exact .refl l
    · split
      · exact .refl l
      · split
        · exact .refl l
        · split
          · exact departures_served _
          · split
            · exact .refl l
            · split
              · exact .refl l
              · exact bindEntry_served.after (departures_served _)

theorem tellStay_supplied {n : DepNames} {x : DepEntry} : Supplied l (tellStay e n b x l) := by
  have keyed : Supplied l (if n.minute.isSome = true then setKey e b (some x.minute) l else l) := by
    split
    · exact (setKey_passed (Set.mem_univ _) (queueIn_univ l)).supplied
    · exact .refl l
  simp only [tellStay]
  split
  · exact planNotice_supplied.after keyed
  · exact keyed

/-- The entry is written, moved in the list where its minute is named (R155). -/
theorem writeNamed_served {n : DepNames} {x y : DepEntry} : Served l
    (if n.minute.isSome = true then { l with departures := insertEntry e y (l.departures.filter fun z => z.id != x.id) }
      else updateEntry x.id (fun _ => y) l) := by
  split
  · exact departures_served _
  · exact updateEntry_served

theorem changeEntry_served {n : DepNames} {x : DepEntry} : Served l (changeEntry e n x l) := by
  simp only [changeEntry]
  split
  · have left {k : Live} (h : Served l k) : Served l (match x.bay with
        | some b => tellBay e b none k
        | none => k) := by
      split
      · exact tellBay_supplied.served.after h
      · exact h
    split
    · exact bindEntry_served.after (left writeNamed_served)
    · exact left writeNamed_served
  · split
    · exact judge_served.after (tellStay_supplied.served.after writeNamed_served)
    · exact writeNamed_served

theorem depChange_served {n : Nat} {names : DepNames} : Served l (depChange e n names l).2 := by
  unfold depChange
  split
  · exact .refl l
  · split
    · exact .refl l
    · split
      · exact .refl l
      · split
        · exact changeEntry_served
        · split
          · exact .refl l
          · split
            · exact .refl l
            · exact changeEntry_served

theorem lockIfReleased_served {x : DepEntry} : Served l (lockIfReleased x l) := by
  unfold lockIfReleased
  split
  · exact setLatch_served
  · exact .refl l

theorem depCancel_served {n : Nat} : Served l (depCancel e n l).2 := by
  unfold depCancel
  split
  · exact .refl l
  · split
    · exact .refl l
    · simp only
      split
      · exact tellBay_supplied.served.after (lockIfReleased_served.after removeEntry_served)
      · exact lockIfReleased_served.after removeEntry_served

theorem releaseEntry_served {x : DepEntry} : Served l (releaseEntry e b x l) :=
  addBayReason_served.after (setLatch_served.after updateEntry_served)

theorem releaseNow_served {n : Nat} : Served l (releaseNow e n l).2 := by
  unfold releaseNow
  split
  · exact .refl l
  · split
    · exact .refl l
    · split
      · exact releaseEntry_served
      · exact .refl l

theorem latchShunt_served : Served l (latchShunt b l).2 := by
  simp only [latchShunt]
  split
  · exact .refl l
  · split
    · exact .refl l
    · exact setLatch_served

theorem latchLock_served : Served l (latchLock b l).2 := by
  simp only [latchLock]
  split
  · exact .refl l
  · split
    · split
      · exact updateEntry_served.after setLatch_served
      · exact setLatch_served
    · exact setLatch_served

theorem expireEntry_served {n : Nat} : Served l (expireEntry e n l) := by
  unfold expireEntry
  split
  · exact .refl l
  · simp only
    split
    · exact lockIfReleased_served.after removeEntry_served
    · exact tellBay_supplied.served.after (addBayReason_served.after (modDpc_served.after
        (lockIfReleased_served.after removeEntry_served)))

theorem judgeAll_served : Served l (judgeAll e l) := forBays_served (fun _ _ => judge_served) _

theorem releaseAll_served : Served l (releaseAll e l) := by
  refine foldl_chain (R := Served) .refl .trans (fun l x => ?_) _ l
  split
  · exact releaseEntry_served
  · exact .refl l

theorem dpcMinute_served : Served l (dpcMinute e l) := by
  have expired : Served l (expireAll e l) := 
    foldl_chain (R := Served) .refl .trans (fun _ _ => expireEntry_served) _ l
  have ordered {k : Live} : Served k (restoreOrder e k) := by
    unfold restoreOrder
    split
    · exact .refl k
    · exact departures_served _
  exact releaseAll_served.after (judgeAll_served.after (ordered.after expired))

theorem settleEntry_served {purpose : Purpose} : Served l (settleEntry e purpose b l) := by
  simp only [settleEntry]
  refine modDpc_served.after (tellBay_supplied.served.after ?_)
  split
  · exact .refl l
  · split
    · exact addBayReason_served.after (modDpc_served.after removeEntry_served)
    · exact addBayReason_served.after (modDpc_served.after updateEntry_served)

/-! ## Samples, office frames and the link (R35, R52, R59 to R65) -/

theorem takeSample_served {flags tag : Byte} {code : Nat} : Served l (takeSample e b flags tag code l) := by
  unfold takeSample
  split
  · split
    · simp only
      split
      · simp only [takeCabin]
        split
        · exact cabinSample_supplied.served.after modScv_served
        · exact .refl l
      · exact lampSample_supplied.served
    · exact .refl l
  · exact sampleRejects_served

theorem scvMinute_served : Served l (scvMinute e l) := by
  refine forBays_served (fun b l => ?_) _
  simp only [ageBay]
  split
  · exact cabinStaleOnset_supplied.served.after modScv_served
  · exact modScv_served

theorem offerForward_served {toward counted : Port} {f : TrunkFrame} : Served l (offerForward toward counted f l) := by
  unfold offerForward
  split
  · exact modTsw_served
  · exact modTsw_served

theorem sendUp_served {f : OfficeFrame} : Served l (sendUp e b f l) := by
  unfold sendUp
  split
  · exact offerForward_served
  · exact .refl l

theorem goSilent_served : Served l (goSilent e b l) :=
  judge_served.after (stopRead_served.after (stopSweep_supplied.served.after (addBayReason_served.after modBlm_served)))

theorem linkReturn_served {was : Link} : Served l (linkReturn e was b l) := by
  unfold linkReturn
  cases was
  · exact modBlm_served
  · exact .refl l
  · exact addBayReason_served.after modBlm_served

/-- What DPC, PHP, FAL and FRD do with a PSTAT behind BTB. -/
theorem pstatBehindBtb_served {p : Pstat} : Served l
    (frdPstat e b p.alert (falPstat e b p.contactorClosed (phpPstat b p.heaterOn (dpcPstat e b p.latchReleased l)))) :=
  frdPstat_served.after (falPstat_supplied.served.after ((phpPstat_passed (Set.mem_univ _)).supplied.served.after
    (dpcPstat_passed (Set.mem_univ _)).supplied.served))

end Sys2Proof.Machine

namespace Sys2Proof.Machine

/-! ## Settling a part that has nothing to do -/

/-- With idle transmitters, no request and no report waiting, and the walk halted, the part does nothing of itself. -/
theorem settle_at_rest (d : Dev) (htd : d.live.tsw.tdQueue = []) (htu : d.live.tsw.tuQueue = [])
    (hmgu : d.live.mgu.queue = []) (hmrsp : d.live.mgu.mrsp = none) (hring : d.live.reports.ring = [])
    (hwalk : walkRuns d.env d.live = false) : settle d = d := by
  have td : grantTd d = d := by
    unfold grantTd
    split
    · simp_all
    · rfl
  have choice : arbiterChoice d = none := by simp [arbiterChoice, laneWaits, htu, hmrsp, hring]
  have tu : grantTu d = d := by
    unfold grantTu
    rw [choice]
    split <;> simp_all
  have mgu : runMgu d = d := by simp [runMgu, hmgu]
  have slot : d.act beginSlot = d := by simp [Dev.act, beginSlot, hwalk]
  rw [settle, td, tu, mgu, tu, slot]

/-- A part just reset has nothing to do: the loader holds the walk, or the part has no address. -/
theorem settle_reset (straps : Straps) : settle (Dev.reset straps) = Dev.reset straps := by
  apply settle_at_rest
  · rfl
  · rfl
  · rfl
  · rfl
  · rfl
  · cases h : straps.addressed <;> simp [walkRuns, Dev.reset, Env.reset, h, Loader.start]

/-- Every bay of the first live state holds the reset record. -/
theorem bay_resetBays (l : Live) (h : l.bays = resetBays) (b : Bay) : l.bay b = BayRec.reset := by
  simp [Live.bay, h, resetBays]

theorem untestedMap_get (i : Fin 96) : untestedMap.get i = .notTested := by simp [untestedMap, Vector.get_eq_getElem]

/-- Settles O3: both resets leave the reset record in every bay, and settling changes nothing of it. -/
theorem resetsLeaveTheBayRecords : Obligations.ResetsLeaveTheBayRecords := by
  intro row endOfTrunk memSize s
  refine ⟨{ s with dev := settle (Dev.reset ⟨row, endOfTrunk, memSize⟩) }, rfl, rfl, fun b => ?_⟩
  have hb : (settle (Dev.reset ⟨row, endOfTrunk, memSize⟩)).live.bay b = BayRec.reset := by
    rw [settle_reset]
    exact bay_resetBays _ rfl b
  simp only [State.bay, hb]
  exact ⟨rfl, rfl, rfl, rfl, rfl, untestedMap_get, rfl, rfl, rfl, rfl, rfl, rfl, rfl, rfl, rfl, rfl, rfl, rfl, rfl, rfl, rfl, rfl, rfl, rfl,
    rfl, rfl, rfl, rfl, rfl, rfl, rfl, rfl, rfl, rfl, rfl, rfl, rfl, rfl, rfl⟩

/-- Settles O5: a power-on reset with the straps of the first state leads back to it, and each law is evaluated there. -/
theorem theFirstStateIsPowerOnReset : Obligations.TheFirstStateIsPowerOnReset := by
  have hreset : exec (.powerOnReset 1 false 0) State.reset = .next State.reset := by
    simp only [exec, execPowerOnReset, State.after, settle_reset]
    rfl
  have howner (b : Bay) : ownerLaw (State.reset.bay b) = true := by
    rw [State.bay, bay_resetBays _ rfl b]
    decide
  refine ⟨hreset, ?_, ?_, ?_, ?_, ?_, ?_, ?_, howner⟩ <;> decide +kernel

/-! ## Operations executed at once -/

/-- An operation submitted to a ready part is answered with the status and the live state it comes to. -/
theorem submit_answers {s : State} (tag : Byte) {m : MgmtOp} {status : Status} {l : Live} (hr : ready s = true)
    (hp : parseOperation m.code m.params = some m) (hm : m.run s.dev = (status, [], { s.dev with live := l })) :
    submit (m.payload tag) s = s.answers tag m.code status l := by
  rw [submit_ready s tag m hr hp, hm]
  rfl

/-- Settles O35: a bay number outside 1 to 16 names no bay, so the operation is answered RANGE on the part as it stands. -/
theorem bayNumbersOutOfRangeAreRefused : Obligations.BayNumbersOutOfRangeAreRefused := by
  intro s tag bay gf gl pf pl order hr hb
  have h : bay.toNat = 0 ∨ 16 < bay.toNat := hb.imp_left fun h => by rw [h]; rfl
  have refused {m : MgmtOp} (hp : parseOperation m.code m.params = some m) (hm : m.run s.dev = (.range, [], s.dev)) :
      submit (m.payload tag) s = s.answers tag m.code .range s.live := submit_answers tag hr hp hm
  simp only [exec, execIdent, execLampCheck, execLampStop, execFaultRead, execFaultClear, execFaultFlush, execLatchShunt,
    execLatchLock, execBayEnable, execBayDisable, Host.Outcome.next.injEq]
  refine ⟨refused rfl ?_, refused rfl ?_, refused rfl ?_, refused rfl ?_, refused rfl ?_, refused rfl ?_, refused rfl ?_,
    refused rfl ?_, refused rfl ?_, refused rfl ?_⟩ <;> simp only [MgmtOp.run, onBay_out_of_range bay h]

/-! ## Identification and its end (R4, R9) -/

/-- A reason added behind a change of a record is added before it. -/
theorem addBayReason_modBay (e : Env) (b c : Bay) (r : Reason) (l : Live) (f : BayRec → BayRec) :
    (addBayReason e b r l).modBay c f = addBayReason e b r (l.modBay c f) := rfl

/-- With no claim waiting, BTB's withdrawal leaves the slot empty where it held BTB's frame or nothing. -/
theorem withdraw_btb (m : BlmPart) (hl : m.claimLsw = none) (hf : m.claimFrd = none)
    (hj : ∀ j : JobInSlot, m.job = some j → j.frame = .ident) : m.withdraw .btb = { m with job := none } := by
  cases h : m.job with
  | none =>
    rw [withdraw_empty _ _ h]
    simp [BlmPart.dropClaim, ← h]
  | some j => simp [BlmPart.withdraw, BlmPart.dropClaim, h, hj j h, JobFrame.owner, BlmPart.emptySlot, BlmPart.refill, hl, hf,
      holderAfter]

/-- A slot that holds nothing but an IDENT holds one after IDENT is placed, and the one that stood there stays. -/
theorem placeIdent_eq (b : Bay) (l : Live) (hj : ∀ j : JobInSlot, (l.bay b).blm.job = some j → j.frame = .ident) :
    placeIdent b l = l.modBlm b fun m => { m with job := some (m.job.getD ⟨.ident, false⟩) } := by
  cases h : (l.bay b).blm.job with
  | none =>
    simp only [placeIdent, h, placeJob, modBlm_eq]
    exact modBay_congr _ _ _ _ (by simp [place_empty _ _ h, h])
  | some j =>
    obtain ⟨frame, sent⟩ := j
    obtain rfl : frame = .ident := hj _ h
    have stands : some ((l.bay b).blm.job.getD ⟨.ident, false⟩) = (l.bay b).blm.job := by rw [h]; rfl
    simp only [placeIdent, h, modBlm_eq]
    exact (modBay_id _ _ _ (by rw [stands])).symm

/-- Settles O26: the row is the end of identification of R4, and nothing but an IDENT can stand in the slot. -/
theorem identificationGivesUp : Obligations.IdentificationGivesUp := by
  intro s b ha hocc hfail hdup hl hf hj
  have hid : identifying (s.live.bay b).btb = true := by
    simp only [State.bay] at hocc hfail hdup
    simp [identifying, State.live, hocc, hfail, hdup]
  have hw : (s.live.bay b).blm.withdraw .btb = { (s.live.bay b).blm with job := none } := withdraw_btb _ hl hf hj
  have given : giveUpIdent s.dev.env b s.live = addBayReason s.dev.env b .ident (s.live.modBay b fun x =>
      { x with btb := { x.btb with attempts := 3, identFailed := true }, blm := { x.blm with job := none } }) := by
    simp only [giveUpIdent, withdrawJob, modBtb_eq, modBlm_eq, addBayReason_modBay, modBay_modBay]
    refine congrArg _ (modBay_congr _ _ _ _ ?_)
    simp [Function.comp, hw]
  rw [← given]
  have ha' : s.dev.env.straps.addressed = true := ha
  have hid' : identifying (s.dev.live.bay b).btb = true := hid
  simp only [exec, execIdentFailed, State.after, event, whenAddressed, ha', Dev.act, hid', if_true]
  rfl

/-- Settles O36: BTB's answer is IDENT's, by the bay's occupancy. -/
theorem identBeginsIdentificationAfresh : Obligations.IdentBeginsIdentificationAfresh := by
  intro s tag bay hr
  refine ⟨fun b hb hocc hj => ?_, fun b hb hocc => ?_, fun h => ?_⟩ <;> refine congrArg Host.Outcome.next ?_
  · refine submit_answers (m := .ident bay) tag hr rfl ?_
    simp only [MgmtOp.run, onBay_of_number bay b hb]
    have hocc' : (s.dev.live.bay b).btb.occupancy = .plugged := hocc
    simp only [ident, hocc', beginIdent, if_true]
    rw [placeIdent_eq _ _ (by simpa [State.bay] using hj)]
    simp only [modBtb_eq, modBlm_eq, modBay_modBay]
    rfl
  · refine submit_answers (m := .ident bay) tag hr rfl ?_
    simp only [MgmtOp.run, onBay_of_number bay b hb]
    have hocc' : ¬ (s.dev.live.bay b).btb.occupancy = .plugged := hocc
    simp only [ident, hocc', if_false]
    rfl
  · refine submit_answers (m := .ident bay) tag hr rfl ?_
    simp only [MgmtOp.run, onBay_out_of_range bay h]
    rfl

/-! ## Disabling and enabling (R14, R15) -/

/-- Without an exchange of the bay in flight there is none to drop. -/
theorem dropExchange_none (b : Bay) (l : Live)
    (h : ∀ (sent : SentFrame) (timeout : Nat), l.walk.slot ≠ some ⟨.exchange b sent, timeout, .counts⟩) :
    dropExchange b l = l := by
  unfold dropExchange
  split
  · rename_i c sent t hs
    by_cases hc : c = b
    · exact absurd (hc ▸ hs) (h sent t)
    · simp [hc]
  · rfl

/-- Settles O37: both operations, by the bay's occupancy and the entry bound to it. -/
theorem baysAreDisabledAndEnabled : Obligations.BaysAreDisabledAndEnabled := by
  refine ⟨fun s tag bay b hr hb => ⟨fun hocc => ?_, fun hocc hbound => ?_, fun hocc hbound hslot => ?_⟩,
    fun s tag bay b hr hb => ⟨fun hocc => ?_, fun hocc => ?_⟩⟩ <;> refine congrArg Host.Outcome.next ?_
  · refine submit_answers (m := .bayDisable bay) tag hr rfl ?_
    simp only [MgmtOp.run, onBay_of_number bay b hb]
    have h : (s.dev.live.bay b).btb.occupancy = .plugged ∨ (s.dev.live.bay b).btb.occupancy = .occupied ∨
      (s.dev.live.bay b).btb.occupancy = .disabled := hocc
    simp only [bayDisable, h, if_true]
    rfl
  · refine submit_answers (m := .bayDisable bay) tag hr rfl ?_
    simp only [MgmtOp.run, onBay_of_number bay b hb]
    have h : ¬ ((s.dev.live.bay b).btb.occupancy = .plugged ∨ (s.dev.live.bay b).btb.occupancy = .occupied ∨
      (s.dev.live.bay b).btb.occupancy = .disabled) := by
      simp only [State.bay] at hocc
      rcases hocc with hocc | hocc <;> simp [hocc]
    have hbound' : (boundEntry s.dev.live b).isSome = true := hbound
    simp only [bayDisable, h, hbound', if_true, if_false]
    rfl
  · refine submit_answers (m := .bayDisable bay) tag hr rfl ?_
    simp only [MgmtOp.run, onBay_of_number bay b hb]
    have h : ¬ ((s.dev.live.bay b).btb.occupancy = .plugged ∨ (s.dev.live.bay b).btb.occupancy = .occupied ∨
      (s.dev.live.bay b).btb.occupancy = .disabled) := by
      simp only [State.bay] at hocc
      rcases hocc with hocc | hocc <;> simp [hocc]
    have hbound' : ¬ (boundEntry s.dev.live b).isSome = true := by
      simp only [State.live] at hbound
      simp [hbound]
    simp only [bayDisable, h, hbound', performDisable, if_false]
    rw [dropExchange_none _ _ (by simpa [State.live] using hslot)]
    simp only [modBtb_eq, modBlm_eq, modScv_eq, modBay_modBay]
    rfl
  · refine submit_answers (m := .bayEnable bay) tag hr rfl ?_
    simp only [MgmtOp.run, onBay_of_number bay b hb]
    have h : (s.dev.live.bay b).btb.occupancy = .disabled := hocc
    simp only [bayEnable, h, if_true, modBtb_eq, modBlm_eq, modBay_modBay]
    rfl
  · refine submit_answers (m := .bayEnable bay) tag hr rfl ?_
    simp only [MgmtOp.run, onBay_of_number bay b hb]
    have h : ¬ (s.dev.live.bay b).btb.occupancy = .disabled := hocc
    simp only [bayEnable, h, if_false]
    rfl

/-! ## Resets of the row and the cache's hold time -/

/-- Settles O49: ROW RESET and RELOAD as operations of the row, written out. -/
theorem rowResetClearsAndReloadStarts : Obligations.RowResetClearsAndReloadStarts := by
  refine ⟨fun s tag hr => ?_, fun s tag hr => ?_⟩ <;> refine congrArg Host.Outcome.next ?_
  · have reports : State.reset.live.reports = Reports.reset := rfl
    have bays : State.reset.live.bays = resetBays := rfl
    rw [reports, bays]
    exact submit_answers (m := .rowReset) tag hr rfl rfl
  · exact (submit_answers (m := .reload) (status := .done) (l := startReload s.live) tag hr rfl rfl).trans rfl

/-- Settles O30: a slot is due for eviction when its age exceeds the hold time, or when there is no hold time. -/
theorem expiredSlotsLeaveTheCache : Obligations.ExpiredSlotsLeaveTheCache := by
  intro s ha
  have due (x : ParkedSlot) : slotExpired s.dev.env x = (decide (s.dev.env.params.holdTime = 0) ||
      decide ((s.dev.env.params.holdTime : Int) < distance s.dev.env.clock.minute x.parkedMinute)) := by
    rw [slotExpired, Bool.or_comm]
    rfl
  have stays (x : ParkedSlot) : (!slotExpired s.dev.env x) = (decide (s.dev.env.params.holdTime ≠ 0) &&
      decide (distance s.dev.env.clock.minute x.parkedMinute ≤ s.dev.env.params.holdTime)) := by
    simp only [due, Bool.not_or, ← decide_not, Int.not_lt, ne_eq]
  have ha' : s.dev.env.straps.addressed = true := ha
  simp only [← due, ← stays]
  simp only [exec, execParkedSlotExpiry, State.after, event, whenAddressed, ha', Dev.act, if_true]
  rfl

end Sys2Proof.Machine

/-! # The coaches stay apart (R5, R16, R20)

Nearly every operation lets no coach join: a bay that is OCCUPIED after it was so before, by the same coach, and the cache gains no
slot. A coach joins in two places only: an accepted identity, after its slot has left the cache, and a parked coach, as its bay
becomes VACANT. -/
namespace Sys2Proof.Machine

variable {e : Env} {b : Bay} {l l' l'' : Live} {d : Dev} {s : State}

/-! ## The laws as a statement about bays and slots -/

/-- A bay is OCCUPIED. -/
def occupiedBay (l : Live) (b : Bay) : Prop := (l.bay b).btb.occupancy = .occupied

/-- R5, R16: what `coachLaw` and `cacheLaw` say, bay by bay and slot by slot. -/
structure CoachesApart (l : Live) : Prop where
  bays : ∀ b c, occupiedBay l b → occupiedBay l c → (l.bay b).btb.coach = (l.bay c).btb.coach → b = c
  room : l.cache.length ≤ Config.cacheMax
  slots : (l.cache.map (·.coach)).Nodup
  apart : ∀ x ∈ l.cache, ∀ b, occupiedBay l b → (l.bay b).btb.coach ≠ x.coach

theorem toList_eq_map_bay (l : Live) : l.bays.toList = allBays.map l.bay := by
  apply List.ext_getElem
  · simp [allBays]
  · intro i h1 h2
    simp [allBays, Live.bay]

theorem occupiedCoaches_eq (l : Live) : occupiedCoaches l =
    (allBays.filter fun b => (l.bay b).btb.occupancy == .occupied).map fun b => (l.bay b).btb.coach := by
  rw [occupiedCoaches, toList_eq_map_bay, List.filter_map, List.map_map]
  rfl

theorem mem_occupiedCoaches (l : Live) (n : Nat) :
    n ∈ occupiedCoaches l ↔ ∃ b, occupiedBay l b ∧ (l.bay b).btb.coach = n := by
  simp [occupiedCoaches_eq, allBays, occupiedBay]

theorem coachesApart_iff (l : Live) : CoachesApart l ↔ coachLaw l = true ∧ cacheLaw l = true := by
  have nodup : (allBays.filter fun b => (l.bay b).btb.occupancy == .occupied).Nodup := (List.nodup_finRange 16).filter _
  have hcoach : coachLaw l = true ↔
      ∀ b c, occupiedBay l b → occupiedBay l c → (l.bay b).btb.coach = (l.bay c).btb.coach → b = c := by
    rw [coachLaw, decide_eq_true_iff, occupiedCoaches_eq, List.nodup_map_iff_inj_on nodup]
    simp only [List.mem_filter, allBays, List.mem_finRange, true_and, beq_iff_eq, occupiedBay]
    exact ⟨fun h b c hb hc => h b hb c hc, fun h b hb c hc => h b c hb hc⟩
  have hcache : cacheLaw l = true ↔ l.cache.length ≤ Config.cacheMax ∧ (l.cache.map (·.coach)).Nodup ∧
      ∀ x ∈ l.cache, ∀ b, occupiedBay l b → (l.bay b).btb.coach ≠ x.coach := by
    simp [cacheLaw, mem_occupiedCoaches, and_assoc]
  rw [hcoach, hcache]
  exact ⟨fun h => ⟨h.bays, h.room, h.slots, h.apart⟩, fun ⟨hb, hr, hs, ha⟩ => ⟨hb, hr, hs, ha⟩⟩

/-! ## No coach joins -/

/-- No bay becomes OCCUPIED or changes its coach while it is, and no slot joins the cache. -/
structure NoCoachJoins (l l' : Live) : Prop where
  bays : ∀ b, occupiedBay l' b → occupiedBay l b ∧ (l'.bay b).btb.coach = (l.bay b).btb.coach
  cache : l'.cache.Sublist l.cache

theorem NoCoachJoins.refl (l : Live) : NoCoachJoins l l := ⟨fun _ h => ⟨h, rfl⟩, .refl _⟩

theorem NoCoachJoins.trans (h : NoCoachJoins l l') (h' : NoCoachJoins l' l'') : NoCoachJoins l l'' := by
  refine ⟨fun b hb => ?_, h'.cache.trans h.cache⟩
  obtain ⟨hb', hc'⟩ := h'.bays b hb
  obtain ⟨hb, hc⟩ := h.bays b hb'
  exact ⟨hb, hc'.trans hc⟩

theorem NoCoachJoins.after (h' : NoCoachJoins l' l'') (h : NoCoachJoins l l') : NoCoachJoins l l'' := h.trans h'

/-- Bays and cache stand. -/
theorem NoCoachJoins.of_eq (hb : l'.bays = l.bays) (hc : l'.cache = l.cache) : NoCoachJoins l l' := by
  have bay (b : Bay) : l'.bay b = l.bay b := by simp [Live.bay, hb]
  exact ⟨fun b h => by simpa [occupiedBay, bay] using h, by rw [hc]⟩

theorem Served.joins (h : Served l l') : NoCoachJoins l l' := by
  refine ⟨fun b hb => ?_, h.cache⟩
  obtain ⟨p, hp⟩ := (h.bays b).btb
  exact ⟨by simpa [occupiedBay, hp] using hb, by rw [hp]⟩

theorem Supplied.joins (h : Supplied l l') : NoCoachJoins l l' := h.served.joins

/-- BTB writes a bay that is not OCCUPIED then, or that was and keeps its coach. -/
theorem modBtb_joins {f : BtbPart → BtbPart} (h : (f (l.bay b).btb).occupancy = .occupied →
    (l.bay b).btb.occupancy = .occupied ∧ (f (l.bay b).btb).coach = (l.bay b).btb.coach) : NoCoachJoins l (l.modBtb b f) := by
  refine ⟨fun c hc => ?_, .refl _⟩
  by_cases hcb : c = b
  · subst hcb
    simpa [occupiedBay] using h (by simpa [occupiedBay] using hc)
  · simpa [occupiedBay, hcb] using hc

theorem forBays_joins {f : Bay → Live → Live} (step : ∀ b l, NoCoachJoins l (f b l)) (bays : List Bay) :
    NoCoachJoins l (forBays bays f l) := foldl_chain .refl .trans (fun l b => step b l) bays l

theorem act_joins {f : Env → Live → Live} (h : NoCoachJoins l d.live) (hf : ∀ e l, NoCoachJoins l (f e l)) :
    NoCoachJoins l (d.act f).live := h.trans (hf _ _)

/-- The laws last while no coach joins. -/
theorem CoachesApart.mono (h : CoachesApart l) (hj : NoCoachJoins l l') : CoachesApart l' := by
  refine ⟨fun b c hb hc heq => ?_, hj.cache.length_le.trans h.room, h.slots.sublist (hj.cache.map _), fun x hx b hb => ?_⟩
  · obtain ⟨hb, hcb⟩ := hj.bays b hb
    obtain ⟨hc, hcc⟩ := hj.bays c hc
    exact h.bays b c hb hc (by rw [← hcb, ← hcc, heq])
  · obtain ⟨hb, hcb⟩ := hj.bays b hb
    rw [hcb]
    exact h.apart x (hj.cache.subset hx) b hb

/-! ## Identification (R3 to R9, R14, R15) -/

theorem placeIdent_served : Served l (placeIdent b l) := by
  unfold placeIdent
  split
  · exact .refl l
  · exact modBlm_served

theorem beginIdent_joins (h : (l.bay b).btb.occupancy ≠ .occupied) : NoCoachJoins l (beginIdent b l) :=
  placeIdent_served.joins.after (modBtb_joins fun hocc => absurd hocc h)

theorem giveUpIdent_joins : NoCoachJoins l (giveUpIdent e b l) :=
  modBlm_served.joins.after (addBayReason_served.joins.after (modBtb_joins fun h => ⟨h, rfl⟩))

theorem btbExchangeEnd_joins {carried : Bool} : NoCoachJoins l (btbExchangeEnd e b carried l) := by
  simp only [btbExchangeEnd]
  split
  · split
    · exact giveUpIdent_joins
    · exact placeIdent_served.joins.after (modBtb_joins fun h => ⟨h, rfl⟩)
  · exact .refl l

theorem markDuplicate_joins {coach : Nat} {profile : Fin 8} (h : (l.bay b).btb.occupancy = .plugged) :
    NoCoachJoins l (markDuplicate e b coach profile l) :=
  modBlm_served.joins.after (addBayReason_served.joins.after (modBtb_joins fun hocc => by simp [h] at hocc))

theorem plugIn_joins : NoCoachJoins l (plugIn e b l) := by
  have plugged : NoCoachJoins l (addBayReason e b .plug (l.modBtb b fun r => { r with occupancy := .plugged })) :=
    addBayReason_served.joins.after (modBtb_joins fun h => by simp at h)
  exact plugged.trans (beginIdent_joins (by simp [addBayReason]))

theorem ident_joins : NoCoachJoins l (ident b l).2 := by
  unfold ident
  split
  · rename_i h
    exact beginIdent_joins (by simp [h])
  · exact .refl l

theorem bayDisable_joins : NoCoachJoins l (bayDisable b l).2 := by
  simp only [bayDisable]
  split
  · exact .refl l
  · split
    · exact .refl l
    · have dropped {k : Live} : NoCoachJoins k (dropExchange b k) := by
        unfold dropExchange
        split
        · split
          · exact .of_eq rfl rfl
          · exact .refl k
        · exact .refl k
      exact dropped.after (modScv_served.joins.after ((modBtb_joins fun h => by simp at h).after modBlm_served.joins))

theorem bayEnable_joins : NoCoachJoins l (bayEnable b l).2 := by
  unfold bayEnable
  split
  · dsimp only
    exact modBlm_served.joins.after (modBtb_joins fun h => by simp at h)
  · exact .refl l

theorem expireSlots_joins : NoCoachJoins l (expireSlots e l) :=
  ⟨fun _ h => ⟨h, rfl⟩, List.filter_sublist⟩

/-! ## An identity is accepted (R5, R6, R20) -/

/-- A coach that no other OCCUPIED bay and no slot holds enters a bay. -/
theorem CoachesApart.occupy (h : CoachesApart l) {coach : Nat} {f : BtbPart → BtbPart} (hf : (f (l.bay b).btb).coach = coach)
    (others : ∀ c, c ≠ b → occupiedBay l c → (l.bay c).btb.coach ≠ coach) (slots : ∀ x ∈ l.cache, x.coach ≠ coach) :
    CoachesApart (l.modBtb b f) := by
  have self : ((l.modBtb b f).bay b).btb.coach = coach := by simpa using hf
  have other (c : Bay) (hc : c ≠ b) : (l.modBtb b f).bay c = l.bay c := bay_modBtb_ne f hc
  refine ⟨fun c c' hc hc' heq => ?_, h.room, h.slots, fun x hx c hc => ?_⟩
  · by_cases hcb : c = b <;> by_cases hcb' : c' = b
    · rw [hcb, hcb']
    · subst hcb
      simp only [occupiedBay, other c' hcb'] at hc'
      rw [self, other c' hcb'] at heq
      exact absurd heq.symm (others c' hcb' hc')
    · subst hcb'
      simp only [occupiedBay, other c hcb] at hc
      rw [self, other c hcb] at heq
      exact absurd heq (others c hcb hc)
    · simp only [occupiedBay, other c hcb, other c' hcb'] at hc hc' heq
      exact h.bays c c' hc hc' heq
  · by_cases hcb : c = b
    · subst hcb
      rw [self]
      exact (slots x hx).symm
    · simp only [occupiedBay, other c hcb] at hc ⊢
      exact h.apart x hx c hc

/-- What heldElsewhere denies. -/
theorem heldElsewhere_false (coach : Nat) : heldElsewhere l b coach = false ↔
    ∀ c, c ≠ b → occupiedBay l c → (l.bay c).btb.coach ≠ coach := by
  simp [heldElsewhere, allBays, occupiedBay]

/-- The slot of a coach has left a cache whose slots have distinct coaches. -/
theorem coach_ne_of_mem_eraseP {coach : Nat} {xs : List ParkedSlot} (h : (xs.map (·.coach)).Nodup) :
    ∀ x ∈ xs.eraseP fun y => y.coach == coach, x.coach ≠ coach := by
  induction xs with
  | nil => simp
  | cons y ys ih =>
    obtain ⟨hy, hys⟩ := List.nodup_cons.1 h
    intro x hx
    by_cases hyc : y.coach = coach
    · rw [List.eraseP_cons_of_pos (by simpa using hyc)] at hx
      exact fun hxc => hy (List.mem_map.2 ⟨x, hx, hxc.trans hyc.symm⟩)
    · rw [List.eraseP_cons_of_neg (by simpa using hyc)] at hx
      rcases List.mem_cons.1 hx with rfl | hx
      · exact hyc
      · exact ih hys x hx

/-- The slot of an accepted coach leaves the cache, its results diverted to the bay or lost (R19, R20). -/
theorem lookUpCoach_served {coach : Nat} {profile : Fin 8} : Served l (lookUpCoach b coach profile l).1 := by
  have gone (n : Nat) (p : Pool) : Served l { l with cache := l.cache.eraseP (fun y => y.coach == n), pool := p } :=
    ⟨fun _ => .refl _, rfl, rfl, List.eraseP_sublist⟩
  unfold lookUpCoach
  split
  · exact .refl l
  · split
    · dsimp only [divertSlot]
      exact modFrd_served.after (modLsw_supplied.served.after (gone _ _))
    · dsimp only [evictCoach]
      split
      · exact .refl l
      · exact gone _ _

/-- After the accepted coach has been looked up no slot holds it. -/
theorem lookUpCoach_gone {coach : Nat} {profile : Fin 8} (h : (l.cache.map (·.coach)).Nodup) :
    ∀ x ∈ (lookUpCoach b coach profile l).1.cache, x.coach ≠ coach := by
  have erased : ∀ y ∈ l.cache.eraseP fun y => y.coach == coach, y.coach ≠ coach := coach_ne_of_mem_eraseP h
  cases hf : l.cache.find? fun x => x.coach == coach with
  | none =>
    simp only [lookUpCoach, hf]
    exact fun x hx hxc => by simpa [hxc] using List.find?_eq_none.1 hf x hx
  | some x =>
    have hxc : x.coach = coach := by simpa using List.find?_some hf
    simp only [lookUpCoach, hf]
    split
    · simp only [divertSlot, hxc]
      exact erased
    · simp only [evictCoach, hf]
      exact erased

/-- R6 steps 1 to 3: the accepted identity is written and BTB's frame withdrawn; the bay is still PLUGGED. -/
def identityWritten (b : Bay) (coach : Nat) (profile : Fin 8) (l : Live) : Live :=
  withdrawJob b .btb (l.modBtb b fun r => { r with coach := coach, profile := profile, dupCoach := false, identFailed := false })

/-- Once the coach has been looked up and the bay is OCCUPIED, the blocks told of it leave it (R6). -/
theorem acceptIdentity_served (e : Env) (b : Bay) (coach : Nat) (profile : Fin 8) (l : Live) :
    Served ((lookUpCoach b coach profile (identityWritten b coach profile l)).1.modBtb b fun r =>
        { r with occupancy := .occupied, profileMissing := !e.tables.profiles[profile].valid })
      (acceptIdentity e b coach profile l) :=
  frdOccupied_served.after (lswOccupied_supplied.served.after (dpcOccupied_served.after
    (requestShare_supplied.served.after addBayReason_served)))

theorem acceptIdentity_apart {coach : Nat} {profile : Fin 8} (h : CoachesApart l) (hplug : (l.bay b).btb.occupancy = .plugged)
    (hfree : heldElsewhere l b coach = false) : CoachesApart (acceptIdentity e b coach profile l) := by
  have written : NoCoachJoins l (identityWritten b coach profile l) :=
    modBlm_served.joins.after (modBtb_joins fun hocc => by simp [hplug] at hocc)
  have looked := lookUpCoach_served (b := b) (coach := coach) (profile := profile) (l := identityWritten b coach profile l)
  have gone := lookUpCoach_gone (b := b) (coach := coach) (profile := profile) (h.mono written).slots
  refine (CoachesApart.occupy (coach := coach) (h.mono (written.trans looked.joins)) ?_ (fun c hc hocc => ?_) gone).mono
    (acceptIdentity_served e b coach profile l).joins
  · obtain ⟨p, held⟩ := (looked.bays b).btb
    dsimp only
    rw [held]
    simp [identityWritten, withdrawJob]
  · obtain ⟨hocc, hcoach⟩ := (written.trans looked.joins).bays c hocc
    rw [hcoach]
    exact (heldElsewhere_false coach).1 hfree c hc hocc

theorem takeIdrp_apart {coach : Nat} {profile : Fin 8} (h : CoachesApart l) : CoachesApart (takeIdrp e b coach profile l) := by
  unfold takeIdrp
  split
  · rename_i hplug
    split
    · exact h
    · split
      · exact h.mono (markDuplicate_joins hplug)
      · rename_i hfree
        exact acceptIdentity_apart h hplug (by simpa using hfree)
  · exact h

/-! ## A coach is parked (R10, R11, R16) -/

theorem bay_vacate_self : ((vacate e b l).bay b).btb.occupancy = .vacant := by simp [vacate, addBayReason]

theorem btb_vacate_ne {c : Bay} (hc : c ≠ b) : ((vacate e b l).bay c).btb = (l.bay c).btb := by
  simp [vacate, addBayReason, hc]

theorem vacate_joins : NoCoachJoins l (vacate e b l) :=
  addBayReason_served.joins.after (modScv_served.joins.after (modFrd_served.joins.after (modLsw_supplied.joins.after
    (modBtb_joins fun h => by simp at h))))

/-- The slot of an OCCUPIED bay joins a cache with room as the bay becomes VACANT. -/
theorem CoachesApart.park (h : CoachesApart l) (hj : NoCoachJoins l l') (hocc : occupiedBay l b) (hgone : ¬ occupiedBay l'' b)
    (hbays : ∀ c, c ≠ b → (l''.bay c).btb = (l'.bay c).btb) {x : ParkedSlot} (hx : x.coach = (l.bay b).btb.coach)
    (hcache : l''.cache = l'.cache ++ [x]) (hroom : l'.cache.length < Config.cacheMax) : CoachesApart l'' := by
  have kept := h.mono hj
  have same (c : Bay) (hc : occupiedBay l'' c) : c ≠ b ∧ occupiedBay l' c ∧ (l''.bay c).btb.coach = (l'.bay c).btb.coach := by
    have hcb : c ≠ b := fun hcb => hgone (hcb ▸ hc)
    exact ⟨hcb, by simpa [occupiedBay, hbays c hcb] using hc, by rw [hbays c hcb]⟩
  refine ⟨fun c c' hc hc' heq => ?_, by simpa [hcache] using hroom, ?_, fun y hy c hc => ?_⟩
  · obtain ⟨-, hc, hcoach⟩ := same c hc
    obtain ⟨-, hc', hcoach'⟩ := same c' hc'
    exact kept.bays c c' hc hc' (by rw [← hcoach, ← hcoach', heq])
  · rw [hcache, List.map_append, List.nodup_append]
    refine ⟨kept.slots, by simp, fun n hn m hm hnm => ?_⟩
    obtain ⟨y, hy, rfl⟩ := List.mem_map.1 hn
    obtain rfl : m = x.coach := by simpa using hm
    exact h.apart y (hj.cache.subset hy) b hocc (by rw [hnm, hx])
  · obtain ⟨hcb, hc, hcoach⟩ := same c hc
    rw [hcoach]
    rcases List.mem_append.1 (hcache ▸ hy) with hy | hy
    · exact kept.apart y hy c hc
    · obtain rfl : y = x := by simpa using hy
      obtain ⟨hc, hcoach⟩ := hj.bays c hc
      rw [hcoach, hx]
      exact fun heq => hcb (h.bays c b hc hocc heq)

/-- The oldest slot leaves a full cache, so that there is room for one. -/
theorem evictForRoom (h : CoachesApart l) :
    Served l (if Config.cacheMax ≤ l.cache.length then evictOldest l else l) ∧
      (if Config.cacheMax ≤ l.cache.length then evictOldest l else l).cache.length < Config.cacheMax := by
  have hroom := h.room
  split
  · rename_i hfull
    refine ⟨evictOldest_served, ?_⟩
    cases hc : l.cache with
    | nil => simp [hc, Config.cacheMax] at hfull
    | cons x rest =>
      simp only [hc, List.length_cons] at hroom
      simpa [evictOldest, hc, freeCells] using hroom
  · exact ⟨.refl l, by omega⟩

theorem parkAndVacate_apart {purpose : Purpose} (h : CoachesApart l) :
    CoachesApart (vacate e b (parkOrForget e purpose b l)) := by
  unfold parkOrForget
  split
  · rename_i hparks
    have hocc : occupiedBay l b := by
      simp only [parks, Bool.and_eq_true, beq_iff_eq] at hparks
      exact hparks.1.1
    obtain ⟨hserved, hroom⟩ := evictForRoom h
    refine h.park (b := b) (x := parkedSlot e (l.bay b)) (hserved.joins) hocc ?_ (fun c hc => ?_) rfl rfl hroom
    · simp [occupiedBay, bay_vacate_self]
    · rw [btb_vacate_ne hc]
      exact modFrd_bay_btb (l := if Config.cacheMax ≤ l.cache.length then evictOldest l else l) (b := b)
        fun c => { c with list := [], blocking := 0, lost := 0 }
  · exact h.mono (vacate_joins.after emptyList_served.joins)

theorem clearRow_joins : NoCoachJoins l (clearRow e b l) := by
  have cleared (k : Live) : NoCoachJoins k
      (k.modFal b fun f => { f with key := none, base := .none, lamp := .none, heat := .none }) := by
    refine ⟨fun c hc => ?_, .refl _⟩
    simpa [occupiedBay] using hc
  simp only [clearRow]
  exact (finishPass_passed (judgeOvercommit_admitted (queueIn_univ _)) (queueIn_univ _)).supplied.joins.after
    ((cleared _).after (.of_eq rfl rfl))

theorem teardown_apart {p : Pstat} (h : CoachesApart l) : CoachesApart (teardown e b p l) := by
  have cleared : NoCoachJoins l (clearRow e b (stopRead e false .plugOut b (stopSweep e false false b l))) :=
    clearRow_joins.after (stopRead_served.joins.after stopSweep_supplied.joins)
  have left {k : Live} (hk : NoCoachJoins l k) :
      NoCoachJoins l (if (k.bay b).php.state = .none then k else leavePlan e true b k) := by
    split
    · exact hk
    · exact leavePlan_supplied.joins.after hk
  simp only [teardown]
  have vacated := parkAndVacate_apart (e := e) (b := b) (purpose := (l.bay b).btb.purpose)
    (h.mono (settleEntry_served (e := e) (b := b) (purpose := (l.bay b).btb.purpose) |>.joins.after
      (modBlm_served (b := b) (f := fun m => { m.clearFrames with desired := .off, dirty := true }) |>.joins.after
        (left cleared))))
  split
  · exact vacated.mono addBayReason_served.joins
  · exact vacated

theorem btbPstat_apart {p : Pstat} (h : CoachesApart l) : CoachesApart (btbPstat e b p l) := by
  unfold btbPstat
  split
  · exact h.mono plugIn_joins
  · exact h.mono (addBayReason_served.joins.after (modBtb_joins fun hocc => by simp at hocc))
  · exact h.mono plugIn_joins
  · exact h
  · exact teardown_apart h
  · exact h
  · exact teardown_apart h
  · exact h
  · exact h

/-! ## The end of an exchange -/

theorem deliver_apart {c : ReplyContent} (h : CoachesApart l) : CoachesApart (deliver e b c l) := by
  cases c with
  | idrp coach profile => exact takeIdrp_apart h
  | smp flags tag code => exact h.mono takeSample_served.joins
  | cdata offset data => exact h.mono frdCdata_served.joins
  | cdone => exact h.mono frdCdone_served.joins
  | office f => exact h.mono sendUp_served.joins
  | stat => exact h
  | cbusy => exact h
  | cnak => exact h

theorem announceEnd_joins {sent : SentFrame} {x : ExchangeEnd} : NoCoachJoins l (announceEnd e b sent x l) :=
  frdExchangeEnd_served.joins.after (lswExchangeEnd_supplied.joins.after btbExchangeEnd_joins)

theorem handleReply_apart {sent : SentFrame} {r : Reply} (h : CoachesApart l) : CoachesApart (handleReply e b sent r l) := by
  have seen := (btbPstat_apart (e := e) (b := b) (p := r.pstat)
    (h.mono (modBlm_served (b := b) (f := fun m => m.heard.compare r.pstat)).joins)).mono
      (pstatBehindBtb_served (e := e) (b := b) (p := r.pstat)).joins
  exact (deliver_apart (seen.mono modBlm_served.joins)).mono
    (announceEnd_joins.after (modBlm_served.joins.after linkReturn_served.joins))

theorem handleMiss_joins {sent : SentFrame} : NoCoachJoins l (handleMiss e b sent l) := by
  simp only [handleMiss]
  refine announceEnd_joins.after (modBlm_served.joins.after ?_)
  split
  · exact goSilent_served.joins.after modBlm_served.joins
  · exact modBlm_served.joins

theorem endSlot_joins {fate : SlotFate} : NoCoachJoins l (endSlot e fate l) := .of_eq rfl rfl

theorem slotMiss_joins : NoCoachJoins l (slotMiss e l) := by
  unfold slotMiss
  split
  · exact .refl l
  · exact endSlot_joins.after handleMiss_joins
  · exact endSlot_joins

theorem slotReply_apart {bytes : List Byte} (h : CoachesApart l) : CoachesApart (slotReply e bytes l) := by
  unfold slotReply
  split
  · exact h
  · split
    · exact (handleReply_apart h).mono endSlot_joins
    · exact h.mono (endSlot_joins.after handleMiss_joins)
  · exact h.mono endSlot_joins

theorem slotIdleEnd_joins : NoCoachJoins l (slotIdleEnd e l) := by
  unfold slotIdleEnd
  split
  · exact endSlot_joins
  · exact .refl l

/-! ## Tables and parameters written (R7, R91, R166, R174) -/

theorem setMissing_joins {missing : Bool} {bays : List Bay} : NoCoachJoins l (setMissing missing bays l) :=
  forBays_joins (fun _ _ => modBtb_joins fun h => ⟨h, rfl⟩) _

theorem gateAndPlan_joins : NoCoachJoins l (plannabilityNotice e b (evalLampGate e true b l)) :=
  plannabilityNotice_supplied.joins.after (evalLampGate_passed (Set.mem_univ _)).supplied.joins

theorem profileLost_joins {bays : List Bay} : NoCoachJoins l (profileLost e bays l) := by
  simp only [profileLost]
  exact (forBays_joins (fun _ _ => gateAndPlan_joins.after abortLost_supplied.joins) _).after
    ((forBays_joins (fun _ _ => (dropRequest_passed (Set.mem_univ _) (by decide)).supplied.joins) _).after setMissing_joins)

theorem profileFound_joins {bays : List Bay} : NoCoachJoins l (profileFound e bays l) :=
  (forBays_joins (fun _ _ => gateAndPlan_joins) _).after setMissing_joins

theorem profileWritten_joins {p : Fin 8} : NoCoachJoins l (profileWritten p e l) := by
  simp only [profileWritten]
  split
  · exact recomputeProfile_supplied.joins.after (evalProfileGates_supplied.joins.after profileFound_joins)
  · exact profileLost_joins

theorem writeParams_joins {p : Params} : NoCoachJoins d.live (writeParams p d).live := by
  have judged : NoCoachJoins d.live
      ((d.modParams fun _ => { p with feederLimit := d.env.params.feederLimit, reportMask := d.env.params.reportMask }).act
        judgeAll).live := judgeAll_served.joins
  exact (judged.trans limitWritten_supplied.joins).trans (.of_eq rfl rfl)

theorem writeEntry_joins {t : TableId} {i : Nat} {bytes : List Byte} {d' : Dev} (h : writeEntry t i bytes d = some d') :
    NoCoachJoins d.live d'.live := by
  cases t <;> simp only [writeEntry, Option.map_eq_some_iff] at h <;> obtain ⟨x, -, rfl⟩ := h
  case route => exact .refl d.live
  case poll => exact (.of_eq rfl rfl : NoCoachJoins d.live (pendRestart d.live))
  case profile =>
    rw [act_live, modTables_live]
    exact profileWritten_joins
  case lamp =>
    rw [act_live, modTables_live]
    exact evalProfileGates_supplied.joins
  case filter => exact .refl d.live
  case rowparam => exact writeParams_joins

theorem loadEntries_joins {t : TableId} {code : Byte} (i n : Nat) {r : LoadRun} (h : NoCoachJoins l r.dev.live) :
    NoCoachJoins l (loadEntries t code i n r).dev.live := by
  induction n generalizing i r with
  | zero => exact h
  | succ n ih =>
    unfold loadEntries
    split
    · exact h
    · split
      · exact h
      · split
        · exact h
        · rename_i d' hw
          exact ih _ (h.trans (writeEntry_joins hw))

theorem loadRecord_joins {r : LoadRun} (h : NoCoachJoins l r.dev.live) : NoCoachJoins l (loadRecord r).dev.live := by
  unfold loadRecord
  split
  · exact h
  · split
    · exact h
    · split
      · simp only
        split
        · exact h
        · split
          · exact h
          · exact loadEntries_joins _ _ h
      · exact h

theorem loadRecords_joins (n : Nat) {r : LoadRun} (h : NoCoachJoins l r.dev.live) :
    NoCoachJoins l (loadRecords n r).dev.live := by
  induction n generalizing r with
  | zero => exact h
  | succ n ih =>
    unfold loadRecords
    split
    · exact h
    · exact ih (loadRecord_joins h)

theorem runLoad_joins {records : List Byte} : NoCoachJoins d.live (runLoad records d).2.2.live := by
  have loaded := loadRecords_joins records.length (r := { dev := d, written := 0, stop := none, rest := records }) (.refl d.live)
  simp only [runLoad, reportLoaded]
  split
  · exact loaded.trans addReason_served.joins
  · exact loaded

theorem endLoader_joins {result : LoaderResult} : NoCoachJoins d.live (endLoader result d).live := .of_eq rfl rfl

/-- The part that a byte leaves, whether the run goes on or ends. -/
def LoaderStep.dev : LoaderStep → Dev
  | .more d => d
  | .ended d _ => d

theorem phase_joins {ph : LoaderPhase} : NoCoachJoins d.live (d.phase ph).dev.live := .of_eq rfl rfl

theorem loaderEntry_joins {t : TableId} {i n : Nat} {bytes : List Byte} :
    NoCoachJoins d.live (loaderEntry t i n bytes d).dev.live := by
  unfold loaderEntry
  split
  · exact .refl _
  · rename_i d' h
    have counted := (writeEntry_joins h).trans
      (.of_eq rfl rfl : NoCoachJoins d'.live (d'.live.modLoader fun m => { m with written := m.written + 1 }))
    simp only
    split
    · exact phase_joins.after counted
    · split
      · exact counted
      · exact phase_joins.after counted

theorem loaderAct_joins {x : Byte} : NoCoachJoins d.live (loaderAct x d).dev.live := by
  unfold loaderAct
  split
  · split
    · exact phase_joins
    · exact .refl _
  · exact phase_joins
  · exact .of_eq rfl rfl
  · split
    · exact phase_joins
    · exact .refl _
  · exact phase_joins
  · exact phase_joins
  · unfold loaderCount
    split
    · exact .refl _
    · exact phase_joins
  · split
    · exact loaderEntry_joins
    · exact phase_joins

theorem loaderBound_joins : NoCoachJoins d.live (loaderBound d).live := by
  simp only [loaderBound]
  split
  · exact .refl _
  · exact .refl _
  · exact .refl _
  · split
    · exact endLoader_joins
    · split
      · exact endLoader_joins
      · exact .refl _

theorem loaderByte_joins {x : Byte} : NoCoachJoins d.live (loaderByte x d).live := by
  have acted := loaderAct_joins (d := d) (x := x)
  unfold loaderByte
  split
  · split
    · rename_i d1 result h
      rw [h] at acted
      exact endLoader_joins.after acted
    · rename_i d1 h
      rw [h] at acted
      have moved : NoCoachJoins d1.live (d1.live.modLoader fun m => { m with address := m.address + 1 }) := .of_eq rfl rfl
      exact loaderBound_joins.after (acted.trans moved)
  · exact .refl _

/-! ## Management operations (R165 to R170) -/

theorem rowReset_apart : CoachesApart (rowReset l) := by
  have bay (b : Bay) : (rowReset l).bay b = BayRec.reset := bay_resetBays _ rfl b
  have empty : (rowReset l).cache = [] := rfl
  refine ⟨fun b c hb => ?_, by simp [empty], by simp [empty], by simp [empty]⟩
  simp [occupiedBay, bay, BayRec.reset, BtbPart.reset] at hb

theorem onBay_apart {bay : Byte} {f : Env → Bay → Live → Status × Live} (h : CoachesApart d.live)
    (hf : ∀ e b l, CoachesApart l → CoachesApart (f e b l).2) : CoachesApart (onBay bay f d).2.2.live := by
  unfold onBay
  split
  · exact h
  · exact hf _ _ _ h

theorem run_apart (m : MgmtOp) (h : CoachesApart d.live) : CoachesApart (m.run d).2.2.live := by
  cases m with
  | load records => exact h.mono runLoad_joins
  | read target selectors => exact h
  | ident bay => exact onBay_apart h fun _ _ _ h => h.mono ident_joins
  | lampCheck bay gf gl pf pl order => exact onBay_apart h fun _ _ _ h => h.mono lampCheck_supplied.joins
  | lampStop bay => exact onBay_apart h fun _ _ _ h => h.mono lampStop_supplied.joins
  | faultRead bay => exact onBay_apart h fun _ _ _ h => h.mono faultRead_served.joins
  | faultClear bay => exact onBay_apart h fun _ _ _ h => h.mono faultClear_served.joins
  | faultFlush bay => exact onBay_apart h fun _ _ _ h => h.mono faultFlush_served.joins
  | latchShunt bay => exact onBay_apart h fun _ _ _ h => h.mono latchShunt_served.joins
  | latchLock bay => exact onBay_apart h fun _ _ _ h => h.mono latchLock_served.joins
  | bayEnable bay => exact onBay_apart h fun _ _ _ h => h.mono bayEnable_joins
  | bayDisable bay => exact onBay_apart h fun _ _ _ h => h.mono bayDisable_joins
  | depAdd n minute bay coach target gates => exact h.mono depAdd_served.joins
  | depChange n names minute bay target gates => exact h.mono depChange_served.joins
  | depCancel n => exact h.mono depCancel_served.joins
  | releaseNow n => exact h.mono releaseNow_served.joins
  | feederSet limit =>
    simp only [MgmtOp.run, feederSet]
    split
    · exact h
    · exact h.mono limitWritten_supplied.joins
  | rowReset => exact rowReset_apart
  | reload => exact h.mono (.of_eq rfl rfl)

theorem respond_apart {tag op : Byte} {r : Status × List Byte × Dev} (h : CoachesApart r.2.2.live) :
    CoachesApart (respond tag op r).live := h.mono (.of_eq rfl rfl)

theorem answerPayload_apart {payload : List Byte} (h : CoachesApart d.live) : CoachesApart (answerPayload payload d).live := by
  unfold answerPayload
  split
  · split
    · rename_i m _
      refine respond_apart ?_
      unfold MgmtOp.execute
      split
      · exact h
      · exact run_apart m h
    · exact respond_apart h
  · exact respond_apart h

theorem runMgu_apart (h : CoachesApart d.live) : CoachesApart (runMgu d).live := by
  unfold runMgu
  split
  · split
    · exact answerPayload_apart (h.mono (.of_eq rfl rfl))
    · exact h
  · exact h

theorem queueMgmt_joins {port : Port} {payload : List Byte} : NoCoachJoins l (queueMgmt port payload l) := by
  unfold queueMgmt
  split
  · exact modTsw_served.joins
  · exact .of_eq rfl rfl

/-! ## What the part does of itself -/

theorem grantTd_joins : NoCoachJoins d.live (grantTd d).live := by
  unfold grantTd
  split
  · exact .of_eq rfl rfl
  · exact .refl _

theorem grantTu_joins : NoCoachJoins d.live (grantTu d).live := by
  unfold grantTu
  split
  · simp only [grantForward]
    split <;> exact .of_eq rfl rfl
  · simp only [grantLane]
    split <;> exact .of_eq rfl rfl
  · exact .refl _

theorem markCarried_served {sent : SentFrame} : Served l (markCarried b sent l) := by
  unfold markCarried
  split
  · split
    · exact modLsw_supplied.served
    · exact modFrd_served
    · exact .refl l
  · exact .refl l

theorem beginSlot_joins : NoCoachJoins l (beginSlot e l) := by
  unfold beginSlot startSlot
  split
  · split
    · exact .of_eq rfl rfl
    · exact (modBlm_served.joins.trans markCarried_served.joins).trans (.of_eq rfl rfl)
  · exact .refl l

theorem settle_apart (h : CoachesApart d.live) : CoachesApart (settle d).live :=
  (runMgu_apart (h.mono (grantTu_joins.after grantTd_joins))).mono (beginSlot_joins.after grantTu_joins)

/-! ## Trunk frames and the clock -/

theorem relay_joins {straps : Straps} {port : Port} {f : TrunkFrame} : NoCoachJoins l (relay straps port f l) := by
  simp only [relay]
  split
  · exact .refl l
  · split
    · exact offerForward_served.joins
    · split
      · exact modTsw_served.joins
      · exact offerForward_served.joins

theorem downDecision_joins {kind : Byte} {payload : List Byte} : NoCoachJoins l (downDecision e kind payload b l) := by
  simp only [downDecision]
  split
  · exact .refl l
  · split
    · exact modBlm_served.joins
    · exact addBayReason_served.joins.after (modBtb_joins fun h => ⟨h, rfl⟩)

theorem takeForBay_joins {port : Port} {f : TrunkFrame} : NoCoachJoins l (takeForBay e port f l) := by
  unfold takeForBay
  split
  · exact modTsw_served.joins
  · split
    · exact modTsw_served.joins
    · split
      · exact downDecision_joins
      · refine forBays_joins (fun b l => ?_) _
        split
        · exact .refl l
        · exact downDecision_joins

theorem announceMinute_joins : NoCoachJoins l (announceMinute e l) :=
  scvMinute_served.joins.after (dpcMinute_served.joins.after expireSlots_joins)

/-- The clock is written and the leads computed where the outside temperature has changed (R98). -/
theorem setTime_joins {minute second : Nat} {outside : Int} : NoCoachJoins d.live (setTime minute second outside d).live := by
  have minuteTurns {k : Dev} (h : NoCoachJoins d.live k.live) :
      NoCoachJoins d.live (if minute = d.env.clock.minute then k else (k.act announceMinute).act phpMinute).live := by
    split
    · exact h
    · exact act_joins (act_joins h fun _ _ => announceMinute_joins) fun _ _ => phpMinute_supplied.joins
  simp only [setTime]
  refine minuteTurns ?_
  split
  · exact .refl d.live
  · exact act_joins (.refl d.live) fun _ _ => recomputeAll_supplied.joins

theorem takeFrame_joins {port : Port} {f : TrunkFrame} : NoCoachJoins d.live (takeFrame port f d).live := by
  unfold takeFrame
  split
  · unfold takeForRow
    split
    · exact queueMgmt_joins
    · unfold takeTime
      split
      · exact setTime_joins
      · exact .refl _
    · exact modTsw_served.joins
  · exact takeForBay_joins

theorem receiveFrame_joins {port : Port} {bytes : List Byte} : NoCoachJoins d.live (receiveFrame port bytes d).live := by
  unfold receiveFrame
  split
  · exact modTsw_served.joins
  · rename_i f _
    have passedOn : NoCoachJoins d.live (if relayed d.env.straps f then d.act fun e => relay e.straps port f else d).live := by
      split
      · exact relay_joins
      · exact .refl _
    simp only [sortFrame]
    split
    · exact takeFrame_joins.after passedOn
    · exact passedOn

theorem setTimeStale_joins : NoCoachJoins d.live (setTimeStale d).live := .of_eq rfl rfl

theorem whenAddressed_joins {f : Dev → Dev} (hf : ∀ d, NoCoachJoins d.live (f d).live) :
    NoCoachJoins d.live (whenAddressed f d).live := by
  unfold whenAddressed
  split
  · exact hf d
  · exact .refl _

theorem event_joins {f : Env → Live → Live} (hf : ∀ e l, NoCoachJoins l (f e l)) : NoCoachJoins d.live (event f d).live :=
  whenAddressed_joins fun _ => hf _ _

theorem timebaseMinute_joins : NoCoachJoins d.live (timebaseMinute d).live := by
  have counted (d : Dev) : NoCoachJoins d.live (countNoTime d).live := by
    unfold countNoTime
    split
    · exact .refl d.live
    · split
      · exact setTimeStale_joins
      · exact .refl d.live
  refine whenAddressed_joins (d := d.modClock Clock.nextMinute) fun d => ?_
  exact act_joins ((act_joins (.refl d.live) fun _ _ => announceMinute_joins).trans (counted _))
    fun _ _ => phpMinute_supplied.joins

theorem secondTick_joins : NoCoachJoins d.live (secondTick d).live := by
  have ticked : NoCoachJoins d.live (event frdTick d).live := event_joins fun _ _ => frdTick_served.joins
  simp only [secondTick]
  split
  · exact ticked
  · exact timebaseMinute_joins.after ticked

theorem tdEnd_joins : NoCoachJoins d.live (tdEnd d).live := .of_eq rfl rfl

theorem tuEnd_joins : NoCoachJoins d.live (tuEnd d).live := by
  unfold tuEnd
  split
  · exact .refl _
  · exact .of_eq rfl rfl

/-! ## Every step -/

theorem after_apart {f : Dev → Dev} (hf : CoachesApart s.dev.live → CoachesApart (f s.dev).live) (h : CoachesApart s.dev.live) :
    CoachesApart (s.after f).dev.live := settle_apart (hf h)

theorem after_joins_apart {f : Dev → Dev} (hf : ∀ d, NoCoachJoins d.live (f d).live) (h : CoachesApart s.dev.live) :
    CoachesApart (s.after f).dev.live := after_apart (fun h => h.mono (hf _)) h

theorem submit_apart {payload : List Byte} (h : CoachesApart s.dev.live) : CoachesApart (submit payload s).dev.live := by
  refine after_apart (fun h => ?_) h
  unfold whenAddressed
  split
  · unfold takeRequest
    split
    · exact answerPayload_apart h
    · exact h.mono queueMgmt_joins
  · exact h

theorem reset_apart (straps : Straps) : CoachesApart (Dev.reset straps).live := by
  have bay (b : Bay) : (Dev.reset straps).live.bay b = BayRec.reset := bay_resetBays _ rfl b
  have empty : (Dev.reset straps).live.cache = [] := rfl
  refine ⟨fun b c hb => ?_, by simp [empty], by simp [empty], by simp [empty]⟩
  simp [occupiedBay, bay, BayRec.reset, BtbPart.reset] at hb

/-- An event of a bay that acts in some states and otherwise not. -/
theorem eventIf_joins {c : Env → Live → Prop} [∀ e l, Decidable (c e l)] {f : Env → Live → Live}
    (hf : ∀ e l, NoCoachJoins l (f e l)) : NoCoachJoins d.live (event (fun e l => if c e l then f e l else l) d).live := by
  refine event_joins fun e l => ?_
  split
  · exact hf e l
  · exact .refl l

theorem exec_apart (c : Instr) (s : State) (h : CoachesApart s.dev.live) : ∃ t, exec c s = .next t ∧ CoachesApart t.dev.live := by
  cases c with
  | powerOnReset row eot mem => exact ⟨_, rfl, after_apart (fun _ => reset_apart _) h⟩
  | pinReset row eot mem => exact ⟨_, rfl, after_apart (fun _ => reset_apart _) h⟩
  | loaderByteRead x => exact ⟨_, rfl, after_joins_apart (fun _ => loaderByte_joins) h⟩
  | noack =>
    refine ⟨_, rfl, after_joins_apart (fun d => ?_) h⟩
    unfold loaderNoack
    split
    · exact endLoader_joins
    · exact .refl _
  | trunkFrameReceived port bytes => exact ⟨_, rfl, after_joins_apart (fun _ => receiveFrame_joins) h⟩
  | receptionBreaksOff port => exact ⟨_, rfl, after_joins_apart (fun _ => modTsw_served.joins) h⟩
  | tuTransmitEnd => exact ⟨_, rfl, after_joins_apart (fun _ => tuEnd_joins) h⟩
  | tdTransmitEnd => exact ⟨_, rfl, after_joins_apart (fun _ => tdEnd_joins) h⟩
  | exchangeReply bytes => exact ⟨_, rfl, after_apart slotReply_apart h⟩
  | badReply => exact ⟨_, rfl, after_joins_apart (fun _ => slotMiss_joins) h⟩
  | replyTimeout => exact ⟨_, rfl, after_joins_apart (fun _ => slotMiss_joins) h⟩
  | pollSlotIdleEnd => exact ⟨_, rfl, after_joins_apart (fun _ => slotIdleEnd_joins) h⟩
  | linkSilent b =>
    exact ⟨_, rfl, after_joins_apart (fun _ => eventIf_joins fun _ _ => goSilent_served.joins.after modBlm_served.joins) h⟩
  | identFailed b => exact ⟨_, rfl, after_joins_apart (fun _ => eventIf_joins fun _ _ => giveUpIdent_joins) h⟩
  | stepVisitLimit b => exact ⟨_, rfl, after_joins_apart (fun _ => eventIf_joins fun _ _ => visitLimit_supplied.joins) h⟩
  | coachBusy b =>
    exact ⟨_, rfl, after_joins_apart (fun _ => eventIf_joins fun _ _ => (Served.after endRead_served modFrd_served).joins) h⟩
  | coachSilent b =>
    exact ⟨_, rfl, after_joins_apart (fun _ => eventIf_joins fun _ _ => (Served.after endRead_served modFrd_served).joins) h⟩
  | clearTimeout b => exact ⟨_, rfl, after_joins_apart (fun _ => eventIf_joins fun _ _ => clearExpires_served.joins) h⟩
  | cabinStaleOnset b =>
    exact ⟨_, rfl, after_joins_apart
      (fun _ => eventIf_joins fun _ _ => cabinStaleOnset_supplied.joins.after modScv_served.joins) h⟩
  | secondTick => exact ⟨_, rfl, after_joins_apart (fun _ => secondTick_joins) h⟩
  | minuteEvent => exact ⟨_, rfl, after_joins_apart (fun _ => timebaseMinute_joins) h⟩
  | timeStale =>
    refine ⟨_, rfl, after_joins_apart (fun _ => whenAddressed_joins fun d => ?_) h⟩
    split
    · exact setTimeStale_joins
    · exact .refl _
  | parkedSlotExpiry => exact ⟨_, rfl, after_joins_apart (fun _ => event_joins fun _ _ => expireSlots_joins) h⟩
  | mgmtFormatError payload =>
    refine ⟨_, rfl, ?_⟩
    split
    · exact h
    · exact submit_apart h
  | load tag records => exact ⟨_, rfl, submit_apart h⟩
  | read tag target selectors => exact ⟨_, rfl, submit_apart h⟩
  | ident tag bay => exact ⟨_, rfl, submit_apart h⟩
  | lampCheck tag bay gf gl pf pl order => exact ⟨_, rfl, submit_apart h⟩
  | lampStop tag bay => exact ⟨_, rfl, submit_apart h⟩
  | faultRead tag bay => exact ⟨_, rfl, submit_apart h⟩
  | faultClear tag bay => exact ⟨_, rfl, submit_apart h⟩
  | faultFlush tag bay => exact ⟨_, rfl, submit_apart h⟩
  | latchShunt tag bay => exact ⟨_, rfl, submit_apart h⟩
  | latchLock tag bay => exact ⟨_, rfl, submit_apart h⟩
  | bayEnable tag bay => exact ⟨_, rfl, submit_apart h⟩
  | bayDisable tag bay => exact ⟨_, rfl, submit_apart h⟩
  | depAdd tag n minute bay coach target gates => exact ⟨_, rfl, submit_apart h⟩
  | depChange tag n names minute bay target gates => exact ⟨_, rfl, submit_apart h⟩
  | depCancel tag n => exact ⟨_, rfl, submit_apart h⟩
  | releaseNow tag n => exact ⟨_, rfl, submit_apart h⟩
  | feederSet tag limit => exact ⟨_, rfl, submit_apart h⟩
  | rowReset tag => exact ⟨_, rfl, submit_apart h⟩
  | reload tag => exact ⟨_, rfl, submit_apart h⟩

/-- Settles O59: the laws are `CoachesApart`, which the command at the front of the queue keeps. -/
theorem everyStepKeepsTheCoachesApart : Obligations.EveryStepKeepsTheCoachesApart := by
  intro s t hcoach hcache hstep
  have h : CoachesApart s.live := (coachesApart_iff _).2 ⟨hcoach, hcache⟩
  refine (coachesApart_iff _).1 ?_
  unfold step at hstep
  split at hstep
  · cases hstep
    exact h
  · rename_i c rest _
    obtain ⟨t', ht, hapart⟩ := exec_apart c { s with pending := rest } h
    rw [ht] at hstep
    cases hstep
    exact hapart

end Sys2Proof.Machine

/-! # An exchange that ends in a reply

What a reply comes to, step by step of R30, where the bay has nothing in progress; and what the part then does of itself when MGU
has no request. -/
namespace Sys2Proof.Machine

variable {e : Env} {b : Bay} {l l' l'' : Live} {d : Dev} {s : State} {r r' r'' : BayRec}

/-! ## The end of the slot and the command -/

theorem endSlot_counts (e : Env) (l : Live) : endSlot e .counts l = l.slotEnded e := by
  simp [endSlot, Live.slotEnded, nextPointer]
  split <;> simp_all

/-- The reply of an exchange that counts is used, and the walk moves on (R24, R30). -/
theorem exec_exchangeReply {sent : SentFrame} {timeout : Nat} {bytes : List Byte} {reply : Reply}
    (hslot : s.live.walk.slot = some ⟨.exchange b sent, timeout, .counts⟩) (hparse : parseReply b bytes = some reply) :
    exec (.exchangeReply bytes) s = .next (s.goes ((handleReply s.dev.env b sent reply s.live).slotEnded s.dev.env)) := by
  have hslot' : s.dev.live.walk.slot = some ⟨.exchange b sent, timeout, .counts⟩ := hslot
  have ended : slotReply s.dev.env bytes s.dev.live = (handleReply s.dev.env b sent reply s.live).slotEnded s.dev.env := by
    simp only [slotReply, exchangeInFlight, hslot', hparse, endSlot_counts]
    rfl
  rw [← ended]
  rfl

/-! ## Notes on a bay -/

/-- A record changes by no more than the notes of an exchange and of a frame sent: what was reported, and the marks of transmission. -/
structure RecNoted (r r' : BayRec) : Prop where
  btb : r'.btb = r.btb
  queue : r'.blm.queue = r.blm.queue
  job : r.blm.job = none → r'.blm.job = none
  claimLsw : r'.blm.claimLsw = r.blm.claimLsw
  claimFrd : r'.blm.claimFrd = r.blm.claimFrd
  desired : r'.blm.desired = r.blm.desired
  scv : r'.scv = r.scv
  lsw : ∃ x, r'.lsw = { r.lsw with driveSent := x }
  frd : ∃ x y, r'.frd = { r.frd with alertSeen := x, carried := y }
  php : ∃ x, r'.php = { r.php with heaterReported := x }
  fal : ∃ x, r'.fal = { r.fal with contactorReported := x }
  dpc : ∃ x, r'.dpc = { r.dpc with latchReported := x }

/-- Each bay by notes alone, and the row not at all where a coach could be. -/
structure Noted (l l' : Live) : Prop where
  bays : ∀ c, RecNoted (l.bay c) (l'.bay c)
  cache : l'.cache = l.cache
  pool : l'.pool = l.pool
  departures : l'.departures = l.departures
  mgu : l'.mgu = l.mgu

theorem RecNoted.refl (r : BayRec) : RecNoted r r :=
  ⟨rfl, rfl, id, rfl, rfl, rfl, rfl, ⟨_, rfl⟩, ⟨_, _, rfl⟩, ⟨_, rfl⟩, ⟨_, rfl⟩, ⟨_, rfl⟩⟩

theorem RecNoted.trans (h : RecNoted r r') (h' : RecNoted r' r'') : RecNoted r r'' := by
  obtain ⟨_, hlsw⟩ := h.lsw
  obtain ⟨_, hlsw'⟩ := h'.lsw
  obtain ⟨_, _, hfrd⟩ := h.frd
  obtain ⟨_, _, hfrd'⟩ := h'.frd
  obtain ⟨_, hphp⟩ := h.php
  obtain ⟨_, hphp'⟩ := h'.php
  obtain ⟨_, hfal⟩ := h.fal
  obtain ⟨_, hfal'⟩ := h'.fal
  obtain ⟨_, hdpc⟩ := h.dpc
  obtain ⟨_, hdpc'⟩ := h'.dpc
  exact ⟨h'.btb.trans h.btb, h'.queue.trans h.queue, h'.job ∘ h.job, h'.claimLsw.trans h.claimLsw,
    h'.claimFrd.trans h.claimFrd, h'.desired.trans h.desired, h'.scv.trans h.scv, ⟨_, by rw [hlsw', hlsw]⟩,
    ⟨_, _, by rw [hfrd', hfrd]⟩, ⟨_, by rw [hphp', hphp]⟩, ⟨_, by rw [hfal', hfal]⟩, ⟨_, by rw [hdpc', hdpc]⟩⟩

theorem Noted.refl (l : Live) : Noted l l := ⟨fun _ => .refl _, rfl, rfl, rfl, rfl⟩

theorem Noted.trans (h : Noted l l') (h' : Noted l' l'') : Noted l l'' :=
  ⟨fun c => (h.bays c).trans (h'.bays c), h'.cache.trans h.cache, h'.pool.trans h.pool, h'.departures.trans h.departures,
    h'.mgu.trans h.mgu⟩

/-- Nothing changes but lines, counters and reports. -/
theorem Noted.of_eq (hb : l'.bays = l.bays) (hc : l'.cache = l.cache) (hp : l'.pool = l.pool)
    (hd : l'.departures = l.departures) (hm : l'.mgu = l.mgu) : Noted l l' :=
  ⟨fun c => by simpa [Live.bay, hb] using .refl _, hc, hp, hd, hm⟩

theorem modBay_noted {f : BayRec → BayRec} (h : RecNoted (l.bay b) (f (l.bay b))) : Noted l (l.modBay b f) :=
  ⟨bays_modBay .refl h, rfl, rfl, rfl, rfl⟩

/-- BLM notes what leaves its frames and the desired state. -/
theorem modBlm_noted {f : BlmPart → BlmPart} (hq : (f (l.bay b).blm).queue = (l.bay b).blm.queue)
    (hj : (l.bay b).blm.job = none → (f (l.bay b).blm).job = none) (hl : (f (l.bay b).blm).claimLsw = (l.bay b).blm.claimLsw)
    (hf : (f (l.bay b).blm).claimFrd = (l.bay b).blm.claimFrd) (hd : (f (l.bay b).blm).desired = (l.bay b).blm.desired) :
    Noted l (l.modBlm b f) :=
  modBay_noted ⟨rfl, hq, hj, hl, hf, hd, rfl, ⟨_, rfl⟩, ⟨_, _, rfl⟩, ⟨_, rfl⟩, ⟨_, rfl⟩, ⟨_, rfl⟩⟩

theorem addBayReason_noted {x : Reason} : Noted l (addBayReason e b x l) := .of_eq rfl rfl rfl rfl rfl

/-! ## What the part does of itself while MGU has no request (R24, R48 to R50) -/

/-- A grant changes the trunk and the reports alone. -/
theorem grantTd_noted : Noted d.live (grantTd d).live ∧ (grantTd d).live.walk = d.live.walk ∧ (grantTd d).env = d.env := by
  unfold grantTd
  split <;> exact ⟨.of_eq rfl rfl rfl rfl rfl, rfl, rfl⟩

theorem grantTu_noted : Noted d.live (grantTu d).live ∧ (grantTu d).live.walk = d.live.walk ∧ (grantTu d).env = d.env := by
  unfold grantTu
  split
  · unfold grantForward
    split <;> exact ⟨.of_eq rfl rfl rfl rfl rfl, rfl, rfl⟩
  · unfold grantLane
    split <;> exact ⟨.of_eq rfl rfl rfl rfl rfl, rfl, rfl⟩
  · exact ⟨.refl _, rfl, rfl⟩

/-- A frame sent is marked at its bay. -/
theorem afterSend_noted {sent : SentFrame} : Noted l (l.modBlm b (·.afterSend sent)) := by
  cases sent with
  | job f => exact modBlm_noted rfl (fun h => by simp [BlmPart.afterSend, h]) rfl rfl rfl
  | office f => exact modBlm_noted rfl id rfl rfl rfl
  | actuate a => exact modBlm_noted rfl id rfl rfl rfl
  | samplePoll => exact modBlm_noted rfl id rfl rfl rfl
  | poll => exact modBlm_noted rfl id rfl rfl rfl

theorem markCarried_noted {sent : SentFrame} : Noted l (markCarried b sent l) := by
  unfold markCarried
  split
  · split
    · exact modBay_noted ⟨rfl, rfl, id, rfl, rfl, rfl, rfl, ⟨_, rfl⟩, ⟨_, _, rfl⟩, ⟨_, rfl⟩, ⟨_, rfl⟩, ⟨_, rfl⟩⟩
    · exact modBay_noted ⟨rfl, rfl, id, rfl, rfl, rfl, rfl, ⟨_, rfl⟩, ⟨_, _, rfl⟩, ⟨_, rfl⟩, ⟨_, rfl⟩, ⟨_, rfl⟩⟩
    · exact .refl l
  · exact .refl l

theorem markCarried_walk {sent : SentFrame} : (markCarried b sent l).walk = l.walk := by
  unfold markCarried
  split
  · split <;> rfl
  · rfl

theorem beginSlot_noted : Noted l (beginSlot e l) ∧ (beginSlot e l).walk.pointer = l.walk.pointer := by
  unfold beginSlot
  split
  · unfold startSlot
    split
    · exact ⟨.of_eq rfl rfl rfl rfl rfl, rfl⟩
    · rename_i c _
      have marked := (afterSend_noted (l := l) (b := c) (sent := (l.bay c).blm.chooseFrame)).trans
        (markCarried_noted (b := c) (sent := (l.bay c).blm.chooseFrame))
      refine ⟨marked.trans (.of_eq rfl rfl rfl rfl rfl), ?_⟩
      simp only [markCarried_walk]
      rfl
  · exact ⟨.refl l, rfl⟩

/-- With no request for MGU a settling part takes notes, and the walk's pointer stands. -/
theorem settle_noted (hq : d.live.mgu.queue = []) :
    Noted d.live (settle d).live ∧ (settle d).live.walk.pointer = d.live.walk.pointer := by
  obtain ⟨td, tdWalk, -⟩ := grantTd_noted (d := d)
  obtain ⟨tu, tuWalk, -⟩ := grantTu_noted (d := grantTd d)
  have idle : runMgu (grantTu (grantTd d)) = grantTu (grantTd d) := by
    have hmgu : (grantTu (grantTd d)).live.mgu.queue = [] := by rw [tu.mgu, td.mgu, hq]
    simp [runMgu, hmgu]
  obtain ⟨tu', tuWalk', -⟩ := grantTu_noted (d := grantTu (grantTd d))
  obtain ⟨slot, slotWalk⟩ := beginSlot_noted (e := (grantTu (grantTu (grantTd d))).env) (l := (grantTu (grantTu (grantTd d))).live)
  rw [settle, idle]
  exact ⟨((td.trans tu).trans tu').trans slot, by rw [act_live, slotWalk, tuWalk', tuWalk, tdWalk]⟩

/-! ## The reply of a bay with nothing in progress -/

/-- The entry bound to a bay is not judged while it is WAITING. -/
theorem judge_waiting (h : ∀ x : DepEntry, boundEntry l b = some x → x.state = .waiting) : judge e b l = l := by
  unfold judge
  split
  · rfl
  · rename_i x hx
    rw [h x hx]

/-- Behind BTB a PSTAT is only noted where no entry is judged, no heat share is admitted and the bay is not OCCUPIED. -/
theorem pstatBehindBtb_idle {p : Pstat} (hentry : ∀ x : DepEntry, boundEntry l b = some x → x.state = .waiting)
    (hheat : (l.bay b).fal.heat.state ≠ .admitted) (hocc : (l.bay b).btb.occupancy ≠ .occupied) :
    frdPstat e b p.alert (falPstat e b p.contactorClosed (phpPstat b p.heaterOn (dpcPstat e b p.latchReleased l))) =
      l.modBay b fun x => { x with
        frd := { x.frd with alertSeen := p.alert }
        php := { x.php with heaterReported := p.heaterOn }
        fal := { x.fal with contactorReported := p.contactorClosed }
        dpc := { x.dpc with latchReported := p.latchReleased } } := by
  have dpc : dpcPstat e b p.latchReleased l = l.modDpc b fun d => { d with latchReported := p.latchReleased } :=
    judge_waiting hentry
  have fal (k : Live) (hk : (k.bay b).fal.heat.state ≠ .admitted) :
      falPstat e b p.contactorClosed k = k.modFal b fun f => { f with contactorReported := p.contactorClosed } := by
    simp [falPstat, shareOf, FalPart.share, hk]
  have frd (k : Live) (hk : (k.bay b).btb.occupancy ≠ .occupied) :
      frdPstat e b p.alert k = k.modFrd b fun c => { c with alertSeen := p.alert } := by
    simp [frdPstat, alertStarts, hk]
  rw [dpc, phpPstat, fal _ (by simpa using hheat), frd _ (by simpa using hocc)]
  simp only [modDpc_eq, modPhp_eq, modFal_eq, modFrd_eq, modBay_modBay]
  rfl

theorem frdCdata_idle {offset : Nat} {data : List Byte} (h : (l.bay b).frd.status ≠ .reading) :
    frdCdata e b offset data l = l := by
  simp only [frdCdata]
  split
  · rename_i hr _
    exact absurd hr h
  · rfl

theorem frdCdone_idle (h : (l.bay b).frd.status ≠ .clearing) : frdCdone e b l = l := by simp [frdCdone, h]

theorem lampSample_idle {tag current : Nat} {overrange : Bool} (h : (l.bay b).lsw.sweep ≠ .running) :
    lampSample e b tag current overrange l = l := by
  simp only [lampSample]
  split
  · rfl
  · simp [h]

theorem lswExchangeEnd_idle (h : (l.bay b).lsw.sweep ≠ .running) : lswExchangeEnd e b l = l := by simp [lswExchangeEnd, h]

theorem btbExchangeEnd_idle {carried : Bool} (h : carried = false ∨ identifying (l.bay b).btb = false) :
    btbExchangeEnd e b carried l = l := by
  rcases h with h | h <;> simp [btbExchangeEnd, h]

/-- R36 in one change: the return of a link marks the desired state dirty, and is reported where it was SILENT. -/
theorem linkReturn_eq (was : Link) : linkReturn e was b l =
    if was = .silent then addBayReason e b .online (l.modBlm b fun m => { m with dirty := m.dirty || was != .online })
    else l.modBlm b fun m => { m with dirty := m.dirty || was != .online } := by
  have stands (x : Bool) : (x || (Link.online != .online)) = x := Bool.or_false x
  have unheard (x : Bool) : (x || (Link.unheard != .online)) = true := Bool.or_true x
  have silent (x : Bool) : (x || (Link.silent != .online)) = true := Bool.or_true x
  cases was with
  | online =>
    simp only [linkReturn, stands, reduceCtorEq, if_false]
    exact (modBay_id _ _ _ rfl).symm
  | unheard => simp only [linkReturn, unheard, reduceCtorEq, if_false]
  | silent => simp only [linkReturn, silent, if_true]

end Sys2Proof.Machine

/-! # An accepted identity occupies the bay (R5 to R8) -/
namespace Sys2Proof.Machine

variable {e : Env} {b : Bay} {l l' : Live}

/-- R30 steps 1 to 4: a reply up to the delivery of its content. -/
def beforeContent (e : Env) (b : Bay) (sent : SentFrame) (r : Reply) (l : Live) : Live :=
  (handPstat e b r.pstat (l.modBlm b fun m => m.heard.compare r.pstat)).modBlm b (·.removeAnswered sent)

/-- R30 steps 6 and 7: a reply behind the delivery of its content, for a link that was `was`. -/
def behindContent (e : Env) (was : Link) (b : Bay) (sent : SentFrame) (r : Reply) (l : Live) : Live :=
  announceEnd e b sent (.reply r.content)
    ((linkReturn e was b l).modBlm b (·.recordEnd (.reply r.pstat.samplePending (sent == .samplePoll))))

theorem handleReply_eq (e : Env) (b : Bay) (sent : SentFrame) (r : Reply) (l : Live) : handleReply e b sent r l =
    behindContent e (l.bay b).blm.link b sent r (deliver e b r.content (beforeContent e b sent r l)) := rfl

/-- Where BTB finds the plug as it was, the PSTAT and the frame's removal leave the coach. -/
theorem beforeContent_served {sent : SentFrame} {r : Reply} (h : ∀ k : Live, (k.bay b).btb = (l.bay b).btb →
    btbPstat e b r.pstat k = k) : Served l (beforeContent e b sent r l) := by
  have plug := h (l.modBlm b fun m => m.heard.compare r.pstat) (by simp)
  rw [beforeContent, handPstat, plug]
  exact modBlm_served.after (pstatBehindBtb_served.after modBlm_served)

/-- Behind the content of a reply the coach of an OCCUPIED bay is left. -/
theorem behindContent_served {was : Link} {sent : SentFrame} {r : Reply} (h : (l.bay b).btb.occupancy = .occupied) :
    Served l (behindContent e was b sent r l) := by
  have ended : Served l
      ((linkReturn e was b l).modBlm b (·.recordEnd (.reply r.pstat.samplePending (sent == .samplePoll)))) :=
    modBlm_served.after linkReturn_served
  obtain ⟨p, hp⟩ := (ended.bays b).btb
  have counted := btbExchangeEnd_idle (e := e) (carried := sent == .job .ident) (.inr (by
    rw [hp]
    simp [identifying, h]))
  rw [behindContent, announceEnd, counted]
  exact frdExchangeEnd_served.after (lswExchangeEnd_supplied.served.after ended)

/-- A requested share is not in NONE, whether it is new or stood. -/
theorem requestShare_base_requested {amount : Nat} : ((requestShare e b .base amount l).bay b).fal.base.state ≠ .none := by
  by_cases h : (shareOf l b .base).state = .none
  · have queued (k : Live) (hk : (k.bay b).fal.base.state ≠ .none) : ((runPass e k).bay b).fal.base.state ≠ .none :=
      ((runPass_passed (queueIn_univ k)).bays b).base hk
    simp only [requestShare, h, if_true, beq_self_eq_true, Bool.true_or]
    refine queued _ ?_
    simp [enqueue, Live.bay, Live.modFal, Live.modBay, FalPart.setShare]
  · simp only [requestShare, h, if_false]
    exact h

/-- The record of a bay whose coach's identity has been accepted, the purpose of its release aside. -/
def BtbPart.identified (e : Env) (coach : Nat) (profile : Fin 8) (purpose : Purpose) (r : BtbPart) : BtbPart :=
  { r with
    occupancy := .occupied
    coach := coach
    profile := profile
    dupCoach := false
    identFailed := false
    profileMissing := !e.tables.profiles[profile].valid
    purpose := purpose }

/-- An accepted identity makes the bay OCCUPIED by the coach and requests its base share; walk and MGU stand. -/
theorem acceptIdentity_result (e : Env) (b : Bay) (coach : Nat) (profile : Fin 8) (l : Live) :
    (∃ p, ((acceptIdentity e b coach profile l).bay b).btb = (l.bay b).btb.identified e coach profile p) ∧
      ((acceptIdentity e b coach profile l).bay b).fal.base.state ≠ .none ∧
      (acceptIdentity e b coach profile l).walk = l.walk ∧ (acceptIdentity e b coach profile l).mgu = l.mgu := by
  have looked := lookUpCoach_served (b := b) (coach := coach) (profile := profile) (l := identityWritten b coach profile l)
  have accepted := acceptIdentity_served e b coach profile l
  refine ⟨?_, ?_, accepted.walk.trans looked.walk, accepted.mgu.trans looked.mgu⟩
  · obtain ⟨p, hp⟩ := (looked.bays b).btb
    obtain ⟨q, hq⟩ := (accepted.bays b).btb
    refine ⟨q, ?_⟩
    rw [hq, bay_modBtb_self]
    dsimp only
    rw [hp]
    simp [identityWritten, withdrawJob, BtbPart.identified]
  · exact ((frdOccupied_served.after (lswOccupied_supplied.served.after dpcOccupied_served)).bays b).base
      requestShare_base_requested

/-- A reply that brings a free identity to a bay PLUGGED by then makes it OCCUPIED (R5, R6). -/
theorem handleReply_accepts {sent : SentFrame} {r : Reply} {coach : Nat} {profile : Fin 8}
    (hcontent : r.content = .idrp coach profile) (hcoach : coach ≠ 0)
    (hplug : ((beforeContent e b sent r l).bay b).btb.occupancy = .plugged)
    (hfree : heldElsewhere (beforeContent e b sent r l) b coach = false) :
    (∃ p, ((handleReply e b sent r l).bay b).btb = ((beforeContent e b sent r l).bay b).btb.identified e coach profile p) ∧
      ((handleReply e b sent r l).bay b).fal.base.state ≠ .none ∧
      (handleReply e b sent r l).walk = (beforeContent e b sent r l).walk ∧
      (handleReply e b sent r l).mgu = (beforeContent e b sent r l).mgu := by
  have delivered : deliver e b r.content (beforeContent e b sent r l) =
      acceptIdentity e b coach profile (beforeContent e b sent r l) := by
    simp [hcontent, deliver, takeIdrp, hplug, hcoach, hfree]
  obtain ⟨⟨p, hp⟩, hbase, hwalk, hmgu⟩ := acceptIdentity_result e b coach profile (beforeContent e b sent r l)
  have served := behindContent_served (e := e) (was := (l.bay b).blm.link) (sent := sent) (r := r)
    (l := acceptIdentity e b coach profile (beforeContent e b sent r l)) (b := b) (by rw [hp]; rfl)
  rw [handleReply_eq, delivered]
  obtain ⟨q, hq⟩ := (served.bays b).btb
  exact ⟨⟨q, by rw [hq, hp]; rfl⟩, (served.bays b).base hbase, served.walk.trans hwalk, served.mgu.trans hmgu⟩

/-- Whether another bay holds a coach does not change while no coach moves. -/
theorem heldElsewhere_congr {coach : Nat} (h : ∀ c, c ≠ b → (l'.bay c).btb.occupancy = (l.bay c).btb.occupancy ∧
    (l'.bay c).btb.coach = (l.bay c).btb.coach) : heldElsewhere l' b coach = heldElsewhere l b coach := by
  unfold heldElsewhere
  congr 1
  funext c
  by_cases hc : c = b
  · simp [hc]
  · simp [(h c hc).1, (h c hc).2]

theorem Served.heldElsewhere (h : Served l l') (coach : Nat) :
    Machine.heldElsewhere l' b coach = Machine.heldElsewhere l b coach := by
  refine heldElsewhere_congr fun c _ => ?_
  obtain ⟨p, hp⟩ := (h.bays c).btb
  simp [hp]

/-- Settles O23: the PSTAT of a PLUGGED bay leaves the coaches, and the identity is accepted by `handleReply_accepts`. -/
theorem anAcceptedIdentityOccupiesTheBay : Obligations.AnAcceptedIdentityOccupiesTheBay := by
  intro s b sent timeout bytes r coach profile hslot hparse hcontent hcoach hfree hplug hocc hqueue
  refine ⟨_, exec_exchangeReply hslot hparse, ?_⟩
  have hocc' : (s.live.bay b).btb.occupancy = .plugged := hocc
  have seen := beforeContent_served (e := s.dev.env) (l := s.live) (b := b) (sent := sent) (r := r)
    fun k hk => by simp [btbPstat, hk, hocc', hplug]
  obtain ⟨p, hp⟩ := (seen.bays b).btb
  obtain ⟨⟨q, hq⟩, hbase, hwalk, hmgu⟩ := handleReply_accepts (e := s.dev.env) (l := s.live) (b := b) (sent := sent) (r := r)
    hcontent hcoach (by rw [hp]; exact hocc') (by rw [seen.heldElsewhere]; exact hfree)
  obtain ⟨settled, pointer⟩ := settle_noted
    (d := { s.dev with live := (handleReply s.dev.env b sent r s.live).slotEnded s.dev.env })
    (by simp only [Live.slotEnded, hmgu, seen.mgu, hqueue])
  have noted : RecNoted ((handleReply s.dev.env b sent r s.live).bay b)
      ((s.goes ((handleReply s.dev.env b sent r s.live).slotEnded s.dev.env)).bay b) := settled.bays b
  have walk : (s.goes ((handleReply s.dev.env b sent r s.live).slotEnded s.dev.env)).live.walk.pointer =
      (s.live.slotEnded s.dev.env).walk.pointer := pointer.trans (by simp only [Live.slotEnded, hwalk, seen.walk])
  generalize s.goes ((handleReply s.dev.env b sent r s.live).slotEnded s.dev.env) = t at noted walk ⊢
  obtain ⟨x, hfal⟩ := noted.fal
  rw [noted.btb, hq, hp, hfal]
  exact ⟨rfl, rfl, rfl, rfl, rfl, rfl, rfl, hbase, walk⟩

end Sys2Proof.Machine

/-! # A teardown leaves nothing of the coach (R10, R11, R16, R66, R90, R112, R124, R143, R149, R161)

The teardown is followed in its own order, with one lemma for each block on what it leaves of the bay's record and of the row; the rest
of the reply then only takes notes. -/
namespace Sys2Proof.Machine

variable {e : Env} {b : Bay} {l l' : Live} {r r' : BayRec}

/-! ## Entries bound at most once (R152) -/

/-- At most one entry is bound to each bay. -/
def boundOnce (l : Live) : Prop := (l.departures.filterMap (·.bay)).Nodup

theorem boundOnce_of_departureLaw (h : departureLaw l = true) : boundOnce l := by
  simp only [departureLaw, Bool.and_eq_true, decide_eq_true_iff] at h
  exact h.1.2

theorem boundOnce_congr (h : bindings l' = bindings l) (hl : boundOnce l) : boundOnce l' := by
  have of (k : Live) : k.departures.filterMap (·.bay) = (bindings k).filterMap (·.2) := by simp [bindings]
  rw [boundOnce, of, h, ← of]
  exact hl

theorem eq_of_bound (h : boundOnce l) {x y : DepEntry} (hx : x ∈ l.departures) (hy : y ∈ l.departures) (hxb : x.bay = some b)
    (hyb : y.bay = some b) : x = y := by
  have apart : l.departures.Pairwise fun x y => x.bay = some b → y.bay = some b → x = y :=
    (List.pairwise_filterMap.1 h).imp fun hxy hxb hyb => absurd rfl (hxy b hxb b hyb)
  exact apart.forall_of_forall_of_flip (fun _ _ _ _ => rfl) (apart.imp fun hxy hyb hxb => (hxy hxb hyb).symm) hx hy hxb hyb

theorem boundEntry_eq_none_iff : boundEntry l b = none ↔ ∀ x ∈ l.departures, x.bay ≠ some b := by
  simp [boundEntry]

/-! ## The steps of a teardown -/

/-- Step 1: after the abort of the sweep no sweep is in progress (R88). -/
theorem stopSweep_stops {judging silent : Bool} : ((stopSweep e judging silent b l).bay b).lsw.sweep.inProgress = false := by
  by_cases h : (l.bay b).lsw.sweep.inProgress = true
  · have stays {k k' : Live} (hp : Passed .univ k k') (hk : (k.bay b).lsw.sweep.inProgress = false) :
        (k'.bay b).lsw.sweep.inProgress = false := (hp.bays b).sweep hk
    simp only [stopSweep, h, if_true, abortSweep, abortWith]
    refine stays ((reportSweep_passed (Set.mem_univ b)).after ((settleLamp_passed (Set.mem_univ b) (queueIn_univ _)).after
      (endPause_passed (Set.mem_univ b)))) ?_
    simp [SweepState.inProgress]
  · simp [stopSweep, h]

/-- Untold to DPC's judge, a new fault gate changes the gate and DPC's copy. -/
theorem evalFaultGate_untold : RowStands l (evalFaultGate e false b l) ∧
    ∃ g d, (evalFaultGate e false b l).bay b = { l.bay b with frd := { (l.bay b).frd with gate := g }, dpc := d } := by
  simp only [evalFaultGate]
  split
  · exact ⟨.refl l, _, _, rfl⟩
  · refine ⟨⟨rfl, rfl, rfl, rfl, rfl⟩, faultGateNow (l.bay b), (l.bay b).dpc.setGate .fault (faultGateNow (l.bay b)), ?_⟩
    simp [gateNotice]

theorem endRead_untold {status : ReadStatus} {cause : AbortCause} : RowStands l (endRead e false b status cause l) ∧
    ∃ m g d, (endRead e false b status cause l).bay b = { l.bay b with
      blm := m
      frd := { (l.bay b).frd with
        status := status, cause := cause, partialBytes := [], current := none, carried := false, gate := g }
      dpc := d } := by
  obtain ⟨row, g, d, hbay⟩ := evalFaultGate_untold (e := e) (b := b) (l := (withdrawJob b .frd l).modFrd b fun c =>
    { c with status := status, cause := cause, partialBytes := [], current := none, carried := false })
  refine ⟨⟨row.mgu, row.walk, row.cache, row.pool, row.bindings⟩, (l.bay b).blm.withdraw .frd, g, d, ?_⟩
  refine Eq.trans hbay ?_
  simp [withdrawJob]

/-- Step 2: the abort of a read leaves its results, and the row (R137, R149). -/
theorem stopRead_result (e : Env) (cause : AbortCause) (b : Bay) (l : Live) :
    RowStands l (stopRead e false cause b l) ∧
      ∃ m c d, (stopRead e false cause b l).bay b = { l.bay b with blm := m, frd := c, dpc := d } ∧
        c.list = (l.bay b).frd.list ∧ c.lost = (l.bay b).frd.lost ∧ c.blocking = (l.bay b).frd.blocking ∧
        c.status = (if (l.bay b).frd.status.inProgress then .aborted else (l.bay b).frd.status) ∧
        c.cause = if (l.bay b).frd.status.inProgress then cause else (l.bay b).frd.cause := by
  by_cases h : (l.bay b).frd.status.inProgress = true
  · obtain ⟨row, _, _, _, hbay⟩ := endRead_untold (e := e) (b := b) (l := l) (status := .aborted) (cause := cause)
    simp only [stopRead, h, if_true]
    exact ⟨row, _, _, _, hbay, rfl, rfl, rfl, rfl, rfl⟩
  · simp only [stopRead, h]
    exact ⟨.refl l, _, _, _, rfl, rfl, rfl, rfl, rfl, rfl⟩

/-- Step 3: the bay's row of the allocation is cleared, and the pass it sets off concerns the other bays alone (R124). -/
theorem clearRow_result (e : Env) (b : Bay) (l : Live) : RowStands l (clearRow e b l) ∧
    (clearRow e b l).bay b = { l.bay b with
      fal := { (l.bay b).fal with key := none, base := .none, lamp := .none, heat := .none } } := by
  have others : QueueIn {c | c ≠ b} { l with fal := { l.fal with queue := l.fal.queue.filter fun x => x.1 != b } } :=
    fun x hx => by simpa using (List.mem_filter.1 hx).2
  have cleared (k : Live) (hk : QueueIn {c | c ≠ b} k) :
      Passed {c | c ≠ b} k (finishPass e (judgeOvercommit e k)) := finishPass_passed (judgeOvercommit_admitted hk) hk
  have passed := cleared (Live.modFal { l with fal := { l.fal with queue := l.fal.queue.filter fun x => x.1 != b } } b
    fun f => { f with key := none, base := .none, lamp := .none, heat := .none }) others
  refine ⟨⟨passed.row.mgu, passed.row.walk, passed.row.cache, passed.row.pool, passed.row.bindings⟩,
    (passed.others b (by simp)).trans ?_⟩
  rw [bay_modFal_self]
  rfl

theorem releaseShare_none {k : ShareKind} (h : (shareOf l b k).state ≠ .admitted) : releaseShare e b k l = l := by
  simp only [releaseShare, freeShare, h, if_false, finishPass]
  rfl

/-- R112: the plan's heat share, waiting or admitted, goes. -/
def leaveShare (e : Env) (b : Bay) (l : Live) : Live :=
  match (l.bay b).php.state with
  | .waitFeed => withdrawShare e b .heat l
  | .heating => releaseShare e b .heat l
  | .maintain => releaseShare e b .heat l
  | .paused => releaseShare e b .heat l
  | _ => l

/-- R112: the heater command is cleared and the heat gate FAILs, untold to DPC's judge. -/
def failHeat (e : Env) (b : Bay) (l : Live) : Live :=
  if ((setHeater b false l).bay b).php.gate then
    gateNotice e false b .heat false ((setHeater b false l).modPhp b fun q => { q with gate := false })
  else setHeater b false l

theorem leavePlan_eq (e : Env) (b : Bay) (l : Live) : leavePlan e true b l =
    (clearLate b (failHeat e b (leaveShare e b l))).modPhp b fun q =>
      { q with unreachable := false, capped := false, staleCabin := false, lead := 0, state := .none } := by
  simp only [leavePlan, Bool.true_eq_false, and_false, if_false]
  rfl

theorem leaveShare_none (h : (l.bay b).fal.heat.state = .none) : leaveShare e b l = l := by
  have share : (shareOf l b .heat).state = .none := h
  have withdrawn : withdrawShare e b .heat l = l := withdrawShare_none e b .heat l (by simp [share]) (by simp [share])
  have released : releaseShare e b .heat l = l := releaseShare_none (by simp [share])
  unfold leaveShare
  split
  · exact withdrawn
  · exact released
  · exact released
  · exact released
  · rfl

theorem failHeat_bay : ∃ m q d, (failHeat e b l).bay b = { l.bay b with blm := m, php := q, dpc := d } ∧ q.gate = false := by
  unfold failHeat
  split
  · refine ⟨((setHeater b false l).bay b).blm, { (l.bay b).php with gate := false }, (l.bay b).dpc.setGate .heat false, ?_, rfl⟩
    simp [gateNotice, setHeater]
  · rename_i hgate
    refine ⟨((setHeater b false l).bay b).blm, (l.bay b).php, (l.bay b).dpc, ?_, ?_⟩
    · simp [setHeater]
    · simpa [setHeater] using hgate

theorem lateNotice_bay {late : Bool} {c : Bay} : (lateNotice b late l).bay c = l.bay c := by
  unfold lateNotice
  split <;> rfl

theorem clearLate_bay : (clearLate b l).bay b = { l.bay b with php := { (l.bay b).php with late := false } } := by
  unfold clearLate
  split
  · simp [lateNotice_bay]
  · rename_i hlate
    cases hb : l.bay b with
    | mk btb blm scv lsw frd php fal dpc =>
      have : php.late = false := by simpa [hb] using hlate
      simp [← this]

/-- Step 4: the bay leaves its plan, which holds no share any more (R112). -/
theorem leavePlan_result (e : Env) (h : (l.bay b).fal.heat.state = .none) : RowStands l (leavePlan e true b l) ∧
    ∃ m q d, (leavePlan e true b l).bay b = { l.bay b with blm := m, php := q, dpc := d } ∧ q.state = .none ∧ q.gate = false := by
  refine ⟨leavePlan_supplied.row, ?_⟩
  obtain ⟨m, q, d, hfailed, hgate⟩ := failHeat_bay (e := e) (b := b) (l := l)
  rw [leavePlan_eq, leaveShare_none h, bay_modPhp_self, clearLate_bay, hfailed]
  exact ⟨m, _, d, rfl, rfl, hgate⟩

/-- FAL and PHP have nothing to hear of a bay without key, entry and plan. -/
theorem tellBay_idle (hkey : (l.bay b).fal.key = none) (hbound : boundEntry l b = none) (hplan : (l.bay b).php.state = .none) :
    tellBay e b none l = l := by
  simp [tellBay, setKey, hkey, planNotice, plannableTarget, hbound, hplan]

/-- Step 6 but for its notices: the entry bound to the bay departs with the coach or loses its bay (R161). -/
def endEntry (e : Env) (purpose : Purpose) (b : Bay) (l : Live) : Live :=
  match boundEntry l b with
  | none => l
  | some x =>
    if purpose = .depart then
      addBayReason e b .departed ((removeEntry x.id l).modDpc b fun d => { d with lastOutcome := .departed x.id })
    else
      addBayReason e b .uncleared ((updateEntry x.id DepEntry.unbound l).modDpc b fun d => { d with lastOutcome := .uncleared x.id })

theorem endEntry_unbinds {purpose : Purpose} (h : boundOnce l) : boundEntry (endEntry e purpose b l) b = none := by
  cases hx : boundEntry l b with
  | none => simp [endEntry, hx]
  | some x =>
    obtain ⟨hmem, hbay⟩ := boundEntry_some hx
    have only {y : DepEntry} (hy : y ∈ l.departures) (hyb : y.bay = some b) : y = x := eq_of_bound h hy hmem hyb hbay
    simp only [endEntry, hx]
    rw [boundEntry_eq_none_iff]
    split
    · intro y hy hyb
      obtain ⟨hy, hne⟩ := List.mem_filter.1 hy
      exact absurd (only hy hyb) fun heq => by simp [heq] at hne
    · intro y hy
      obtain ⟨z, hz, rfl⟩ := List.mem_map.1 hy
      by_cases hid : z.id = x.id
      · simp [hid, DepEntry.unbound]
      · simp only [hid, beq_iff_eq, if_false]
        exact fun hzb => hid (by rw [only hz hzb])

/-- Step 6: no entry is bound to the bay, and DPC's copies of the gates are FAIL. -/
theorem settleEntry_result (e : Env) (purpose : Purpose) (honce : boundOnce l) (hkey : (l.bay b).fal.key = none)
    (hplan : (l.bay b).php.state = .none) : boundEntry (settleEntry e purpose b l) b = none ∧
      (settleEntry e purpose b l).cache = l.cache ∧ (settleEntry e purpose b l).pool = l.pool ∧
      (settleEntry e purpose b l).mgu = l.mgu ∧
      ∃ d, (settleEntry e purpose b l).bay b = { l.bay b with dpc := d } ∧ d.lampGate = false ∧ d.faultGate = false ∧
        d.heatGate = false := by
  have ended : (endEntry e purpose b l).cache = l.cache ∧ (endEntry e purpose b l).pool = l.pool ∧
      (endEntry e purpose b l).mgu = l.mgu ∧ ∃ d, (endEntry e purpose b l).bay b = { l.bay b with dpc := d } := by
    unfold endEntry
    split
    · exact ⟨rfl, rfl, rfl, _, rfl⟩
    · split
      · exact ⟨rfl, rfl, rfl, _, by rw [addBayReason, addReason_bay, bay_modDpc_self]; rfl⟩
      · exact ⟨rfl, rfl, rfl, _, by rw [addBayReason, addReason_bay, bay_modDpc_self]; rfl⟩
  obtain ⟨hcache, hpool, hmgu, d, hbay⟩ := ended
  have unbound : boundEntry (endEntry e purpose b l) b = none := endEntry_unbinds honce
  have settled : settleEntry e purpose b l = (endEntry e purpose b l).modDpc b fun d =>
      { d with lampGate := false, faultGate := false, heatGate := false } := by
    have told := tellBay_idle (e := e) (l := endEntry e purpose b l) (by rw [hbay]; exact hkey) unbound (by rw [hbay]; exact hplan)
    rw [← told]
    rfl
  rw [settled]
  exact ⟨unbound, hcache, hpool, hmgu, _, by rw [bay_modDpc_self, hbay], rfl, rfl, rfl⟩

/-- Step 7 for the bay: its list is empty, parked or forgotten. -/
theorem parkOrForget_result (e : Env) (purpose : Purpose) (b : Bay) (l : Live) :
    (parkOrForget e purpose b l).departures = l.departures ∧ (parkOrForget e purpose b l).mgu = l.mgu ∧
      (parkOrForget e purpose b l).bay b =
        { l.bay b with frd := { (l.bay b).frd with list := [], blocking := 0, lost := 0 } } := by
  have evicted : (evictOldest l).departures = l.departures ∧ (evictOldest l).mgu = l.mgu ∧ (evictOldest l).bays = l.bays := by
    unfold evictOldest
    split <;> exact ⟨rfl, rfl, rfl⟩
  have parked (k : Live) (c : List ParkedSlot) : Live.bay { (k.modFrd b fun c => { c with list := [], blocking := 0, lost := 0 }) with
      cache := c } b = { k.bay b with frd := { (k.bay b).frd with list := [], blocking := 0, lost := 0 } } :=
    bay_modFrd_self fun c => { c with list := [], blocking := 0, lost := 0 }
  obtain ⟨hdep, hmgu, hbays⟩ := evicted
  unfold parkOrForget
  split
  · simp only [parkCoach]
    split
    · exact ⟨hdep, hmgu, (parked _ _).trans (by simp [Live.bay, hbays])⟩
    · exact ⟨rfl, rfl, parked _ _⟩
  · exact ⟨rfl, rfl, bay_modFrd_self fun c => { c with list := [], blocking := 0, lost := 0 }⟩

/-- Step 7 for the row: a parked coach's slot joins the cache behind the eviction of the oldest of four, and the cells of a forgotten
list return to the pool (R11, R16). -/
theorem parkOrForget_cache (e : Env) (purpose : Purpose) (b : Bay) (l : Live) :
    (parks e (l.bay b) purpose = true →
      (parkOrForget e purpose b l).cache = l.cache.drop (if 4 ≤ l.cache.length then 1 else 0) ++ [parkedSlot e (l.bay b)] ∧
      (parkOrForget e purpose b l).pool.free = l.pool.free +
        (if 4 ≤ l.cache.length then (l.cache.head?.map fun x => heldCells x.list).getD 0 else 0)) ∧
    (parks e (l.bay b) purpose = false →
      (parkOrForget e purpose b l).cache = l.cache ∧
      (parkOrForget e purpose b l).pool.free = l.pool.free + heldCells (l.bay b).frd.list) := by
  constructor
  · intro h
    simp only [parkOrForget, h, if_true, parkCoach, Config.cacheMax]
    by_cases hfull : 4 ≤ l.cache.length
    · simp only [hfull, if_true]
      cases hc : l.cache with
      | nil => simp [hc] at hfull
      | cons x rest => simp [evictOldest, hc, freeCells]
    · simp [hfull]
  · intro h
    simp only [parkOrForget, h]
    exact ⟨rfl, rfl⟩

/-! ## The teardown as a whole -/

/-- The services of a bay have ended and its coach and results still stand: the record behind step 5 of a teardown. -/
structure ServicesEnded (r r' : BayRec) : Prop where
  btb : ∃ p, r'.btb = { r.btb with purpose := p }
  map : r'.lsw.map = r.lsw.map
  sweep : r'.lsw.sweep.inProgress = false
  list : r'.frd.list = r.frd.list
  lost : r'.frd.lost = r.frd.lost
  blocking : r'.frd.blocking = r.frd.blocking
  status : r'.frd.status = if r.frd.status.inProgress then .aborted else r.frd.status
  cause : r'.frd.cause = if r.frd.status.inProgress then .plugOut else r.frd.cause
  key : r'.fal.key = none
  base : r'.fal.base = .none
  lamp : r'.fal.lamp = .none
  heat : r'.fal.heat = .none
  plan : r'.php.state = .none
  gate : r'.php.gate = false
  queue : r'.blm.queue = []
  job : r'.blm.job = none
  claimLsw : r'.blm.claimLsw = none
  claimFrd : r'.blm.claimFrd = none
  desired : r'.blm.desired = .off

/-- Steps 1 to 5 of a teardown (R10). -/
def endServices (e : Env) (b : Bay) (l : Live) : Live :=
  let l2 := clearRow e b (stopRead e false .plugOut b (stopSweep e false false b l))
  (if (l2.bay b).php.state = .none then l2 else leavePlan e true b l2).modBlm b fun m =>
    { m.clearFrames with desired := .off, dirty := true }

theorem teardown_eq (e : Env) (b : Bay) (p : Pstat) (l : Live) : teardown e b p l =
    if breakaway (l.bay b).btb.purpose p then
      addBayReason e b .breakaway (vacate e b (parkOrForget e (l.bay b).btb.purpose b
        (settleEntry e (l.bay b).btb.purpose b (endServices e b l))))
    else vacate e b (parkOrForget e (l.bay b).btb.purpose b (settleEntry e (l.bay b).btb.purpose b (endServices e b l))) := rfl

theorem endServices_result (e : Env) (h : (l.bay b).php.state = .none → (l.bay b).php.gate = false) :
    RowStands l (endServices e b l) ∧ ServicesEnded (l.bay b) ((endServices e b l).bay b) := by
  simp only [endServices]
  have swept : Passed .univ l (stopSweep e false false b l) := stopSweep_passed (Set.mem_univ b) (queueIn_univ l)
  have hrec := swept.bays b
  have hsweep := stopSweep_stops (e := e) (b := b) (l := l) (judging := false) (silent := false)
  generalize stopSweep e false false b l = l1 at swept hrec hsweep ⊢
  obtain ⟨hread, m, c, d, hbay, hlist, hlost, hblocking, hstatus, hcause⟩ := stopRead_result e .plugOut b l1
  obtain ⟨hrow, hfal⟩ := clearRow_result e b (stopRead e false .plugOut b l1)
  rw [hbay] at hfal
  have hrow := (swept.row.trans hread).trans hrow
  generalize clearRow e b (stopRead e false .plugOut b l1) = l2 at hrow hfal ⊢
  have hphp : (l2.bay b).php = (l1.bay b).php := by rw [hfal]
  have planless : RowStands l (if (l2.bay b).php.state = .none then l2 else leavePlan e true b l2) ∧
      ∃ m q d, (if (l2.bay b).php.state = .none then l2 else leavePlan e true b l2).bay b =
        { l2.bay b with blm := m, php := q, dpc := d } ∧ q.state = .none ∧ q.gate = false := by
    split
    · rename_i hplan
      have hgate : (l2.bay b).php.gate = false := by
        rw [hphp] at hplan ⊢
        exact hrec.gate.trans (h (hrec.plan.1 hplan))
      exact ⟨hrow, (l2.bay b).blm, (l2.bay b).php, (l2.bay b).dpc, rfl, hplan, hgate⟩
    · obtain ⟨hleft, left⟩ := leavePlan_result (l := l2) (b := b) e (by rw [hfal]; rfl)
      exact ⟨hrow.trans hleft, left⟩
  obtain ⟨hrow, m', q, d', hleft, hplan, hgate⟩ := planless
  refine ⟨hrow.trans (.modBay _ _ _), ?_⟩
  rw [bay_modBlm_self, hleft, hfal]
  rw [hrec.frd] at hlist hlost hblocking hstatus hcause
  exact
    { btb := hrec.btb, map := hrec.map, sweep := hsweep, list := hlist, lost := hlost, blocking := hblocking, status := hstatus,
      cause := hcause, key := rfl, base := rfl, lamp := rfl, heat := rfl, plan := hplan, gate := hgate, queue := rfl, job := rfl,
      claimLsw := rfl, claimFrd := rfl, desired := rfl }

/-- Nothing of a coach is left in a record that was `r`. -/
structure NothingLeft (r r' : BayRec) : Prop where
  btb : r'.btb = { r.btb with occupancy := .vacant, coach := 0, attempts := 0, identFailed := false, dupCoach := false,
                              profileMissing := false, purpose := .none }
  frames : r'.blm.queue = [] ∧ r'.blm.job = none ∧ r'.blm.claimLsw = none ∧ r'.blm.claimFrd = none
  desired : r'.blm.desired = .off
  cabin : r'.scv.held = none ∧ r'.scv.age = Config.cabinAgeMax
  lamps : r'.lsw.map = untestedMap ∧ r'.lsw.sweep.inProgress = false ∧ r'.lsw.gate = false
  faults : r'.frd.status = .none ∧ r'.frd.cause = .none ∧ r'.frd.list = [] ∧ r'.frd.blocking = 0 ∧ r'.frd.lost = 0 ∧
    r'.frd.gate = false
  plan : r'.php.state = .none ∧ r'.php.gate = false
  shares : r'.fal.key = none ∧ r'.fal.base = .none ∧ r'.fal.lamp = .none ∧ r'.fal.heat = .none
  gates : r'.dpc.lampGate = false ∧ r'.dpc.faultGate = false ∧ r'.dpc.heatGate = false

/-- What the row keeps of the coach of a bay that was `r`, in a live state that was `l` (R11, R16). -/
def CoachKept (e : Env) (r : BayRec) (l l' : Live) : Prop :=
  if r.btb.occupancy = .occupied ∧ r.btb.purpose ≠ .depart ∧ e.params.holdTime ≠ 0 then
    l'.cache = l.cache.drop (if 4 ≤ l.cache.length then 1 else 0) ++
      [{ parkedSlot e r with
         status := if r.frd.status.inProgress then .aborted else r.frd.status
         cause := if r.frd.status.inProgress then .plugOut else r.frd.cause }] ∧
    l'.pool.free = l.pool.free + (if 4 ≤ l.cache.length then (l.cache.head?.map fun x => heldCells x.list).getD 0 else 0)
  else l'.cache = l.cache ∧ l'.pool.free = l.pool.free + heldCells r.frd.list

/-- What a teardown leaves: nothing in the bay, no entry bound to it, and in the row its coach, parked or forgotten. -/
structure TornDown (e : Env) (b : Bay) (l l' : Live) : Prop where
  bay : NothingLeft (l.bay b) (l'.bay b)
  unbound : boundEntry l' b = none
  kept : CoachKept e (l.bay b) l l'
  mgu : l'.mgu = l.mgu

/-- Step 8 of a teardown writes no more than the bay's record and a reason. -/
theorem vacate_row (e : Env) (b : Bay) (l : Live) : (vacate e b l).departures = l.departures ∧ (vacate e b l).mgu = l.mgu ∧
    (vacate e b l).cache = l.cache ∧ (vacate e b l).pool = l.pool := by
  simp [vacate, addBayReason]

/-- Step 8: with services and entry ended and the list parked or forgotten, nothing is left. -/
theorem vacate_nothingLeft {d : DpcPart} (hended : ServicesEnded r r')
    (hbay : l.bay b = { r' with dpc := d, frd := { r'.frd with list := [], blocking := 0, lost := 0 } })
    (hlamp : d.lampGate = false) (hfault : d.faultGate = false) (hheat : d.heatGate = false) :
    NothingLeft r ((vacate e b l).bay b) := by
  have hrec : (vacate e b l).bay b = { l.bay b with
      btb := { (l.bay b).btb with occupancy := .vacant, coach := 0, attempts := 0, identFailed := false, dupCoach := false,
                                  profileMissing := false, purpose := .none }
      lsw := { (l.bay b).lsw with map := untestedMap, gate := false }
      frd := { (l.bay b).frd with status := .none, cause := .none, gate := false }
      scv := { (l.bay b).scv with held := none, age := Config.cabinAgeMax } } := by
    simp [vacate, addBayReason]
  obtain ⟨q, hbtb⟩ := hended.btb
  rw [hrec, hbay]
  exact
    { btb := by simp only [hbtb], frames := ⟨hended.queue, hended.job, hended.claimLsw, hended.claimFrd⟩,
      desired := hended.desired, cabin := ⟨rfl, rfl⟩, lamps := ⟨rfl, hended.sweep, rfl⟩,
      faults := ⟨rfl, rfl, rfl, rfl, rfl, rfl⟩, plan := ⟨hended.plan, hended.gate⟩,
      shares := ⟨hended.key, hended.base, hended.lamp, hended.heat⟩, gates := ⟨hlamp, hfault, hheat⟩ }

/-- The services' end does not decide whether a coach is parked. -/
theorem ServicesEnded.parks_iff {d : DpcPart} (h : ServicesEnded r r') : parks e { r' with dpc := d } r.btb.purpose = true ↔
    r.btb.occupancy = .occupied ∧ r.btb.purpose ≠ .depart ∧ e.params.holdTime ≠ 0 := by
  obtain ⟨q, hbtb⟩ := h.btb
  simp [parks, hbtb, and_assoc]

/-- The slot of a coach whose services have ended: its results as they stood, a read in progress ABORTED (R149). -/
theorem ServicesEnded.parkedSlot_eq {d : DpcPart} (h : ServicesEnded r r') : parkedSlot e { r' with dpc := d } =
    { parkedSlot e r with
      status := if r.frd.status.inProgress then .aborted else r.frd.status
      cause := if r.frd.status.inProgress then .plugOut else r.frd.cause } := by
  obtain ⟨q, hbtb⟩ := h.btb
  simp only [parkedSlot, hbtb, h.map, h.list, h.lost, h.status, h.cause, h.blocking]

theorem teardown_tornDown (e : Env) (p : Pstat) (honce : boundOnce l)
    (h : (l.bay b).php.state = .none → (l.bay b).php.gate = false) : TornDown e b l (teardown e b p l) := by
  rw [teardown_eq]
  obtain ⟨hrow, hended⟩ := endServices_result e h
  generalize endServices e b l = k0 at hrow hended ⊢
  obtain ⟨hunbound, hcache, hpool, hmgu, d, hentry, hlamp, hfault, hheat⟩ := settleEntry_result e (l.bay b).btb.purpose
    (boundOnce_congr hrow.bindings honce) hended.key hended.plan
  generalize settleEntry e (l.bay b).btb.purpose b k0 = k1 at hunbound hcache hpool hmgu hentry ⊢
  obtain ⟨hparked, hforgotten⟩ := parkOrForget_cache e (l.bay b).btb.purpose b k1
  obtain ⟨hdep, hmgu', hbay⟩ := parkOrForget_result e (l.bay b).btb.purpose b k1
  generalize parkOrForget e (l.bay b).btb.purpose b k1 = k at hparked hforgotten hdep hmgu' hbay ⊢
  rw [hentry, hcache, hpool, hrow.cache, hrow.pool] at hparked hforgotten
  rw [hended.parkedSlot_eq] at hparked
  obtain ⟨vdep, vmgu, vcache, vpool⟩ := vacate_row e b k
  have kept : CoachKept e (l.bay b) l (vacate e b k) := by
    rw [CoachKept, vcache, vpool]
    split
    · rename_i hcoach
      exact hparked (hended.parks_iff.2 hcoach)
    · rename_i hcoach
      have forgotten := hforgotten (Bool.eq_false_iff.2 fun hp => hcoach (hended.parks_iff.1 hp))
      exact ⟨forgotten.1, forgotten.2.trans (by rw [hended.list])⟩
  have vacated : TornDown e b l (vacate e b k) :=
    ⟨vacate_nothingLeft hended (by rw [hbay, hentry]) hlamp hfault hheat, (boundEntry_congr _ _ _ (vdep.trans hdep)).trans hunbound,
      kept, vmgu.trans (hmgu'.trans (hmgu.trans hrow.mgu))⟩
  split
  · exact ⟨vacated.bay, vacated.unbound, vacated.kept, vacated.mgu⟩
  · exact vacated

end Sys2Proof.Machine

/-! # A plug seen OUT (R10, R30)

The reply that shows the plug OUT tears the bay down at its third step; what is left of the reply only takes notes on a bay that has
nothing, and so does the part while MGU has no request. -/
namespace Sys2Proof.Machine

variable {e : Env} {b : Bay} {l l' l'' : Live} {r r' r'' : BayRec}

theorem NothingLeft.noted (h : NothingLeft r r') (h' : RecNoted r' r'') : NothingLeft r r'' := by
  obtain ⟨_, hlsw⟩ := h'.lsw
  obtain ⟨_, _, hfrd⟩ := h'.frd
  obtain ⟨_, hphp⟩ := h'.php
  obtain ⟨_, hfal⟩ := h'.fal
  obtain ⟨_, hdpc⟩ := h'.dpc
  obtain ⟨hqueue, hjob, hclaimLsw, hclaimFrd⟩ := h.frames
  exact
    { btb := h'.btb.trans h.btb
      frames := ⟨h'.queue.trans hqueue, h'.job hjob, h'.claimLsw.trans hclaimLsw, h'.claimFrd.trans hclaimFrd⟩
      desired := h'.desired.trans h.desired
      cabin := by rw [h'.scv]; exact h.cabin
      lamps := by rw [hlsw]; exact h.lamps
      faults := by rw [hfrd]; exact h.faults
      plan := by rw [hphp]; exact h.plan
      shares := by rw [hfal]; exact h.shares
      gates := by rw [hdpc]; exact h.gates }

theorem TornDown.noted (h : TornDown e b l l') (h' : Noted l' l'') : TornDown e b l l'' where
  bay := h.bay.noted (h'.bays b)
  unbound := (boundEntry_congr _ _ _ h'.departures).trans h.unbound
  kept := by
    have kept := h.kept
    rwa [CoachKept, ← h'.cache, ← h'.pool] at kept
  mgu := h'.mgu.trans h.mgu

theorem TornDown.slotEnded (h : TornDown e b l l') : TornDown e b l (l'.slotEnded e) := ⟨h.bay, h.unbound, h.kept, h.mgu⟩

/-! ## The rest of the reply -/

theorem TornDown.vacant (h : TornDown e b l l') : (l'.bay b).btb.occupancy = .vacant := by rw [h.bay.btb]

theorem TornDown.sweep_ne_running (h : TornDown e b l l') : (l'.bay b).lsw.sweep ≠ .running := fun hrun => by
  have stopped := h.bay.lamps.2.1
  rw [hrun] at stopped
  cases stopped

theorem TornDown.status_eq (h : TornDown e b l l') : (l'.bay b).frd.status = .none := h.bay.faults.1

theorem TornDown.pstat_noted (h : TornDown e b l l') (p : Pstat) :
    Noted l' (frdPstat e b p.alert (falPstat e b p.contactorClosed (phpPstat b p.heaterOn (dpcPstat e b p.latchReleased l')))) := by
  rw [pstatBehindBtb_idle (by simp [h.unbound]) (by simp [h.bay.shares, Share.none]) (by simp [h.vacant])]
  exact modBay_noted ⟨rfl, rfl, id, rfl, rfl, rfl, rfl, ⟨_, rfl⟩, ⟨_, _, rfl⟩, ⟨_, rfl⟩, ⟨_, rfl⟩, ⟨_, rfl⟩⟩

/-- R30 step 4 finds neither job nor office frame. -/
theorem TornDown.removeAnswered_noted (h : TornDown e b l l') (sent : SentFrame) :
    Noted l' (l'.modBlm b (·.removeAnswered sent)) := by
  obtain ⟨hqueue, hjob, -, -⟩ := h.bay.frames
  have stands : (l'.bay b).blm.removeAnswered sent = (l'.bay b).blm := by
    cases sent <;> simp [BlmPart.removeAnswered, hqueue, hjob]
  exact modBlm_noted (by rw [stands]) (fun _ => by rw [stands, hjob]) (by rw [stands]) (by rw [stands]) (by rw [stands])

theorem sendUp_noted {f : OfficeFrame} : Noted l (sendUp e b f l) := by
  unfold sendUp
  split
  · unfold offerForward
    split <;> exact .of_eq rfl rfl rfl rfl rfl
  · exact .refl l

/-- A sample finds no coach and no sweep (R64, R83). -/
theorem TornDown.takeSample_noted (h : TornDown e b l l') (flags tag : Byte) (code : Nat) :
    Noted l' (takeSample e b flags tag code l') := by
  unfold takeSample
  split
  · split
    · split
      · simp [takeCabin, h.vacant, Noted.refl]
      · rw [takeLamp, lampSample_idle h.sweep_ne_running]
        exact .refl l'
    · exact .refl l'
  · exact .of_eq rfl rfl rfl rfl rfl

theorem TornDown.deliver_noted (h : TornDown e b l l') (c : ReplyContent) : Noted l' (deliver e b c l') := by
  cases c with
  | stat => exact .refl l'
  | idrp coach profile => simp [deliver, takeIdrp, h.vacant, Noted.refl]
  | smp flags tag code => exact h.takeSample_noted flags tag code
  | cdata offset data =>
    rw [deliver, frdCdata_idle (by simp [h.status_eq])]
    exact .refl l'
  | cbusy => exact .refl l'
  | cnak => exact .refl l'
  | cdone =>
    rw [deliver, frdCdone_idle (by simp [h.status_eq])]
    exact .refl l'
  | office f => exact sendUp_noted

theorem linkReturn_noted {was : Link} : Noted l (linkReturn e was b l) := by
  have marked : Noted l (l.modBlm b fun m => { m with dirty := true }) := modBlm_noted rfl id rfl rfl rfl
  cases was with
  | online => exact .refl l
  | unheard => exact marked
  | silent => exact marked.trans addBayReason_noted

theorem recordEnd_noted {x : Recent} : Noted l (l.modBlm b (·.recordEnd x)) := modBlm_noted rfl id rfl rfl rfl

/-- No block has work in progress that an end of an exchange could settle; FRD at most drops its mark. -/
theorem TornDown.announceEnd_noted (h : TornDown e b l l') (sent : SentFrame) (x : ExchangeEnd) :
    Noted l' (announceEnd e b sent x l') := by
  rw [announceEnd, btbExchangeEnd_idle (.inr (by simp [identifying, h.vacant])), lswExchangeEnd_idle h.sweep_ne_running]
  simp only [frdExchangeEnd]
  split
  · have dropped : Noted l' (l'.modFrd b fun c => { c with carried := false }) :=
      modBay_noted ⟨rfl, rfl, id, rfl, rfl, rfl, rfl, ⟨_, rfl⟩, ⟨_, _, rfl⟩, ⟨_, rfl⟩, ⟨_, rfl⟩, ⟨_, rfl⟩⟩
    simp [settleFrd, h.status_eq, dropped]
  · exact .refl l'

theorem TornDown.behindContent_noted (h : TornDown e b l l') (was : Link) (sent : SentFrame) (reply : Reply) :
    Noted l' (behindContent e was b sent reply l') := by
  have ended := (linkReturn_noted (e := e) (b := b) (l := l') (was := was)).trans
    (recordEnd_noted (b := b) (x := .reply reply.pstat.samplePending (sent == .samplePoll)))
  exact ended.trans ((h.noted ended).announceEnd_noted sent _)

/-- From the state in which the plug is first compared, a reply that shows it OUT tears the bay down. -/
theorem handleReply_tornDown {sent : SentFrame} {reply : Reply}
    (hocc : (l.bay b).btb.occupancy = .plugged ∨ (l.bay b).btb.occupancy = .occupied) (hplug : reply.pstat.plugIn = false)
    (honce : boundOnce l) (hgate : (l.bay b).php.state = .none → (l.bay b).php.gate = false) :
    TornDown e b (l.modBlm b fun m => m.heard.compare reply.pstat) (handleReply e b sent reply l) := by
  have torn : TornDown e b (l.modBlm b fun m => m.heard.compare reply.pstat)
      (btbPstat e b reply.pstat (l.modBlm b fun m => m.heard.compare reply.pstat)) := by
    have down : btbPstat e b reply.pstat (l.modBlm b fun m => m.heard.compare reply.pstat) =
        teardown e b reply.pstat (l.modBlm b fun m => m.heard.compare reply.pstat) := by
      rcases hocc with h | h <;> simp [btbPstat, h, hplug]
    rw [down]
    exact teardown_tornDown e reply.pstat honce (by simpa using hgate)
  have told := torn.noted (torn.pstat_noted reply.pstat)
  have before := told.noted (told.removeAnswered_noted sent)
  have delivered := before.noted (before.deliver_noted reply.content)
  exact delivered.noted (delivered.behindContent_noted (l.bay b).blm.link sent reply)

theorem ReadStatus.inProgress_iff (x : ReadStatus) : x.inProgress = true ↔ x = .reading ∨ x = .clearing := by
  cases x <;> simp [ReadStatus.inProgress]

/-- Settles O24: the reply tears the bay down by `handleReply_tornDown`, and the part then takes notes alone. -/
theorem teardownLeavesNothingBehind : Obligations.TeardownLeavesNothingBehind := by
  intro s b sent timeout bytes r hslot hparse hocc hplug hgate hlaw hqueue
  refine ⟨_, exec_exchangeReply hslot hparse, ?_⟩
  have replied := handleReply_tornDown (e := s.dev.env) (l := s.live) (b := b) (sent := sent) (reply := r) hocc hplug
    (boundOnce_of_departureLaw hlaw) hgate
  have ended := replied.slotEnded
  have torn : TornDown s.dev.env b (s.live.modBlm b fun m => m.heard.compare r.pstat)
      (s.goes ((handleReply s.dev.env b sent r s.live).slotEnded s.dev.env)).live := ended.noted (settle_noted
    (d := { s.dev with live := (handleReply s.dev.env b sent r s.live).slotEnded s.dev.env })
    (by rw [ended.mgu]; exact hqueue)).1
  generalize s.goes ((handleReply s.dev.env b sent r s.live).slotEnded s.dev.env) = t at torn ⊢
  obtain ⟨⟨hbtb, ⟨hframes, hjob, hclaimLsw, hclaimFrd⟩, hdesired, ⟨hheld, hage⟩, ⟨hmap, hsweep, hlamps⟩,
    ⟨hstatus, hcause, hlist, hblocking, hlost, hfaults⟩, ⟨hplan, hheat⟩, ⟨hkey, hbase, hlamp, hshare⟩,
    ⟨hlampGate, hfaultGate, hheatGate⟩⟩, hunbound, hkept, -⟩ := torn
  refine ⟨?_, hframes, hjob, hclaimLsw, hclaimFrd, hdesired, hheld, hage, ?_, hsweep, hlamps, hstatus, hcause, hlist, hblocking,
    hlost, hfaults, hplan, hheat, hkey, ?_, ?_, ?_, hlampGate, hfaultGate, hheatGate, hunbound, ?_⟩
  · rw [bay_modBlm_self] at hbtb
    exact hbtb
  · intro i
    exact (congrArg (·.get i) hmap).trans (untestedMap_get i)
  · exact congrArg Share.state hbase
  · exact congrArg Share.state hlamp
  · exact congrArg Share.state hshare
  · simp only [CoachKept, bay_modBlm_self, parkedSlot, ReadStatus.inProgress_iff] at hkept
    exact hkept

end Sys2Proof.Machine

/-! # A plug first seen IN (R2, R3, R30, R33, R36)

The reply begins identification at its third step. Both halves of the reply, before and behind the delivery of its content, come to one
change of the bay's record, so that each kind of content is read off against the state in which nothing was delivered. -/
namespace Sys2Proof.Machine

variable {e : Env} {b : Bay} {l l' : Live} {sent : SentFrame} {reply : Reply}

/-- A bay with nothing left of a coach, at which a plug is seen IN. -/
structure Bare (b : Bay) (l : Live) : Prop where
  occupancy : (l.bay b).btb.occupancy = .unknown ∨ (l.bay b).btb.occupancy = .vacant
  job : (l.bay b).blm.job = none
  claimLsw : (l.bay b).blm.claimLsw = none
  claimFrd : (l.bay b).blm.claimFrd = none
  entry : ∀ x : DepEntry, boundEntry l b = some x → x.state = .waiting
  heat : (l.bay b).fal.heat.state ≠ .admitted
  sweep : (l.bay b).lsw.sweep ≠ .running
  reading : (l.bay b).frd.status ≠ .reading
  clearing : (l.bay b).frd.status ≠ .clearing
  carried : (l.bay b).frd.carried = false
  plan : (l.bay b).php.state = .none

/-! ## Before the content -/

/-- The frame sent is the office frame at the head of the queue, marked as sent. -/
def answeredBy (sent : SentFrame) (m : BlmPart) : Bool :=
  match sent with
  | .office f => m.headSent && m.queue.head? == some f
  | _ => false

/-- R30 step 4 where the job slot holds an IDENT not yet sent. -/
theorem removeAnswered_eq {m : BlmPart} (h : m.job = some ⟨.ident, false⟩) : m.removeAnswered sent =
    { m with queue := if answeredBy sent m = true then m.queue.tail else m.queue, headSent := m.headSent && !answeredBy sent m } := by
  cases sent with
  | job f =>
    rw [BlmPart.removeAnswered, if_neg (by simp [h])]
    simp [answeredBy]
  | office f =>
    by_cases ha : m.headSent = true ∧ m.queue.head? = some f
    · simp [BlmPart.removeAnswered, answeredBy, ha]
    · have hb : (m.headSent && m.queue.head? == some f) = false := by simpa using ha
      simp [BlmPart.removeAnswered, answeredBy, ha, hb]
  | actuate a => simp [BlmPart.removeAnswered, answeredBy]
  | samplePoll => simp [BlmPart.removeAnswered, answeredBy]
  | poll => simp [BlmPart.removeAnswered, answeredBy]

/-- BTB's part as identification begins (R2, R3). -/
def BtbPart.begun (x : BtbPart) : BtbPart :=
  { x with occupancy := .plugged, coach := 0, attempts := 0, identFailed := false, dupCoach := false, profileMissing := false }

/-- BLM's part as a reply's plug is seen IN and the frame it answered goes. -/
def BlmPart.begun (sent : SentFrame) (p : Pstat) (m : BlmPart) : BlmPart :=
  { m.heard.compare p with
    job := some ⟨.ident, false⟩
    queue := if answeredBy sent m = true then m.queue.tail else m.queue
    headSent := m.headSent && !answeredBy sent m }

/-- The record of a bay whose plug is seen IN, before the content of the reply. -/
def BayRec.begun (sent : SentFrame) (p : Pstat) (x : BayRec) : BayRec :=
  { x with
    btb := x.btb.begun
    blm := x.blm.begun sent p
    frd := { x.frd with alertSeen := p.alert }
    php := { x.php with heaterReported := p.heaterOn }
    fal := { x.fal with contactorReported := p.contactorClosed }
    dpc := { x.dpc with latchReported := p.latchReleased } }

/-- The live state as a plug has been seen IN, before the content of the reply. -/
def begunIn (e : Env) (b : Bay) (sent : SentFrame) (p : Pstat) (l : Live) : Live :=
  addBayReason e b .plug (l.modBay b (·.begun sent p))

theorem begunIn_bay {p : Pstat} : (begunIn e b sent p l).bay b = (l.bay b).begun sent p :=
  (addReason_bay _ _ _ _ _).trans (bay_modBay_self _)

theorem begunIn_heldElsewhere {p : Pstat} {coach : Nat} :
    heldElsewhere (begunIn e b sent p l) b coach = heldElsewhere l b coach :=
  heldElsewhere_congr fun c hc => by simp [begunIn, addBayReason, bay_modBay_ne _ hc]

/-- R2, R3: BTB's action on the PSTAT is PLUG and the beginning of identification. -/
theorem btbPstat_begins {p : Pstat} (hocc : (l.bay b).btb.occupancy = .unknown ∨ (l.bay b).btb.occupancy = .vacant)
    (hjob : (l.bay b).blm.job = none) (hplug : p.plugIn = true) : btbPstat e b p l = addBayReason e b .plug
      (l.modBay b fun x => { x with btb := x.btb.begun, blm := { x.blm with job := some ⟨.ident, false⟩ } }) := by
  have plugged : btbPstat e b p l = plugIn e b l := by rcases hocc with h | h <;> simp [btbPstat, h, hplug]
  rw [plugged, plugIn, beginIdent, placeIdent_eq _ _ (by simp [addBayReason, hjob])]
  simp only [modBlm_eq, modBtb_eq, addBayReason_modBay, modBay_modBay]
  exact congrArg _ (modBay_congr _ _ _ _ (by simp [hjob, BtbPart.begun]))

theorem beforeContent_begins (h : Bare b l) (hplug : reply.pstat.plugIn = true) :
    beforeContent e b sent reply l = begunIn e b sent reply.pstat l := by
  have begins := btbPstat_begins (e := e) (l := l.modBlm b fun m => m.heard.compare reply.pstat) (by simpa using h.occupancy)
    (by simp [BlmPart.heard, BlmPart.compare, h.job]) hplug
  rw [beforeContent, handPstat, begins, pstatBehindBtb_idle (by exact h.entry) (by simpa [addBayReason] using h.heat)
    (by simp [addBayReason, BtbPart.begun])]
  simp only [begunIn, modBlm_eq, addBayReason_modBay, modBay_modBay]
  refine congrArg _ (modBay_congr _ _ _ _ ?_)
  simp only [Function.comp_apply, BayRec.begun]
  rw [removeAnswered_eq rfl]
  rfl

/-! ## Behind the content -/

/-- BLM's part as an exchange over a link that was `was` ends in a reply. -/
def BlmPart.returned (was : Link) (sent : SentFrame) (p : Pstat) (m : BlmPart) : BlmPart :=
  ({ m with dirty := m.dirty || was != .online } : BlmPart).recordEnd (.reply p.samplePending (sent == .samplePoll))

/-- R36: ONLINE is added for a link that was SILENT. -/
def reportReturn (e : Env) (was : Link) (b : Bay) (l : Live) : Live :=
  if was = .silent then addBayReason e b .online l else l

theorem reportReturn_bay {was : Link} {c : Bay} : (reportReturn e was b l).bay c = l.bay c := by
  unfold reportReturn
  split <;> rfl

theorem reportReturn_mgu {was : Link} : (reportReturn e was b l).mgu = l.mgu := by
  unfold reportReturn
  split <;> rfl

/-- With no work in progress a reply behind its content is the return of the link and the record of the exchange. -/
theorem behindContent_idle {was : Link} (hsent : sent ≠ .job .ident) (hsweep : (l.bay b).lsw.sweep ≠ .running)
    (hcarried : (l.bay b).frd.carried = false) : behindContent e was b sent reply l =
      reportReturn e was b (l.modBlm b (·.returned was sent reply.pstat)) := by
  have ended : (linkReturn e was b l).modBlm b (·.recordEnd (.reply reply.pstat.samplePending (sent == .samplePoll))) =
      reportReturn e was b (l.modBlm b (·.returned was sent reply.pstat)) := by
    rw [linkReturn_eq, reportReturn]
    split
    · simp only [modBlm_eq, addBayReason_modBay, modBay_modBay]
      rfl
    · simp only [modBlm_eq, modBay_modBay]
      rfl
  rw [behindContent, ended, announceEnd, btbExchangeEnd_idle (.inl (by simpa using hsent)),
    lswExchangeEnd_idle (by simpa [reportReturn_bay] using hsweep)]
  simp [frdExchangeEnd, reportReturn_bay, hcarried]

/-- What the content changed apart from sweep and read stands behind it. -/
theorem behindContent_carries {was : Link} (g : Live → Live) (hsent : sent ≠ .job .ident)
    (hsweep : (l.bay b).lsw.sweep ≠ .running) (hcarried : (l.bay b).frd.carried = false)
    (hlsw : ((g l).bay b).lsw = (l.bay b).lsw) (hfrd : ((g l).bay b).frd = (l.bay b).frd)
    (hg : ∀ f, reportReturn e was b ((g l).modBlm b f) = g (reportReturn e was b (l.modBlm b f))) :
    behindContent e was b sent reply (g l) = g (behindContent e was b sent reply l) := by
  rw [behindContent_idle hsent (by rwa [hlsw]) (by rwa [hfrd]), behindContent_idle hsent hsweep hcarried, hg]

/-! ## The content -/

/-- An office reply joins the forward queue toward TU, is lost to a full one, or is dropped by its route entry (R54). -/
theorem sendUp_eq (e : Env) (b : Bay) (f : OfficeFrame) (l : Live) : sendUp e b f l = { l with tsw :=
    if (routeEntry e f.kind).upPass = false then l.tsw
    else if 6 ≤ l.tsw.tuQueue.length then
      { l.tsw with tuCounts := { l.tsw.tuCounts with overflow := bump l.tsw.tuCounts.overflow } }
    else { l.tsw with tuQueue := l.tsw.tuQueue ++ [upFrame e b f] } } := by
  unfold sendUp
  cases (routeEntry e f.kind).upPass with
  | false => rfl
  | true =>
    by_cases hfull : 6 ≤ l.tsw.tuQueue.length
    · simp [offerForward, Config.forwardQueueMax, TswState.queue, hfull, countOverflow, Live.modTsw, TswState.modCounts]
    · simp [offerForward, Config.forwardQueueMax, TswState.queue, hfull, Live.modTsw, TswState.append]

/-- R59, R176: the channel by its value. -/
theorem channelOf_eq (flags : Byte) : channelOf flags =
    if flags.toNat % 4 = 0 then some .cabin else if flags.toNat % 4 = 1 then some .lamp else none := by
  have field : bitField flags 0 2 = flags.toNat % 4 := by simp [bitField]
  rw [channelOf, field]
  split
  · simp_all
  · simp_all
  · rename_i h0 h1
    rw [if_neg h0, if_neg h1]

/-- R59, R176: the resolution by its value. -/
theorem resolutionOf_eq (flags : Byte) : resolutionOf flags =
    if flags.toNat / 4 % 4 = 0 then some false else if flags.toNat / 4 % 4 = 1 then some true else none := by
  have field : bitField flags 2 2 = flags.toNat / 4 % 4 := by simp [bitField]
  rw [resolutionOf, field]
  split
  · simp_all
  · simp_all
  · rename_i h0 h1
    rw [if_neg h0, if_neg h1]

/-- R59: a channel or resolution value of 2 or 3 makes a sample malformed. -/
theorem takeSample_malformed {flags tag : Byte} {code : Nat} (h : 2 ≤ flags.toNat % 4 ∨ 2 ≤ flags.toNat / 4 % 4) :
    takeSample e b flags tag code l = { l with sampleRejects := bump l.sampleRejects } := by
  have unread : channelOf flags = none ∨ resolutionOf flags = none := by
    rw [channelOf_eq, resolutionOf_eq]
    exact h.imp (fun h => by rw [if_neg (by omega), if_neg (by omega)]) fun h => by rw [if_neg (by omega), if_neg (by omega)]
  rcases unread with h | h
  · simp [takeSample, h]
  · cases hc : channelOf flags <;> simp [takeSample, h, hc]

/-- R60, R70, R83: a well-formed sample without its valid bit or of a lamp does nothing where no sweep runs. -/
theorem takeSample_idle {flags tag : Byte} {code : Nat} (hsweep : (l.bay b).lsw.sweep ≠ .running) (hchannel : flags.toNat % 4 < 2)
    (hresolution : flags.toNat / 4 % 4 < 2) (h : flags.getLsbD 4 = false ∨ flags.toNat % 4 = 1) :
    takeSample e b flags tag code l = l := by
  obtain ⟨res12, hres⟩ : ∃ res12, resolutionOf flags = some res12 := by
    rw [resolutionOf_eq]
    obtain hr | hr : flags.toNat / 4 % 4 = 0 ∨ flags.toNat / 4 % 4 = 1 := by omega
    · exact ⟨false, by rw [if_pos hr]⟩
    · exact ⟨true, by rw [if_neg (by omega), if_pos hr]⟩
  obtain hc | hc : flags.toNat % 4 = 0 ∨ flags.toNat % 4 = 1 := by omega
  · have invalid : bitAt flags 4 = false := h.resolve_right (by omega)
    simp [takeSample, channelOf_eq, hc, hres, invalid]
  · simp [takeSample, channelOf_eq, hc, hres, takeLamp, lampSample_idle hsweep]

/-- R61, R62: a valid cabin sample is normalized on its scale. -/
theorem takeSample_cabin {flags tag : Byte} {code : Nat} {res12 : Bool} (hchannel : channelOf flags = some .cabin)
    (hresolution : resolutionOf flags = some res12) (hvalid : bitAt flags 4 = true) :
    takeSample e b flags tag code l = takeCabin e b (normalize res12 code).1 (normalize res12 code).2 l := by
  simp only [takeSample, hchannel, hresolution, hvalid, if_true]

/-- R64: an OVERRANGE cabin sample is discarded. -/
theorem takeCabin_overrange {n : Nat} : takeCabin e b n true l = l := by simp [takeCabin]

/-- R64: a cabin sample is held at a PLUGGED bay; PHP judges none where there is no plan. -/
theorem takeCabin_held {n : Nat} (hocc : (l.bay b).btb.occupancy = .plugged) (hplan : (l.bay b).php.state = .none) :
    takeCabin e b n false l = l.modScv b fun c => { c with held := some (cabinTemperature e.params n), age := 0 } := by
  simp [takeCabin, hocc, cabinSample, judgeCabinSample, recompute, hplan]

/-- R61, R62: what the flags and the code of a valid cabin sample in range say. -/
theorem cabinSample_inRange {flags : Byte} {code : Nat} (h : flags = 0x14#8 ∧ code < 4095 ∨ flags = 0x10#8 ∧ code < 255) :
    ∃ res12, channelOf flags = some .cabin ∧ resolutionOf flags = some res12 ∧ bitAt flags 4 = true ∧
      normalize res12 code = (if flags = 0x14#8 then code else if code = 0 then 0 else 16 * code + 8, false) := by
  obtain ⟨rfl, hcode⟩ | ⟨rfl, hcode⟩ := h
  · exact ⟨true, rfl, rfl, rfl, by simp [normalize, normalize12, hcode]⟩
  · refine ⟨false, rfl, rfl, rfl, ?_⟩
    by_cases hzero : code = 0
    · simp [normalize, normalize8, hzero]
    · simp [normalize, normalize8, hcode, hzero]

theorem takeSample_overrange {flags tag : Byte} {code : Nat} (h : flags = 0x14#8 ∧ 4095 ≤ code ∨ flags = 0x10#8 ∧ 255 ≤ code) :
    takeSample e b flags tag code l = l := by
  obtain ⟨rfl, hcode⟩ | ⟨rfl, hcode⟩ := h
  · rw [takeSample_cabin (res12 := true) rfl rfl rfl]
    simp [normalize, normalize12, hcode, takeCabin_overrange]
  · rw [takeSample_cabin (res12 := false) rfl rfl rfl]
    simp [normalize, normalize8, hcode, takeCabin_overrange]

/-! ## The whole reply -/

/-- The live state behind a reply whose plug is first seen IN and whose content does nothing. -/
def seenIn (e : Env) (b : Bay) (sent : SentFrame) (reply : Reply) (l : Live) : Live :=
  reportReturn e (l.bay b).blm.link b (addBayReason e b .plug (l.modBay b fun x =>
    { x.begun sent reply.pstat with blm := (x.blm.begun sent reply.pstat).returned x.blm.link sent reply.pstat }))

theorem seenIn_scv : ((seenIn e b sent reply l).bay b).scv = (l.bay b).scv := by
  simp [seenIn, reportReturn_bay, addBayReason, BayRec.begun]

theorem reportReturn_tsw {was : Link} : (reportReturn e was b l).tsw = l.tsw := by
  unfold reportReturn
  split <;> rfl

theorem reportReturn_sampleRejects {was : Link} : (reportReturn e was b l).sampleRejects = l.sampleRejects := by
  unfold reportReturn
  split <;> rfl

theorem seenIn_tsw : (seenIn e b sent reply l).tsw = l.tsw := reportReturn_tsw

theorem seenIn_sampleRejects : (seenIn e b sent reply l).sampleRejects = l.sampleRejects := reportReturn_sampleRejects

theorem begunIn_sweep (h : Bare b l) {p : Pstat} : ((begunIn e b sent p l).bay b).lsw.sweep ≠ .running := by
  rw [begunIn_bay]
  exact h.sweep

theorem begunIn_carried (h : Bare b l) {p : Pstat} : ((begunIn e b sent p l).bay b).frd.carried = false := by
  rw [begunIn_bay]
  exact h.carried

theorem begunIn_behindContent (h : Bare b l) (hsent : sent ≠ .job .ident) :
    behindContent e (l.bay b).blm.link b sent reply (begunIn e b sent reply.pstat l) = seenIn e b sent reply l := by
  rw [behindContent_idle hsent (begunIn_sweep h) (begunIn_carried h), seenIn]
  simp only [begunIn, modBlm_eq, addBayReason_modBay, modBay_modBay]
  exact congrArg (fun k => reportReturn e (l.bay b).blm.link b (addBayReason e b .plug k)) (modBay_congr _ _ _ _ rfl)

/-- A reply that shows a plug first IN is what its content makes of the state in which nothing was delivered, where the content leaves
sweep and read alone. -/
theorem handleReply_begins (g : Live → Live) (h : Bare b l) (hplug : reply.pstat.plugIn = true) (hsent : sent ≠ .job .ident)
    (hdeliver : deliver e b reply.content (begunIn e b sent reply.pstat l) = g (begunIn e b sent reply.pstat l))
    (hlsw : ∀ k, ((g k).bay b).lsw = (k.bay b).lsw) (hfrd : ∀ k, ((g k).bay b).frd = (k.bay b).frd)
    (hg : ∀ was k f, reportReturn e was b ((g k).modBlm b f) = g (reportReturn e was b (k.modBlm b f))) :
    handleReply e b sent reply l = g (seenIn e b sent reply l) := by
  rw [handleReply_eq, beforeContent_begins h hplug, hdeliver, behindContent_carries g hsent (begunIn_sweep h) (begunIn_carried h)
    (hlsw _) (hfrd _) (hg _ _), begunIn_behindContent h hsent]

theorem handleReply_quiet (h : Bare b l) (hplug : reply.pstat.plugIn = true) (hsent : sent ≠ .job .ident)
    (hdeliver : ∀ k, (k.bay b).lsw.sweep ≠ .running → (k.bay b).frd.status ≠ .reading → (k.bay b).frd.status ≠ .clearing →
      deliver e b reply.content k = k) : handleReply e b sent reply l = seenIn e b sent reply l :=
  handleReply_begins id h hplug hsent (hdeliver _ (begunIn_sweep h) (by rw [begunIn_bay]; exact h.reading)
    (by rw [begunIn_bay]; exact h.clearing)) (fun _ => rfl) (fun _ => rfl) fun _ _ _ => rfl

/-- An office reply goes up (R54). -/
theorem handleReply_office {f : OfficeFrame} (h : Bare b l) (hplug : reply.pstat.plugIn = true) (hsent : sent ≠ .job .ident)
    (hcontent : reply.content = .office f) :
    handleReply e b sent reply l = sendUp e b f (seenIn e b sent reply l) := by
  refine handleReply_begins (sendUp e b f) h hplug hsent (by rw [hcontent]; rfl) (fun k => by rw [sendUp_eq]; rfl)
    (fun k => by rw [sendUp_eq]; rfl) fun was k g => ?_
  rw [sendUp_eq, sendUp_eq, reportReturn_tsw]
  unfold reportReturn
  split <;> rfl

/-- A malformed SMP is counted (R59). -/
theorem handleReply_malformed {flags tag : Byte} {code : Nat} (h : Bare b l) (hplug : reply.pstat.plugIn = true)
    (hsent : sent ≠ .job .ident) (hcontent : reply.content = .smp flags tag code)
    (hflags : 2 ≤ flags.toNat % 4 ∨ 2 ≤ flags.toNat / 4 % 4) : handleReply e b sent reply l =
      { seenIn e b sent reply l with sampleRejects := bump l.sampleRejects } := by
  rw [handleReply_begins (e := e) (fun k => { k with sampleRejects := bump k.sampleRejects }) h hplug hsent
    (by rw [hcontent]; exact takeSample_malformed hflags) (fun _ => rfl) (fun _ => rfl) fun was k g => ?_, seenIn_sampleRejects]
  unfold reportReturn
  split <;> rfl

/-- A cabin sample in range is held (R61 to R64). -/
theorem handleReply_cabin {flags tag : Byte} {code n : Nat} {res12 : Bool} (h : Bare b l) (hplug : reply.pstat.plugIn = true)
    (hsent : sent ≠ .job .ident) (hcontent : reply.content = .smp flags tag code) (hchannel : channelOf flags = some .cabin)
    (hresolution : resolutionOf flags = some res12) (hvalid : bitAt flags 4 = true) (hrange : normalize res12 code = (n, false)) :
    handleReply e b sent reply l = (seenIn e b sent reply l).modScv b fun c =>
      { c with held := some (cabinTemperature e.params n), age := 0 } := by
  refine handleReply_begins (fun k => k.modScv b fun c => { c with held := some (cabinTemperature e.params n), age := 0 }) h hplug
    hsent ?_ (fun k => by simp) (fun k => by simp) fun was k f => ?_
  · rw [hcontent]
    rw [deliver, takeSample_cabin hchannel hresolution hvalid, hrange]
    exact takeCabin_held (by rw [begunIn_bay]; rfl) (by rw [begunIn_bay]; exact h.plan)
  · unfold reportReturn
    split
    · simp only [modBlm_eq, modScv_eq, addBayReason_modBay, modBay_modBay]
      rfl
    · simp only [modBlm_eq, modScv_eq, modBay_modBay]
      rfl

/-- A coach id that another bay holds marks the bay DUP_COACH and takes the IDENT from the slot (R5). -/
theorem handleReply_duplicate {coach : Nat} {profile : Fin 8} (h : Bare b l) (hplug : reply.pstat.plugIn = true)
    (hsent : sent ≠ .job .ident) (hcontent : reply.content = .idrp coach profile) (hcoach : coach ≠ 0)
    (hheld : heldElsewhere l b coach = true) :
    ((handleReply e b sent reply l).bay b).btb = { (l.bay b).btb.begun with coach := coach, profile := profile, dupCoach := true } ∧
      ((handleReply e b sent reply l).bay b).blm.job = none ∧ (handleReply e b sent reply l).mgu = l.mgu := by
  have delivered : deliver e b reply.content (begunIn e b sent reply.pstat l) =
      markDuplicate e b coach profile (begunIn e b sent reply.pstat l) := by
    simp [deliver, hcontent, takeIdrp, begunIn_bay, BayRec.begun, BtbPart.begun, hcoach, begunIn_heldElsewhere, hheld]
  have marked : (markDuplicate e b coach profile (begunIn e b sent reply.pstat l)).bay b =
      { (l.bay b).begun sent reply.pstat with
        btb := { (l.bay b).btb.begun with coach := coach, profile := profile, dupCoach := true }
        blm := { (l.bay b).blm.begun sent reply.pstat with job := none } } := by
    have emptied : ((l.bay b).blm.begun sent reply.pstat).withdraw .btb = { (l.bay b).blm.begun sent reply.pstat with job := none } :=
      withdraw_btb _ h.claimLsw h.claimFrd (by simp [BlmPart.begun])
    simp [markDuplicate, withdrawJob, addBayReason, begunIn_bay, BayRec.begun, emptied]
  rw [handleReply_eq, beforeContent_begins h hplug, delivered,
    behindContent_idle hsent (by rw [marked]; exact h.sweep) (by rw [marked]; exact h.carried), reportReturn_bay, bay_modBlm_self,
    marked, reportReturn_mgu]
  exact ⟨rfl, rfl, rfl⟩

/-- A coach id other than 0 decides the bay in the same step: DUP_COACH where another bay holds it, and OCCUPIED where none does. -/
theorem exec_identity {s : State} {timeout : Nat} {bytes : List Byte} {coach : Nat} {profile : Fin 8}
    (hslot : s.live.walk.slot = some ⟨.exchange b sent, timeout, .counts⟩) (hparse : parseReply b bytes = some reply)
    (hbare : Bare b s.live) (hplug : reply.pstat.plugIn = true) (hsent : sent ≠ .job .ident)
    (hcontent : reply.content = .idrp coach profile) (hcoach : coach ≠ 0) (hqueue : s.live.mgu.queue = []) :
    ∃ t, exec (.exchangeReply bytes) s = .next t ∧ (t.bay b).btb.coach = coach ∧ (t.bay b).btb.profile = profile ∧
      (t.bay b).btb.attempts = 0 ∧ (t.bay b).btb.identFailed = false ∧
      (heldElsewhere s.live b coach = true →
        (t.bay b).btb.occupancy = .plugged ∧ (t.bay b).btb.dupCoach = true ∧ (t.bay b).blm.job = none) ∧
      (heldElsewhere s.live b coach = false →
        (t.bay b).btb.occupancy = .occupied ∧ (t.bay b).btb.dupCoach = false ∧ (t.bay b).fal.base.state ≠ .none) := by
  refine ⟨_, exec_exchangeReply hslot hparse, ?_⟩
  have settled (hmgu : (handleReply s.dev.env b sent reply s.live).mgu = s.live.mgu) :
      RecNoted ((handleReply s.dev.env b sent reply s.live).bay b)
        ((s.goes ((handleReply s.dev.env b sent reply s.live).slotEnded s.dev.env)).bay b) :=
    (settle_noted (d := { s.dev with live := (handleReply s.dev.env b sent reply s.live).slotEnded s.dev.env })
      (by simp only [Live.slotEnded, hmgu, hqueue])).1.bays b
  generalize s.goes ((handleReply s.dev.env b sent reply s.live).slotEnded s.dev.env) = t at settled ⊢
  cases hheld : heldElsewhere s.live b coach with
  | true =>
    obtain ⟨hbtb, hempty, hmgu⟩ := handleReply_duplicate (e := s.dev.env) hbare hplug hsent hcontent hcoach hheld
    rw [(settled hmgu).btb, hbtb]
    exact ⟨rfl, rfl, rfl, rfl, fun _ => ⟨rfl, rfl, (settled hmgu).job hempty⟩, nofun⟩
  | false =>
    have before := beforeContent_begins (e := s.dev.env) (sent := sent) hbare hplug
    obtain ⟨⟨p, hbtb⟩, hbase, -, hmgu⟩ := handleReply_accepts (e := s.dev.env) (l := s.live) (b := b) (sent := sent) (r := reply)
      hcontent hcoach (by rw [before, begunIn_bay]; rfl) (by rw [before, begunIn_heldElsewhere, hheld])
    rw [before] at hbtb hmgu
    rw [begunIn_bay] at hbtb
    obtain ⟨x, hfal⟩ := (settled hmgu).fal
    rw [(settled hmgu).btb, hbtb, hfal]
    exact ⟨rfl, rfl, rfl, rfl, nofun, fun _ => ⟨rfl, rfl, hbase⟩⟩

/-- Settles O22: each kind of content is read off against the state in which nothing was delivered. -/
theorem aPlugSeenInBeginsIdentification : Obligations.APlugSeenInBeginsIdentification := by
  intro s b sent timeout bytes r hslot hparse hsent hocc hplug hjob hclaimLsw hclaimFrd hentry hheat hsweep hreading hclearing
    hcarried hplan answered plugged seen
  have bare : Bare b s.live := ⟨hocc, hjob, hclaimLsw, hclaimFrd, hentry, hheat, hsweep, hreading, hclearing, hcarried, hplan⟩
  have hseen : seen = (seenIn s.dev.env b sent r s.live).slotEnded s.dev.env := rfl
  have ends {l : Live} (h : (handleReply s.dev.env b sent r s.live).slotEnded s.dev.env = l) :
      exec (.exchangeReply bytes) s = .next (s.goes l) := by rw [exec_exchangeReply hslot hparse, h]
  have quiet (h : ∀ k : Live, (k.bay b).lsw.sweep ≠ .running → (k.bay b).frd.status ≠ .reading →
      (k.bay b).frd.status ≠ .clearing → deliver s.dev.env b r.content k = k) :
      exec (.exchangeReply bytes) s = .next (s.goes seen) := ends (by rw [handleReply_quiet bare hplug hsent h, hseen])
  clear_value seen
  refine ⟨?_, ?_, ?_, ?_⟩
  · rintro (h | h | h | h | ⟨offset, data, h⟩ | ⟨profile, h⟩)
    · exact quiet fun k _ _ _ => by rw [h]; rfl
    · exact quiet fun k _ _ _ => by rw [h]; rfl
    · exact quiet fun k _ _ _ => by rw [h]; rfl
    · exact quiet fun k _ _ hk => by rw [h]; exact frdCdone_idle hk
    · exact quiet fun k _ hk _ => by rw [h]; exact frdCdata_idle hk
    · exact quiet fun k _ _ _ => by simp [h, deliver, takeIdrp]
  · intro f hf
    exact ends (by rw [handleReply_office bare hplug hsent hf, sendUp_eq, seenIn_tsw, hseen]; rfl)
  · intro flags tag code hsmp
    refine ⟨fun h => ?_, fun hchannel hresolution h => ?_, fun h => ?_, fun h => ?_⟩
    · exact ends (by rw [handleReply_malformed bare hplug hsent hsmp h, hseen]; rfl)
    · exact quiet fun k hk _ _ => by rw [hsmp]; exact takeSample_idle hk hchannel hresolution h
    · exact quiet fun k _ _ _ => by rw [hsmp]; exact takeSample_overrange h
    · intro n
      obtain ⟨res12, hchannel, hresolution, hvalid, hrange⟩ := cabinSample_inRange h
      refine ends ?_
      rw [handleReply_cabin bare hplug hsent hsmp hchannel hresolution hvalid hrange, hseen]
      refine modBay_congr ((seenIn s.dev.env b sent r s.live).slotEnded s.dev.env) b
        (fun x => { x with scv := { x.scv with held := some (cabinTemperature s.dev.env.params n), age := 0 } }) _ ?_
      have scv : (((seenIn s.dev.env b sent r s.live).slotEnded s.dev.env).bay b).scv = (s.bay b).scv :=
        seenIn_scv
      simp only [scv]
      rfl
  · intro coach profile hidrp hcoach hqueue
    exact exec_identity hslot hparse bare hplug hsent hidrp hcoach hqueue

end Sys2Proof.Machine

/-! # The row after a reset (R23, R39, R51, R71, R100, R138, R165, R171, R174) -/
namespace Sys2Proof.Machine

/-- R24, R43: the row numbers that give the part an address. -/
theorem addressed_eq (p : Straps) : p.addressed = (decide (1 ≤ p.row.val) && decide (p.row.val ≤ 62)) := by
  have := p.row.isLt
  rw [Bool.eq_iff_iff]
  simp only [Straps.addressed, Bool.and_eq_true, bne_iff_ne, decide_eq_true_eq]
  omega

/-- The loader of a part just reset runs where the part has an address, with the result of no run. -/
theorem loader_reset (straps : Straps) :
    (Dev.reset straps).live.mgu.loader.running = straps.addressed ∧
      (Dev.reset straps).live.mgu.loader.result = .noImage ∧ (Dev.reset straps).live.mgu.loader.resultWritten = 0 := by
  cases h : straps.addressed <;> simp [Dev.reset, h, Loader.start, Loader.reset]

/-- R23: entry `b` of the schedule names the bay of its index, and the sixteenth is the last. -/
theorem pollEntry_bay (b : Bay) : PollEntry.reset b.val = { target := some b, last := decide (b = 15) } := by
  have last : (b.val == 15) = decide (b = 15) := by
    rw [Bool.eq_iff_iff]
    simp [Fin.ext_iff]
  simp [PollEntry.reset, last]

/-- R23: the entries behind the sixteenth hold SKIP. -/
theorem pollEntry_skip (i : Nat) (h : 16 ≤ i) : PollEntry.reset i = { target := none, last := false } := by
  simp [PollEntry.reset, Nat.not_lt.mpr h]
  omega

/-- R71: a lamp's circuit is its place in its own profile's table, from 1 on. -/
theorem lampEntry_reset (p g q : Nat) (hg : g < 8) (hq : q < 12) : LampEntry.reset (p * 96 + (g * 12 + q)) =
    { present := false, critical := false, high := false, res12 := true, long := false, circuit := g * 12 + q + 1, minimum := 0,
      maximum := 0 } := by
  have circuit : (p * 96 + (g * 12 + q)) % 96 = g * 12 + q := by omega
  simp [LampEntry.reset, circuit]

/-- Settles O4: settling changes nothing of a part just reset, and each table is read where it was tabulated. -/
theorem resetsLeaveTheRow : Obligations.ResetsLeaveTheRow := by
  intro row endOfTrunk memSize s
  obtain ⟨running, result, written⟩ := loader_reset ⟨row, endOfTrunk, memSize⟩
  rw [addressed_eq] at running
  refine ⟨{ s with dev := Dev.reset ⟨row, endOfTrunk, memSize⟩ }, ?_, ?_, rfl, rfl, rfl, rfl, rfl, rfl, rfl, rfl, rfl, fun b => ?_,
    rfl, rfl, rfl, running, result, written, rfl, rfl, fun i => ?_, fun b => ?_, fun i => ?_, fun p => ?_, fun p g q => ?_,
    fun i => ?_⟩
  · simp only [exec, execPowerOnReset, State.after, settle_reset]
  · simp only [exec, execPinReset, State.after, settle_reset]
  · exact tabulate_getElem 16 (fun _ => (0 : Reasons)) b.val b.isLt
  · exact tabulate_getElem 224 (fun _ => RouteEntry.reset) i.val i.isLt
  · exact (tabulate_getElem 32 PollEntry.reset b.val (by omega)).trans (pollEntry_bay b)
  · exact (tabulate_getElem 32 PollEntry.reset (i.val + 16) (by omega)).trans (pollEntry_skip _ (by omega))
  · exact tabulate_getElem 8 (fun _ => ProfileHeader.reset) p.val p.isLt
  · have inside : p.val * 96 + (g.val * 12 + q.val) < 768 := by omega
    rw [← lampEntry_reset p.val g.val q.val g.isLt q.isLt, ← tabulate_getElem 768 LampEntry.reset _ inside]
    exact Vector.getElem?_eq_getElem inside
  · exact congrArg FilterEntry.inUse (tabulate_getElem 64 (fun _ => FilterEntry.reset) i.val i.isLt)

end Sys2Proof.Machine


/-! # The frames of a post read back (R26, R175, R176, Tables 11-2 to 11-4) -/
namespace Sys2Proof.Machine

/-- A post's frame passes the frame check, and its length byte agrees; it is judged by the bay it names. -/
theorem parseReply_replyBytes (c b : Bay) (kind pstat : Byte) (payload : List Byte) (h : payload.length ≤ 255) :
    parseReply c (replyBytes b kind pstat payload) =
      if c = b then some { pstat := .ofByte pstat, content := judgeContent kind payload } else none := by
  have length : payload.length % 256 = payload.length := Nat.mod_eq_of_lt (by omega)
  have number : bayNumber b % 256 = bayNumber c ↔ c = b := by
    have := b.isLt
    rw [Fin.ext_iff, bayNumber, bayNumber]
    omega
  simp only [parseReply, replyBytes, checked_withCheck, List.cons_append, List.nil_append, toNat_byteOf, length, number, true_and]

/-- An office kind is an office frame, of whatever length. -/
theorem judgeContent_office {kind : Byte} (payload : List Byte) (h : 32 ≤ kind.toNat) :
    judgeContent kind payload = .office { kind := kind, payload := payload } := if_pos h

/-- A kind below 0x20 that no reply has is taken as STAT. -/
theorem judgeContent_unknown {kind : Byte} (payload : List Byte) (h : kind.toNat < 32)
    (hkind : kind ∉ [0x11#8, 0x12#8, 0x13#8, 0x14#8, 0x15#8, 0x16#8]) : judgeContent kind payload = .stat := by
  have outside : kind.toNat < 0x11 ∨ 0x16 < kind.toNat := by
    simp only [List.mem_cons, List.not_mem_nil, or_false, ← BitVec.toNat_inj, BitVec.reduceToNat] at hkind
    omega
  refine (if_neg (by omega)).trans ?_
  generalize kind.toNat = n at h outside
  rcases outside with below | above
  · interval_cases n <;> rfl
  · interval_cases n <;> rfl

/-- An IDRP has a coach id of four bytes and a profile of one. -/
theorem judgeContent_idrp {payload : List Byte} (h : payload.length ≠ 5) : judgeContent 0x11 payload = .stat := by
  match payload with
  | [] | [_] | [_, _] | [_, _, _] | [_, _, _, _] => rfl
  | [_, _, _, _, _] => exact absurd rfl h
  | _ :: _ :: _ :: _ :: _ :: _ :: _ => rfl

/-- An SMP has four bytes. -/
theorem judgeContent_smp {payload : List Byte} (h : payload.length ≠ 4) : judgeContent 0x12 payload = .stat := by
  match payload with
  | [] | [_] | [_, _] | [_, _, _] => rfl
  | [_, _, _, _] => exact absurd rfl h
  | _ :: _ :: _ :: _ :: _ :: _ => rfl

/-- A CDATA has an offset of two bytes and up to 46 of the image. -/
theorem judgeContent_cdata (hi lo : Byte) (data : List Byte) : judgeContent 0x13 (hi :: lo :: data) =
    if data.length ≤ 46 then .cdata (num16 hi lo) data else .stat := by
  have bound : (hi :: lo :: data).length ≤ Config.bayPayloadMax ↔ data.length ≤ 46 := by
    simp only [List.length_cons, Config.bayPayloadMax]
    omega
  rw [← if_congr bound rfl rfl]
  rfl

theorem judgeContent_cdata_length {payload : List Byte} (h : payload.length < 2 ∨ 48 < payload.length) :
    judgeContent 0x13 payload = .stat := by
  match payload with
  | [] | [_] => rfl
  | hi :: lo :: data =>
    rw [judgeContent_cdata, if_neg (by simp only [List.length_cons] at h; omega)]

/-- CBUSY, CNAK and CDONE have no payload. -/
theorem judgeContent_bare {payload : List Byte} (h : payload ≠ []) :
    judgeContent 0x14 payload = .stat ∧ judgeContent 0x15 payload = .stat ∧ judgeContent 0x16 payload = .stat := by
  match payload with
  | [] => exact absurd rfl h
  | _ :: _ => exact ⟨rfl, rfl, rfl⟩

/-- Settles O53: the frame is read by the bay it names, and its payload kind by kind. -/
theorem postFramesReadBackForTheirBay : Obligations.PostFramesReadBackForTheirBay := by
  refine ⟨fun b kind pstat payload h => ⟨?_, fun c hc => ?_⟩, fun kind payload => ⟨judgeContent_office payload,
    judgeContent_unknown payload, judgeContent_idrp, judgeContent_smp, judgeContent_cdata_length, judgeContent_bare,
    fun _ _ _ _ _ => rfl, fun _ _ _ _ => rfl, fun hi lo data h => ?_, rfl, rfl, rfl⟩⟩
  · rw [parseReply_replyBytes b b kind pstat payload h, if_pos rfl]
    rfl
  · rw [parseReply_replyBytes c b kind pstat payload h, if_neg hc]
  · rw [judgeContent_cdata, if_pos h]
    rfl

end Sys2Proof.Machine

/-! # The walk and the choice of a frame (R24 to R29) -/
namespace Sys2Proof.Machine

variable {e : Env} {l : Live} {m : BlmPart}

/-! ## The walk (R24, R25) -/

/-- What the slot of an entry holds: an exchange with its bay, but an idle interval where the bay is DISABLED or none is named. -/
def slotOf (e : Env) (l : Live) : SlotContent :=
  match e.tables.poll[l.walk.pointer].target with
  | none => .idle
  | some b => if (l.bay b).btb.occupancy = .disabled then .idle else .exchange b (l.bay b).blm.chooseFrame

/-- R24: a bay has the turn where its exchange is the content of the slot. -/
theorem slotOf_eq (e : Env) (l : Live) : slotOf e l =
    match slotBay e l with
    | none => .idle
    | some b => .exchange b (l.bay b).blm.chooseFrame := by
  unfold slotOf slotBay
  cases e.tables.poll[l.walk.pointer].target with
  | none => rfl
  | some b => by_cases h : (l.bay b).btb.occupancy = .disabled <;> simp [Option.filter, h]

/-- A frame sent by an exchange is marked in the record of its bay (R28, R33, R34, R84, R136). -/
def BayRec.marked (sent : SentFrame) (r : BayRec) : BayRec :=
  match sent with
  | .job f =>
    { r with
      blm := r.blm.afterSend sent
      lsw := { r.lsw with driveSent := r.lsw.driveSent || f.owner == .lsw }
      frd := { r.frd with carried := r.frd.carried || f.owner == .frd } }
  | _ => { r with blm := r.blm.afterSend sent }

theorem markCarried_eq (b : Bay) (sent : SentFrame) (l : Live) :
    markCarried b sent (l.modBlm b (·.afterSend sent)) = l.modBay b (·.marked sent) := by
  cases sent with
  | job f =>
    have lswFrd : (Owner.lsw == Owner.frd) = false := rfl
    have frdLsw : (Owner.frd == Owner.lsw) = false := rfl
    have btbLsw : (Owner.btb == Owner.lsw) = false := rfl
    have btbFrd : (Owner.btb == Owner.frd) = false := rfl
    cases howner : f.owner with
    | lsw =>
      simp only [markCarried, howner, modLsw_eq, modBlm_eq, modBay_modBay]
      exact modBay_congr _ _ _ _ (by simp [BayRec.marked, howner, lswFrd])
    | frd =>
      simp only [markCarried, howner, modFrd_eq, modBlm_eq, modBay_modBay]
      exact modBay_congr _ _ _ _ (by simp [BayRec.marked, howner, frdLsw])
    | btb =>
      simp only [markCarried, howner, modBlm_eq]
      exact modBay_congr _ _ _ _ (by simp [BayRec.marked, howner, btbLsw, btbFrd])
  | actuate a => rfl
  | office f => rfl
  | samplePoll => rfl
  | poll => rfl

/-- A slot without a bay's turn is an idle interval. -/
theorem startSlot_idle (h : slotBay e l = none) : startSlot e l =
    { l with walk := { l.walk with slot := some ⟨.idle, e.params.replyTimeout, .counts⟩ } } := by
  simp [startSlot, h]

/-- A slot with a bay's turn is an exchange, and its frame is marked at the bay. -/
theorem startSlot_exchange {b : Bay} (h : slotBay e l = some b) : startSlot e l =
    { l.modBay b (·.marked (l.bay b).blm.chooseFrame) with
      walk := { l.walk with slot := some ⟨.exchange b (l.bay b).blm.chooseFrame, e.params.replyTimeout, .counts⟩ } } := by
  simp [startSlot, h, markCarried_eq]

/-- A slot that begins holds what its entry gives, and the pointer stays at the entry. -/
theorem startSlot_walk (e : Env) (l : Live) :
    (startSlot e l).walk = { l.walk with slot := some ⟨slotOf e l, e.params.replyTimeout, .counts⟩ } := by
  rw [slotOf_eq]
  cases h : slotBay e l with
  | none => rw [startSlot_idle h]
  | some b => rw [startSlot_exchange h]

/-- The end of an idle interval that counts moves the walk on. -/
theorem slotIdleEnd_idle {timeout : Nat} (h : l.walk.slot = some ⟨.idle, timeout, .counts⟩) :
    slotIdleEnd e l = l.slotEnded e := by
  simp [slotIdleEnd, h, endSlot_counts]

theorem slotIdleEnd_other (h : ∀ timeout fate, l.walk.slot ≠ some ⟨.idle, timeout, fate⟩) : slotIdleEnd e l = l := by
  unfold slotIdleEnd
  split
  · next hslot => exact absurd hslot (h _ _)
  · rfl

/-- Settles O18: the slot is that of the entry at the pointer, and the end of an idle interval is `slotIdleEnd`. -/
theorem theWalkServesTheSchedule : Obligations.TheWalkServesTheSchedule := by
  refine ⟨fun e l hslot => ⟨fun ha hloader => ?_, fun h => ?_⟩, fun s => ⟨fun timeout h => ?_, fun h => ?_⟩⟩
  · have begins : beginSlot e l = startSlot e l := by simp [beginSlot, hslot, walkRuns, ha, hloader]
    rw [begins, startSlot_walk]
    exact ⟨rfl, rfl⟩
  · have halted : walkRuns e l = false := by rcases h with h | h <;> simp [walkRuns, h]
    simp [beginSlot, halted]
  · rw [← slotIdleEnd_idle h]
    rfl
  · exact congrArg (fun k => Host.Outcome.next (s.goes k)) (slotIdleEnd_other h)

/-! ## The choice of a frame (R27 to R29) -/

/-- R29: when a sample POLL is due, by the most recent exchange and the debt of the one before. -/
theorem samplePollDue_iff : m.samplePollDue = true ↔
    (∀ pending : Bool, m.recent ≠ .reply pending true) ∧ (m.recent = .reply true false ∨ m.sampleOwed = true) := by
  unfold BlmPart.samplePollDue
  cases m.recent with
  | none => simp
  | miss => simp
  | reply pending wasSamplePoll => cases wasSamplePoll <;> simp

/-- R27: with a clean desired state BTB's frame goes first. -/
theorem chooseFrame_ident {j : JobInSlot} (hclean : m.dirty = false) (hjob : m.job = some j) (howner : j.frame.owner = .btb) :
    m.chooseFrame = .job .ident := by
  simp [BlmPart.chooseFrame, hclean, hjob, howner]

/-- R27: with no ACTUATE and no IDENT to send, a sample POLL that is due goes next, and then what R28 chooses. -/
theorem chooseFrame_behind (hclean : m.dirty = false) (hjob : ∀ j : JobInSlot, m.job = some j → j.frame.owner ≠ .btb) :
    m.chooseFrame = if m.samplePollDue then .samplePoll else m.sharedChoice.getD .poll := by
  have noIdent : m.job.any (fun j => j.frame.owner == .btb) = false := by
    cases h : m.job with
    | none => rfl
    | some j => simpa using hjob j h
  simp [BlmPart.chooseFrame, hclean, noIdent]

/-- R28: a job frame of LSW or FRD waits for the turn. -/
theorem waitingJob_of_owner {j : JobInSlot} (hjob : m.job = some j) (howner : j.frame.owner ≠ .btb) :
    m.waitingJob = some j := by
  simp [BlmPart.waitingJob, hjob, howner]

/-- R28: what a frame sent leaves in the alternation memory. -/
theorem afterSend_job_turn {j : JobInSlot} (hjob : m.job = some j) (howner : j.frame.owner ≠ .btb) :
    (m.afterSend (.job j.frame)).turn = if j.sent then m.turn else .job := by
  simp [BlmPart.afterSend, hjob, howner]

theorem afterSend_office_turn (f : OfficeFrame) :
    (m.afterSend (.office f)).turn = if m.headSent then m.turn else .office := rfl

/-- Settles O19: the branches of R27 in order, and of R28 behind them. -/
theorem theFrameOfAnExchange : Obligations.TheFrameOfAnExchange := by
  refine ⟨fun m end1 end2 => ⟨samplePollDue_iff, ?_⟩, fun m => ⟨fun h => ?_, fun hclean j hjob => ⟨?_, fun howner hdue => ?_⟩,
    fun hclean hjob hdue => ?_, fun hclean hjob hdue => ?_⟩⟩
  · rw [samplePollDue_iff, recordEnd_recent, recordEnd_sampleOwed, recordEnd_recent, beq_iff_eq]
  · simp [BlmPart.chooseFrame, h]
  · exact chooseFrame_ident hclean hjob
  · have choice : m.chooseFrame = m.sharedChoice.getD .poll := by
      rw [chooseFrame_behind hclean (by simpa [hjob] using howner), hdue]
      rfl
    have waits := waitingJob_of_owner hjob howner
    refine ⟨fun hqueue => ?_, fun f rest hqueue => ?_⟩
    · simp [choice, BlmPart.sharedChoice, waits, hqueue]
    · rw [choice, afterSend_job_turn hjob howner, afterSend_office_turn]
      refine ⟨fun hsent => ?_, fun hsent hhead => ?_, fun hsent hhead hturn => ?_, fun hsent hhead hturn => ?_⟩
      · simp [BlmPart.sharedChoice, waits, hqueue, hsent]
      · simp [BlmPart.sharedChoice, waits, hqueue, hsent, hhead]
      · simp [BlmPart.sharedChoice, waits, hqueue, hsent, hhead, hturn]
      · simp [BlmPart.sharedChoice, waits, hqueue, hsent, hhead, hturn]
  · rw [chooseFrame_behind hclean hjob, hdue, if_pos rfl]
  · rw [chooseFrame_behind hclean (by simp [hjob]), hdue]
    cases hqueue : m.queue with
    | nil => simp [BlmPart.sharedChoice, BlmPart.waitingJob, hjob, hqueue]
    | cons f rest => simp [BlmPart.sharedChoice, BlmPart.waitingJob, hjob, hqueue]

end Sys2Proof.Machine

/-! # An exchange that ends in a miss, and a link that falls SILENT (R26, R32, R35, R38, R40) -/
namespace Sys2Proof.Machine

variable {e : Env} {b : Bay} {l : Live} {s : State} {sent : SentFrame}

/-- An event of a block of an addressed part changes the live state, and the part goes on from there. -/
theorem after_event (f : Env → Live → Live) (h : addressed s = true) : s.after (event f) = s.goes (f s.dev.env s.live) := by
  have ha : s.dev.env.straps.addressed = true := h
  simp only [State.after, event, whenAddressed, ha, if_true]
  rfl

/-! ## A miss (R32) -/

/-- The end of an exchange is no more than announced where it carried no IDENT, no visit of a lamp is counted and no frame of FRD is
settled. -/
theorem announceEnd_idle {x : ExchangeEnd} (hsent : sent ≠ .job .ident)
    (hvisit : (l.bay b).lsw.sweep ≠ .running ∨ (l.bay b).lsw.driveSent = false) (hcarried : (l.bay b).frd.carried = false) :
    announceEnd e b sent x l = l := by
  have visited : lswExchangeEnd e b l = l := by rcases hvisit with h | h <;> simp [lswExchangeEnd, h]
  rw [announceEnd, btbExchangeEnd_idle (.inl (by simpa using hsent)), visited]
  simp [frdExchangeEnd, hcarried]

/-- R32 where the link does not fall SILENT and no block counts the exchange. -/
theorem handleMiss_idle (hlink : (l.bay b).blm.link = .silent ∨ bumpTo 15 (l.bay b).blm.missCount < e.params.missLimit)
    (hsent : sent ≠ .job .ident) (hsweep : (l.bay b).lsw.sweep ≠ .running) (hcarried : (l.bay b).frd.carried = false) :
    handleMiss e b sent l = l.modBlm b fun m =>
      { m with missCount := bumpTo 15 m.missCount, recent := .miss, sampleOwed := m.recent == .reply true true } := by
  have stays : ¬ ((l.bay b).blm.link ≠ .silent ∧ e.params.missLimit ≤ bumpTo 15 (l.bay b).blm.missCount) := by
    rintro ⟨hne, hle⟩
    exact hlink.elim hne (by omega)
  simp only [handleMiss, bay_modBlm_self, if_neg stays]
  rw [announceEnd_idle hsent (.inl (by simpa using hsweep)) (by simpa using hcarried)]
  simp only [modBlm_eq, modBay_modBay]
  rfl

/-- The exchange in flight ends as a miss, and the walk moves on (R24, R32). -/
theorem exec_replyTimeout {timeout : Nat} (h : s.live.walk.slot = some ⟨.exchange b sent, timeout, .counts⟩) :
    exec .replyTimeout s = .next (s.goes ((handleMiss s.dev.env b sent s.live).slotEnded s.dev.env)) := by
  have missed : slotMiss s.dev.env s.live = (handleMiss s.dev.env b sent s.live).slotEnded s.dev.env := by
    simp only [slotMiss, exchangeInFlight, h, endSlot_counts]
  rw [← missed]
  rfl

/-! ## An exchange cut off (R38, R40) -/

/-- However the exchange of a slot that counts no more ends, the slot ends and nothing else. -/
theorem cutOff_ends {timeout : Nat} {fate : SlotFate} (h : l.walk.slot = some ⟨.exchange b sent, timeout, fate⟩)
    (hfate : fate ≠ .counts) : slotMiss e l = endSlot e fate l ∧ ∀ bytes, slotReply e bytes l = endSlot e fate l := by
  cases fate with
  | counts => exact absurd rfl hfate
  | bayDisabled => simp [slotMiss, slotReply, exchangeInFlight, h]
  | rowReset => simp [slotMiss, slotReply, exchangeInFlight, h]

/-- Where the walk goes at the end of a slot (R24, R25, R40). -/
theorem endSlot_eq (e : Env) (fate : SlotFate) (l : Live) : endSlot e fate l =
    { l with
      walk :=
        { pointer :=
            if fate = .rowReset ∨ l.walk.restart = true ∨ e.tables.poll[l.walk.pointer].last = true ∨ l.walk.pointer = 31 then 0
            else l.walk.pointer + 1
          restart := false
          slot := none } } := by
  by_cases returns : l.walk.restart = true ∨ fate = .rowReset
  · have restarts : fate = .rowReset ∨ l.walk.restart = true ∨ e.tables.poll[l.walk.pointer].last = true ∨
        l.walk.pointer = 31 := by tauto
    simp only [endSlot, if_pos returns, if_pos restarts]
  · obtain ⟨goes, counts⟩ := not_or.mp returns
    simp [endSlot, nextPointer, goes, counts]

/-- Settles O20: a miss that nobody counts, and an exchange that counts no more. -/
theorem missesAreCountedUnlessCutOff : Obligations.MissesAreCountedUnlessCutOff := by
  refine ⟨fun s b sent timeout hslot hlink hsent hsweep hcarried => ⟨rfl, ?_⟩,
    fun s b sent timeout fate bytes hslot hfate => ?_⟩
  · rw [exec_replyTimeout hslot, handleMiss_idle (l := s.live) hlink hsent hsweep hcarried]
  · obtain ⟨missed, replied⟩ := cutOff_ends (e := s.dev.env) hslot hfate
    rw [← endSlot_eq, ← missed]
    exact ⟨congrArg (fun k => Host.Outcome.next (s.goes k)) ((replied bytes).trans missed.symm), rfl, rfl⟩

/-! ## A link that falls SILENT (R35) -/

/-- R35 at a bay with no sweep and no read in progress. -/
theorem goSilent_idle (hsweep : (l.bay b).lsw.sweep.inProgress = false) (hread : (l.bay b).frd.status.inProgress = false) :
    goSilent e b l = judge e b (addBayReason e b .silent (l.modBlm b fun m => { m with link := .silent })) := by
  simp [goSilent, stopSweep, stopRead, addBayReason, hsweep, hread]

/-- Settles O25: the row is the onset of R35 behind the miss count of log entry 30. -/
theorem linkSilenceIsReportedAndJudged : Obligations.LinkSilenceIsReportedAndJudged := by
  intro s b ha
  have goes : exec (.linkSilent b) s = .next (s.goes (missesReachLimit s.dev.env b s.live)) :=
    congrArg Host.Outcome.next (after_event (fun e => missesReachLimit e b) ha)
  rw [goes]
  refine ⟨fun hlink hocc hsweep hread => ?_, fun h => ?_⟩
  · have onset : (s.live.bay b).blm.link ≠ .silent ∧ (s.live.bay b).btb.occupancy ≠ .disabled := ⟨hlink, hocc⟩
    have sweep : (s.live.bay b).lsw.sweep.inProgress = false := hsweep
    have read : (s.live.bay b).frd.status.inProgress = false := hread
    rw [missesReachLimit, if_pos onset, goSilent_idle (by simpa using sweep) (by simpa using read)]
    simp only [modBlm_eq, modBay_modBay]
    rfl
  · have stays : ¬ ((s.live.bay b).blm.link ≠ .silent ∧ (s.live.bay b).btb.occupancy ≠ .disabled) := by
      rintro ⟨hlink, hocc⟩
      exact h.elim hlink hocc
    rw [missesReachLimit, if_neg stays]

end Sys2Proof.Machine

/-! # What the part does of itself (R24, R28, R48 to R50, R172)

With no operation for MGU to execute a settling part grants its two idle transmitters and begins a slot; the second grant of TU finds
nothing left. Each grant is said once, with what it writes. -/
namespace Sys2Proof.Machine

variable {d : Dev} {e : Env} {l : Live}

/-! ## The grant of TD (R48) -/

/-- TSW's state as an idle TD transmitter has taken the head of its queue. -/
def TswState.tdGranted (t : TswState) : TswState :=
  match t.tdSending, t.tdQueue with
  | none, f :: rest => { t with tdSending := some f, tdQueue := rest }
  | _, _ => t

/-- The part behind a grant of TD. -/
def Dev.tdGranted (d : Dev) : Dev := { d with live := { d.live with tsw := d.live.tsw.tdGranted } }

theorem grantTd_eq (d : Dev) : grantTd d = d.tdGranted := by
  unfold grantTd Dev.tdGranted TswState.tdGranted
  cases hsending : d.live.tsw.tdSending with
  | some f => rfl
  | none => cases hqueue : d.live.tsw.tdQueue <;> rfl

/-- A grant of TD leaves what belongs to TU, and the counters. -/
theorem tdGranted_tu (t : TswState) : t.tdGranted.tuSending = t.tuSending ∧ t.tdGranted.tuQueue = t.tuQueue ∧
    t.tdGranted.lastGrant = t.lastGrant ∧ t.tdGranted.tuCounts = t.tuCounts ∧ t.tdGranted.tdCounts = t.tdCounts := by
  unfold TswState.tdGranted
  split <;> exact ⟨rfl, rfl, rfl, rfl, rfl⟩

/-! ## The grant of TU (R49, R50, R172) -/

/-- TSW's state as TU transmits a frame of the forward queue. -/
def TswState.forwarding (f : TrunkFrame) (rest : List TrunkFrame) (t : TswState) : TswState :=
  { t with tuSending := some ⟨f, false⟩, tuQueue := rest, lastGrant := .forward }

/-- TSW's state as TU transmits a frame of the local lane. -/
def TswState.laneSending (x : TuTransmission) (t : TswState) : TswState :=
  { t with tuSending := some x, lastGrant := .localLane }

/-- A busy transmitter gets no grant, nor an idle one with no frame waiting. -/
theorem grantTu_none (h : d.live.tsw.tuSending.isSome = true ∨ arbiterChoice d = none) : grantTu d = d := by
  unfold grantTu
  split
  · simp_all
  · simp_all
  · rfl

/-- The forward queue is granted where the lane has nothing waiting or was granted last. -/
theorem grantTu_forward {f : TrunkFrame} {rest : List TrunkFrame} (hsending : d.live.tsw.tuSending = none)
    (hqueue : d.live.tsw.tuQueue = f :: rest) (h : d.live.tsw.lastGrant = .localLane ∨ laneWaits d = false) :
    grantTu d = { d with live := { d.live with tsw := d.live.tsw.forwarding f rest } } := by
  have choice : arbiterChoice d = some .forward := by
    rcases h with h | h
    · cases hlane : laneWaits d <;> simp [arbiterChoice, hqueue, hlane, h]
    · simp [arbiterChoice, hqueue, h]
  simp only [grantTu, hsending, choice, grantForward, Live.modTsw, hqueue]
  rfl

/-- The lane is granted where it waits, and the forward queue is empty or was granted last. -/
theorem grantTu_lane (hsending : d.live.tsw.tuSending = none) (hlane : laneWaits d = true)
    (h : d.live.tsw.tuQueue = [] ∨ d.live.tsw.lastGrant = .forward) :
    grantTu d = grantLane { d with live := d.live.modTsw fun t => { t with lastGrant := .localLane } } := by
  have choice : arbiterChoice d = some .localLane := by
    rcases h with h | h
    · simp [arbiterChoice, h, hlane]
    · cases hqueue : d.live.tsw.tuQueue <;> simp [arbiterChoice, hqueue, hlane, h]
  simp only [grantTu, hsending, choice]

/-- The lane sends the response first. -/
theorem grantTu_response {m : Mrsp} (hsending : d.live.tsw.tuSending = none) (ha : d.env.straps.addressed = true)
    (hmrsp : d.live.mgu.mrsp = some m) (h : d.live.tsw.tuQueue = [] ∨ d.live.tsw.lastGrant = .forward) :
    grantTu d = { d with live := { d.live with
      tsw := d.live.tsw.laneSending ⟨laneFrame d.env 0x02 m.payload, true⟩ } } := by
  rw [grantTu_lane hsending (by simp [laneWaits, ha, hmrsp]) h]
  simp only [grantLane, Live.modTsw, hmrsp]
  rfl

/-- With no response the lane sends the report of the number at the ring's head. -/
theorem grantTu_report {n : ReportNumber} {rest : List ReportNumber} (hsending : d.live.tsw.tuSending = none)
    (ha : d.env.straps.addressed = true) (hmrsp : d.live.mgu.mrsp = none) (hring : d.live.reports.ring = n :: rest)
    (h : d.live.tsw.tuQueue = [] ∨ d.live.tsw.lastGrant = .forward) :
    grantTu d = { d with live := { d.live with
      tsw := d.live.tsw.laneSending ⟨laneFrame d.env 0x03 (reportPayload d.env d.live n), false⟩
      reports := d.live.reports.take n rest } } := by
  rw [grantTu_lane hsending (by simp [laneWaits, ha, hring]) h]
  simp only [grantLane, Live.modTsw, hmrsp, hring]
  rfl

/-- What a grant of TU can write: the state of TSW that belongs to TU, and the reports. -/
theorem grantTu_frame (d : Dev) : ∃ sending queue grant reports, grantTu d = { d with live := { d.live with
    tsw := { d.live.tsw with tuSending := sending, tuQueue := queue, lastGrant := grant }, reports := reports } } := by
  unfold grantTu
  split
  · unfold grantForward
    split <;> exact ⟨_, _, _, _, rfl⟩
  · unfold grantLane
    split <;> exact ⟨_, _, _, _, rfl⟩
  · exact ⟨_, _, _, _, rfl⟩

/-- A requester is chosen only where it has a frame waiting. -/
theorem arbiterChoice_waits {x : Requester} (h : arbiterChoice d = some x) :
    (x = .forward → d.live.tsw.tuQueue ≠ []) ∧ (x = .localLane → laneWaits d = true) := by
  refine ⟨?_, ?_⟩
  · rintro rfl hqueue
    cases hlane : laneWaits d <;> simp [arbiterChoice, hqueue, hlane] at h
  · rintro rfl
    cases hlane : laneWaits d with
    | true => rfl
    | false => cases hqueue : d.live.tsw.tuQueue <;> simp [arbiterChoice, hqueue, hlane] at h

/-- A grant made leaves TU busy. -/
theorem grantTu_busy {x : Requester} (hsending : d.live.tsw.tuSending = none) (h : arbiterChoice d = some x) :
    (grantTu d).live.tsw.tuSending.isSome = true := by
  obtain ⟨forward, lane⟩ := arbiterChoice_waits h
  cases x with
  | forward =>
    obtain ⟨f, rest, hqueue⟩ := List.exists_cons_of_ne_nil (forward rfl)
    simp [grantTu, hsending, h, grantForward, Live.modTsw, hqueue]
  | localLane =>
    have waits : d.live.mgu.mrsp.isSome = true ∨ d.live.reports.ring ≠ [] := by
      have := lane rfl
      simp_all [laneWaits]
    simp only [grantTu, hsending, h, grantLane, Live.modTsw]
    split
    · rfl
    · rfl
    · simp_all

/-- A second grant finds TU busy, or nothing to send. -/
theorem grantTu_grantTu (d : Dev) : grantTu (grantTu d) = grantTu d := by
  by_cases busy : d.live.tsw.tuSending.isSome = true
  · rw [grantTu_none (.inl busy), grantTu_none (.inl busy)]
  · cases hchoice : arbiterChoice d with
    | none => rw [grantTu_none (.inr hchoice), grantTu_none (.inr hchoice)]
    | some x => exact grantTu_none (.inl (grantTu_busy (by simpa using busy) hchoice))

/-- The lane waits with neither a response nor a report. -/
theorem laneWaits_false (hresponse : ∀ m, d.env.straps.addressed = true → d.live.mgu.mrsp = some m → False)
    (hreport : ∀ n rest, d.env.straps.addressed = true → d.live.mgu.mrsp = none → d.live.reports.ring = n :: rest → False) :
    laneWaits d = false := by
  unfold laneWaits
  cases ha : d.env.straps.addressed with
  | false => rfl
  | true =>
    cases hmrsp : d.live.mgu.mrsp with
    | some m => exact (hresponse m ha hmrsp).elim
    | none =>
      cases hring : d.live.reports.ring with
      | nil => rfl
      | cons n rest => exact (hreport n rest ha hmrsp hring).elim

/-- The forward queue is not next where it is empty or was granted last. -/
theorem forward_not_next (h : ∀ f rest, d.live.tsw.tuQueue = f :: rest → d.live.tsw.lastGrant = .localLane → False) :
    d.live.tsw.tuQueue = [] ∨ d.live.tsw.lastGrant = .forward := by
  cases hqueue : d.live.tsw.tuQueue with
  | nil => exact .inl rfl
  | cons f rest =>
    cases hgrant : d.live.tsw.lastGrant with
    | forward => exact .inr rfl
    | localLane => exact (h f rest hqueue hgrant).elim

/-- With an empty forward queue and a lane that does not wait there is no choice. -/
theorem arbiterChoice_none (hqueue : d.live.tsw.tuQueue = []) (hlane : laneWaits d = false) : arbiterChoice d = none := by
  simp [arbiterChoice, hqueue, hlane]

/-! ## The next slot (R24) -/

/-- A slot that begins writes the walk and one bay, and reads nothing of TSW and the reports. -/
theorem beginSlot_behind_grants (e : Env) (l : Live) (t : TswState) (r : Reports) :
    beginSlot e { l with tsw := t, reports := r } = { beginSlot e l with tsw := t, reports := r } := by
  unfold beginSlot
  by_cases begins : l.walk.slot.isNone = true ∧ walkRuns e l = true
  · have begins' : ({ l with tsw := t, reports := r } : Live).walk.slot.isNone = true ∧
        walkRuns e { l with tsw := t, reports := r } = true := begins
    rw [if_pos begins, if_pos begins']
    have turn : slotBay e { l with tsw := t, reports := r } = slotBay e l := rfl
    cases h : slotBay e l with
    | none => rw [startSlot_idle h, startSlot_idle (turn.trans h)]
    | some b =>
      rw [startSlot_exchange h, startSlot_exchange (turn.trans h)]
      rfl
  · have begins' : ¬ (({ l with tsw := t, reports := r } : Live).walk.slot.isNone = true ∧
        walkRuns e { l with tsw := t, reports := r } = true) := begins
    rw [if_neg begins, if_neg begins']

/-- What the beginning of a slot can change: the walk's slot, and in the record of the bay whose exchange it is the marks of the
frame sent. -/
theorem beginSlot_eq (e : Env) (l : Live) : beginSlot e l = l ∨
    ∃ timeout fate, beginSlot e l = { l with walk := { l.walk with slot := some ⟨.idle, timeout, fate⟩ } } ∨
      ∃ b sent, beginSlot e l = { l.modBay b (·.marked sent) with
        walk := { l.walk with slot := some ⟨.exchange b sent, timeout, fate⟩ } } := by
  unfold beginSlot
  split
  · refine .inr ⟨e.params.replyTimeout, .counts, ?_⟩
    cases h : slotBay e l with
    | none => exact .inl (startSlot_idle h)
    | some b => exact .inr ⟨b, _, startSlot_exchange h⟩
  · exact .inl rfl

theorem beginSlot_frame (e : Env) (l : Live) : ∃ slot bays, beginSlot e l =
    { l with walk := { l.walk with slot := slot }, bays := bays } := by
  obtain h | ⟨_, _, h | ⟨_, _, h⟩⟩ := beginSlot_eq e l <;> exact ⟨_, _, h⟩

/-- A slot in progress stands. -/
theorem beginSlot_of_slot (h : l.walk.slot.isSome = true) : beginSlot e l = l := by
  have : l.walk.slot.isNone = false := by simpa using h
  simp [beginSlot, this]

/-- Of the bays only the one whose exchange has begun is marked. -/
theorem beginSlot_bay (e : Env) (l : Live) (b : Bay) :
    ((∀ sent timeout fate, (beginSlot e l).walk.slot ≠ some ⟨.exchange b sent, timeout, fate⟩) ∨ l.walk.slot.isSome = true →
      (beginSlot e l).bay b = l.bay b) ∧
    ∀ sent timeout fate, l.walk.slot = none → (beginSlot e l).walk.slot = some ⟨.exchange b sent, timeout, fate⟩ →
      (beginSlot e l).bay b = (l.bay b).marked sent := by
  refine ⟨fun h => ?_, fun sent timeout fate hnone hslot => ?_⟩
  · rcases h with other | busy
    · obtain h | ⟨_, _, h | ⟨c, sent, h⟩⟩ := beginSlot_eq e l <;> rw [h] at other ⊢
      · rfl
      · have hne : b ≠ c := fun hbc => other sent _ _ (by rw [hbc])
        exact bay_modBay_ne _ hne
    · rw [beginSlot_of_slot busy]
  · obtain h | ⟨_, _, h | ⟨c, _, h⟩⟩ := beginSlot_eq e l <;> rw [h] at hslot ⊢
    · rw [hnone] at hslot
      exact absurd hslot nofun
    · simp at hslot
    · obtain ⟨⟨rfl, rfl⟩, -⟩ := by simpa using hslot
      exact bay_modBay_self _

/-! ## Settling as a whole -/

/-- MGU executes nothing without a request, or while it is not free. -/
theorem runMgu_idle (h : d.live.mgu.queue = [] ∨ mguFree d = false) : runMgu d = d := by
  unfold runMgu
  split
  · next hqueue => rw [h.resolve_left (by simp [hqueue]), if_neg Bool.false_ne_true]
  · rfl

/-- MGU is not free while a response waits to be sent. -/
theorem mguFree_of_mrsp (h : d.live.mgu.mrsp.isSome = true) : mguFree d = false := by
  simp [mguFree, Option.isNone_eq_false_iff.mpr h]

/-- With no operation to execute a settling part makes its two grants and begins a slot. -/
theorem settle_free (h : d.live.mgu.queue = [] ∨ d.live.mgu.mrsp.isSome = true) :
    settle d = { d with live := { beginSlot d.env d.live with
      tsw := (grantTu (grantTd d)).live.tsw, reports := (grantTu (grantTd d)).live.reports } } := by
  obtain ⟨sending, queue, grant, reports, granted⟩ := grantTu_frame (grantTd d)
  rw [grantTd_eq] at granted
  have mgu : (grantTu d.tdGranted).live.mgu = d.live.mgu := by rw [granted]; rfl
  have idle : runMgu (grantTu (grantTd d)) = grantTu (grantTd d) := by
    rw [grantTd_eq]
    exact runMgu_idle (h.imp (fun h => by rw [mgu, h]) fun h => mguFree_of_mrsp (by rw [mgu, h]))
  rw [settle, idle, grantTu_grantTu, grantTd_eq, granted]
  exact congrArg (fun l => ({ d with live := l } : Dev)) (beginSlot_behind_grants d.env d.live _ _)

/-- With nothing left to do a settling part stands. -/
theorem settle_quiet (h : quiet d = true) : settle d = d := by
  simp only [quiet, Bool.and_eq_true, Bool.or_eq_true, List.isEmpty_iff, Bool.not_eq_true', Option.isNone_iff_eq_none] at h
  obtain ⟨⟨⟨htd, htu⟩, hmgu⟩, hwalk⟩ := h
  have td : grantTd d = d := by
    rw [grantTd_eq, Dev.tdGranted, TswState.tdGranted]
    rcases htd with h | h
    · obtain ⟨f, hf⟩ := Option.isSome_iff_exists.mp h
      simp only [hf]
    · cases hsending : d.live.tsw.tdSending <;> simp only [h]
  have slot : d.act beginSlot = d := by
    rcases hwalk with h | h
    · exact congrArg (fun l => ({ d with live := l } : Dev)) (beginSlot_of_slot h)
    · simp [Dev.act, beginSlot, h]
  rw [settle, td, grantTu_none htu, runMgu_idle hmgu, grantTu_none htu, slot]

/-- A job frame sent is marked, and alternates with the office frames but for IDENT and a frame sent again (R28). -/
theorem afterSend_job (f : JobFrame) (m : BlmPart) : m.afterSend (.job f) =
    { m with
      job := m.job.map fun j => { j with sent := true }
      turn := if f = .ident ∨ (m.job.any fun j => j.sent) = true then m.turn else .job } := by
  have btb : f.owner = .btb ↔ f = .ident := by cases f <;> simp [JobFrame.owner]
  simp only [BlmPart.afterSend, Bool.or_eq_true, beq_iff_eq, btb, or_comm]

/-- A grant of TU leaves what the grant of TD before it made of TD, and the counters. -/
theorem grantTu_grantTd_td (d : Dev) :
    ((grantTu (grantTd d)).live.tsw.tdSending = d.live.tsw.tdGranted.tdSending ∧
      (grantTu (grantTd d)).live.tsw.tdQueue = d.live.tsw.tdGranted.tdQueue) ∧
    (grantTu (grantTd d)).live.tsw.tuCounts = d.live.tsw.tuCounts ∧
      (grantTu (grantTd d)).live.tsw.tdCounts = d.live.tsw.tdCounts := by
  obtain ⟨sending, queue, grant, reports, granted⟩ := grantTu_frame (grantTd d)
  obtain ⟨-, -, -, htuCounts, htdCounts⟩ := tdGranted_tu d.live.tsw
  rw [grantTd_eq] at granted ⊢
  rw [granted]
  exact ⟨⟨rfl, rfl⟩, htuCounts, htdCounts⟩

/-- What the part can change of itself with no operation to execute: TSW, the reports, the slot and the bays. -/
theorem settle_frame (h : d.live.mgu.queue = [] ∨ d.live.mgu.mrsp.isSome = true) : ∃ tsw reports slot bays, settle d =
    { d with live := { d.live with
      tsw := tsw, reports := reports, walk := { d.live.walk with slot := slot }, bays := bays } } := by
  obtain ⟨slot, bays, begun⟩ := beginSlot_frame d.env d.live
  rw [settle_free h, begun]
  exact ⟨_, _, _, _, rfl⟩

/-- Settles O2: each grant by its branch, and the slot as `beginSlot` has it. -/
theorem settlingTouchesOnlyTheLines : Obligations.SettlingTouchesOnlyTheLines := by
  refine ⟨fun d h => settle_quiet h, fun d h => ?_⟩
  obtain ⟨_, _, _, _, frame⟩ := settle_frame h
  obtain ⟨⟨htdSending, htdQueue⟩, htuCounts, htdCounts⟩ := grantTu_grantTd_td d
  have marks := beginSlot_bay d.env d.live
  have walk : (settle d).live.walk = (beginSlot d.env d.live).walk := by rw [settle_free h]
  have bay (b : Bay) : (settle d).live.bay b = (beginSlot d.env d.live).bay b := by rw [settle_free h]; rfl
  have tsw : (settle d).live.tsw = (grantTu (grantTd d)).live.tsw := by rw [settle_free h]
  have reports : (settle d).live.reports = (grantTu (grantTd d)).live.reports := by rw [settle_free h]
  refine ⟨by rw [frame], by rw [frame], by rw [frame], by rw [frame], by rw [frame], by rw [frame], by rw [frame],
    by rw [tsw, htuCounts], by rw [tsw, htdCounts], by rw [frame], by rw [frame], ?_, ?_, walk, fun busy => ?_, fun b => ?_⟩
  · rw [tsw, htdSending, htdQueue]
    cases hs : d.live.tsw.tdSending with
    | some f => simp [TswState.tdGranted, hs]
    | none => cases hq : d.live.tsw.tdQueue <;> simp [TswState.tdGranted, hs, hq]
  · rw [tsw, reports, grantTd_eq]
    obtain ⟨hsending, hqueue, hgrant, -, -⟩ := tdGranted_tu d.live.tsw
    split
    · next hs hq hg =>
      rw [grantTu_forward (d := d.tdGranted) (hsending.trans hs) (hqueue.trans hq) (.inl (hgrant.trans hg))]
      exact ⟨rfl, rfl, rfl, rfl⟩
    · next hs ha hm hnext =>
      rw [grantTu_response (d := d.tdGranted) (hsending.trans hs) ha hm ((forward_not_next hnext).imp hqueue.trans hgrant.trans)]
      exact ⟨rfl, hqueue, rfl, rfl⟩
    · next hs ha hm hr hnext =>
      rw [grantTu_report (d := d.tdGranted) (hsending.trans hs) ha hm hr ((forward_not_next hnext).imp hqueue.trans hgrant.trans)]
      exact ⟨rfl, hqueue, rfl, rfl, of_put_self _ _ _, fun k hk => of_put_ne _ _ _ _ hk⟩
    · next hs hq hresponse hreport _ =>
      rw [grantTu_forward (d := d.tdGranted) (hsending.trans hs) (hqueue.trans hq) (.inr (laneWaits_false (d := d) hresponse hreport))]
      exact ⟨rfl, rfl, rfl, rfl⟩
    · next hforward hresponse hreport _ =>
      rw [grantTu_none]
      · exact ⟨hsending, hqueue, hgrant, rfl⟩
      · cases hs : d.live.tsw.tuSending with
        | some x => exact .inl (Option.isSome_iff_exists.mpr ⟨x, hsending.trans hs⟩)
        | none =>
          have empty : d.live.tsw.tuQueue = [] := List.eq_nil_iff_forall_not_mem.mpr fun f hf => by
            obtain ⟨g, rest, hq⟩ := List.exists_cons_of_ne_nil (List.ne_nil_of_mem hf)
            exact hforward g rest hs hq
          exact .inr (arbiterChoice_none (d := d.tdGranted) (hqueue.trans empty)
            (laneWaits_false (d := d) (fun m => hresponse m hs) fun n rest => hreport n rest hs))
  · rw [walk, beginSlot_of_slot busy]
  · rw [walk, bay]
    refine ⟨(marks b).1, fun sent timeout fate hnone hslot => ((marks b).2 sent timeout fate hnone hslot).trans ?_⟩
    cases sent with
    | job f => simp only [BayRec.marked, afterSend_job]
    | office f => rfl
    | actuate a => rfl
    | samplePoll => rfl
    | poll => rfl

end Sys2Proof.Machine

/-! # A reply that leaves the bay OCCUPIED (R30, R37, R54, R59 to R64, R101, R127, R153)

The two halves of such a reply are one change of the bay's record each, so that a content is read off against the record as the PSTAT
has been taken and the exchange noted. -/
namespace Sys2Proof.Machine

variable {e : Env} {b : Bay} {l : Live} {sent : SentFrame} {reply : Reply}

/-- An OCCUPIED bay on an ONLINE link with no entry to judge, no heat share to shed and no frame of FRD to settle. -/
structure Seated (b : Bay) (l : Live) : Prop where
  occupancy : (l.bay b).btb.occupancy = .occupied
  link : (l.bay b).blm.link = .online
  unbound : boundEntry l b = none
  overcommit : l.fal.overcommit = false
  carried : (l.bay b).frd.carried = false

/-- A frame that stands in no queue and no slot, so that no answer removes it (R30 step 4). -/
def SentFrame.transient (sent : SentFrame) : Prop := sent = .poll ∨ sent = .samplePoll ∨ ∃ settings, sent = .actuate settings

theorem removeAnswered_transient (h : sent.transient) (m : BlmPart) : m.removeAnswered sent = m := by
  obtain rfl | rfl | ⟨settings, rfl⟩ := h <;> rfl

theorem ident_not_transient (h : sent.transient) : sent ≠ .job .ident := by
  obtain rfl | rfl | ⟨settings, rfl⟩ := h <;> exact nofun

/-! ## Before and behind the content -/

/-- The record of a bay as the PSTAT of a reply has been taken and nothing else has come of it. -/
def BayRec.pstatTaken (p : Pstat) (x : BayRec) : BayRec :=
  { x with
    blm := x.blm.heard.compare p
    frd := { x.frd with alertSeen := p.alert }
    php := { x.php with heaterReported := p.heaterOn }
    fal := { x.fal with contactorReported := p.contactorClosed }
    dpc := { x.dpc with latchReported := p.latchReleased } }

theorem pstatTaken_bay {p : Pstat} : (l.modBay b (·.pstatTaken p)).bay b = (l.bay b).pstatTaken p := bay_modBay_self _

/-- Behind BTB a PSTAT without ALERT is only noted where no entry is bound and OVERCOMMIT is clear. -/
theorem pstatBehindBtb_unbound {p : Pstat} (hbound : boundEntry l b = none) (hover : l.fal.overcommit = false)
    (halert : p.alert = false) :
    frdPstat e b p.alert (falPstat e b p.contactorClosed (phpPstat b p.heaterOn (dpcPstat e b p.latchReleased l))) =
      l.modBay b fun x => { x with
        frd := { x.frd with alertSeen := p.alert }
        php := { x.php with heaterReported := p.heaterOn }
        fal := { x.fal with contactorReported := p.contactorClosed }
        dpc := { x.dpc with latchReported := p.latchReleased } } := by
  have dpc : dpcPstat e b p.latchReleased l = l.modDpc b fun d => { d with latchReported := p.latchReleased } :=
    judge_unbound e b _ hbound
  have fal (k : Live) (hk : k.fal.overcommit = false) :
      falPstat e b p.contactorClosed k = k.modFal b fun f => { f with contactorReported := p.contactorClosed } := by
    simp [falPstat, hk]
  have frd (k : Live) : frdPstat e b p.alert k = k.modFrd b fun c => { c with alertSeen := p.alert } := by
    simp [frdPstat, alertStarts, halert]
  rw [dpc, phpPstat, fal _ (by simpa using hover), frd]
  simp only [modDpc_eq, modPhp_eq, modFal_eq, modFrd_eq, modBay_modBay]
  rfl

theorem beforeContent_seated (h : Seated b l) (hsent : sent.transient) (hplug : reply.pstat.plugIn = true)
    (halert : reply.pstat.alert = false) : beforeContent e b sent reply l = l.modBay b (·.pstatTaken reply.pstat) := by
  have plugged (k : Live) (hk : (k.bay b).btb.occupancy = .occupied) : btbPstat e b reply.pstat k = k := by
    simp [btbPstat, hk, hplug]
  rw [beforeContent, handPstat, plugged _ (by simpa using h.occupancy),
    pstatBehindBtb_unbound (by exact h.unbound) (by exact h.overcommit) halert]
  simp only [modBlm_eq, modBay_modBay, removeAnswered_transient hsent]
  rfl

/-- With no work in progress a reply over an ONLINE link is behind its content the record of the exchange. -/
theorem behindContent_online (hsent : sent.transient)
    (hvisit : (l.bay b).lsw.sweep ≠ .running ∨ (l.bay b).lsw.driveSent = false) (hcarried : (l.bay b).frd.carried = false) :
    behindContent e .online b sent reply l =
      l.modBlm b (·.recordEnd (.reply reply.pstat.samplePending (sent == .samplePoll))) := by
  rw [behindContent, announceEnd_idle (ident_not_transient hsent) (by simpa [linkReturn] using hvisit)
    (by simpa [linkReturn] using hcarried)]
  rfl

/-- A reply that leaves the bay OCCUPIED is what its content makes of the record with the exchange noted, where the content leaves
the marks of BLM and of FRD alone. -/
theorem handleReply_seated (g : Live → Live) (h : Seated b l) (hsent : sent.transient) (hplug : reply.pstat.plugIn = true)
    (halert : reply.pstat.alert = false)
    (hdeliver : deliver e b reply.content (l.modBay b (·.pstatTaken reply.pstat)) = g (l.modBay b (·.pstatTaken reply.pstat)))
    (hvisit : ((g (l.modBay b (·.pstatTaken reply.pstat))).bay b).lsw.sweep ≠ .running ∨
      ((g (l.modBay b (·.pstatTaken reply.pstat))).bay b).lsw.driveSent = false)
    (hfrd : ∀ k, ((g k).bay b).frd = (k.bay b).frd)
    (hg : ∀ k x, (g k).modBlm b (·.recordEnd x) = g (k.modBlm b (·.recordEnd x))) :
    handleReply e b sent reply l = g (l.modBay b (replied reply (sent == .samplePoll))) := by
  have carried : ((l.modBay b (·.pstatTaken reply.pstat)).bay b).frd.carried = false := by
    rw [pstatTaken_bay]
    exact h.carried
  rw [handleReply_eq, h.link, beforeContent_seated h hsent hplug halert, hdeliver,
    behindContent_online hsent hvisit (by rwa [hfrd]), hg]
  simp only [modBlm_eq, modBay_modBay]
  rfl

/-! ## The content -/

/-- R64: a cabin sample is held at an OCCUPIED bay; PHP judges none where there is no plan. -/
theorem takeCabin_occupied {n : Nat} (hocc : (l.bay b).btb.occupancy = .occupied) (hplan : (l.bay b).php.state = .none) :
    takeCabin e b n false l = l.modScv b fun c => { c with held := some (cabinTemperature e.params n), age := 0 } := by
  simp [takeCabin, hocc, cabinSample, judgeCabinSample, recompute, hplan]

/-- Settles O21: each kind of content is read off against the record with the exchange noted. -/
theorem aPlainReplyUpdatesTheBay : Obligations.APlainReplyUpdatesTheBay := by
  intro s b sent timeout bytes r hslot hparse hframe hocc hplug halert hlink hbound hover hsweep hcarried hplan
  have seated : Seated b s.live := ⟨hocc, hlink, hbound, hover, hcarried⟩
  have transient : sent.transient := hframe.imp_right (·.imp_right fun h => ⟨_, h⟩)
  have idle : ((s.live.modBay b (·.pstatTaken r.pstat)).bay b).lsw.sweep ≠ .running := by
    rw [pstatTaken_bay]
    exact hsweep
  have ends (g : Live → Live) := handleReply_seated (e := s.dev.env) g seated transient hplug halert
  rw [exec_exchangeReply hslot hparse]
  refine ⟨fun hstat => ?_, fun f hoffice hpass hroom => ?_, fun flags tag code hsmp hflags => ?_, fun tag code hsmp hcode => ?_⟩
  · rw [ends id (by rw [hstat]; rfl) (.inl idle) (fun _ => rfl) fun _ _ => rfl]
    rfl
  · rw [ends (sendUp s.dev.env b f) (by rw [hoffice]; rfl) (.inl (by rw [sendUp_eq]; exact idle)) (fun k => by rw [sendUp_eq]; rfl)
      fun k x => by rw [sendUp_eq, sendUp_eq]; rfl]
    have queued : ¬ 6 ≤ s.live.tsw.tuQueue.length := by omega
    rw [sendUp_eq, if_neg (by simp [hpass]), if_neg (by simpa using queued)]
    rfl
  · rw [ends (fun k => { k with sampleRejects := bump k.sampleRejects }) (by rw [hsmp]; exact takeSample_malformed (.inl hflags))
      (.inl idle) (fun _ => rfl) fun _ _ => rfl]
    rfl
  · have held := takeCabin_occupied (e := s.dev.env) (b := b) (l := s.live.modBay b (·.pstatTaken r.pstat)) (n := code)
      (by rw [pstatTaken_bay]; exact hocc) (by rw [pstatTaken_bay]; exact hplan)
    have delivered : deliver s.dev.env b r.content (s.live.modBay b (·.pstatTaken r.pstat)) =
        (s.live.modBay b (·.pstatTaken r.pstat)).modScv b fun c =>
          { c with held := some (cabinTemperature s.dev.env.params code), age := 0 } := by
      obtain ⟨res12, hchannel, hresolution, hvalid, hrange⟩ := cabinSample_inRange (flags := 0x14) (.inl ⟨rfl, hcode⟩)
      rw [hsmp, deliver, takeSample_cabin hchannel hresolution hvalid, hrange]
      exact held
    rw [ends (fun k => k.modScv b fun c => { c with held := some (cabinTemperature s.dev.env.params code), age := 0 }) delivered
      (.inl (by simpa using idle)) (fun k => by simp) fun k x => by
        simp only [modBlm_eq, modScv_eq, modBay_modBay]
        rfl]
    simp only [modScv_eq, modBay_modBay]
    rfl

end Sys2Proof.Machine

/-! # The steps of a sweep (R81 to R87)

Driving a lamp and writing a result are one change of the bay's record each; the end of a step with a lamp behind it is the two in turn. -/
namespace Sys2Proof.Machine

variable {e : Env} {b : Bay} {l l' : Live} {p q : Nat × Nat} {x : LampResult}

/-! ## Driving a lamp (R82) -/

/-- R34: an LDRV enters an empty slot, takes the place of LSW's own frame, or waits as LSW's claim. -/
theorem place_ldrv (circuit : Nat) (high res12 long : Bool) (tag : Nat) (m : BlmPart) :
    m.place (.ldrv circuit high res12 long tag) =
      match m.job with
      | none => { m with job := some ⟨.ldrv circuit high res12 long tag, false⟩ }
      | some j => match j.frame with
        | .ldrv .. => { m with job := some ⟨.ldrv circuit high res12 long tag, false⟩, lastHolder := .lsw }
        | _ => { m with claimLsw := some (.ldrv circuit high res12 long tag) } := by
  unfold BlmPart.place
  cases m.job with
  | none => rfl
  | some j => cases hframe : j.frame <;> simp [hframe, JobFrame.owner, holderAfter]

theorem driveLamp_eq (e : Env) (b : Bay) (p : Nat × Nat) (l : Live) : driveLamp e b p l =
    l.modBay b (driven (lampEntry e (l.bay b).btb.profile p.1 p.2) p ((l.bay b).lsw.tries + 1)) := by
  simp only [driveLamp, placeJob, modLsw_eq, modBlm_eq, modScv_eq, modBay_modBay]
  refine modBay_congr _ _ _ _ ?_
  simp only [Function.comp_apply, driveFrame, place_ldrv]
  rfl

/-- R81: the pointer lands on a lamp, which is its first drive. -/
theorem stepTo_lamp (e : Env) (b : Bay) (q : Nat × Nat) (l : Live) : stepTo e b (some q) l =
    l.modBay b (driven (lampEntry e (l.bay b).btb.profile q.1 q.2) q 1) := by
  simp only [stepTo, pointAt, driveLamp_eq, modLsw_eq, modBay_modBay, bay_modBay_self]
  exact modBay_congr _ _ _ _ rfl

/-! ## The end of a step (R84 to R86) -/

theorem recordResult_eq (b : Bay) (p : Nat × Nat) (x : LampResult) (l : Live) :
    recordResult b p x l = l.modBay b (resulted p x) := by
  simp only [recordResult, modLsw_eq]
  exact modBay_congr _ _ _ _ (by cases x <;> rfl)

/-- The next lamp to step is the same where the sweep has the same window and order and the bay the same coach. -/
theorem lampAfter_congr (hwindow : (l'.bay b).lsw.window = (l.bay b).lsw.window)
    (horder : (l'.bay b).lsw.order = (l.bay b).lsw.order) (hbtb : (l'.bay b).btb = (l.bay b).btb) :
    lampAfter e l' b p = lampAfter e l b p := by
  have same : steppable e l' b = steppable e l b := by
    funext x
    simp only [steppable, profileOf, hbtb]
  simp only [lampAfter, hwindow, horder, same]

/-- A result leaves the order of the lamps. -/
theorem lampAfter_resulted : lampAfter e (l.modBay b (resulted p x)) b p = lampAfter e l b p :=
  lampAfter_congr (by rw [bay_modBay_self]; rfl) (by rw [bay_modBay_self]; rfl) (by rw [bay_modBay_self]; rfl)

/-- R86: behind a result the next lamp of the window is driven. -/
theorem endStep_next (hpointer : (l.bay b).lsw.pointer = some p) (hnext : lampAfter e l b p = some q) :
    endStep e b x l = l.modBay b fun r => driven (lampEntry e (l.bay b).btb.profile q.1 q.2) q 1 (resulted p x r) := by
  have onward : lampAfter e (l.modBay b (resulted p x)) b p = some q := lampAfter_resulted.trans hnext
  simp only [endStep, hpointer, recordResult_eq, onward, stepTo_lamp, modBay_modBay, bay_modBay_self]
  rfl

/-- A bay after the result of the last lamp of its window: the pointer has passed the window end (R81). -/
def swept (p : Nat × Nat) (x : LampResult) (r : BayRec) : BayRec :=
  { resulted p x r with lsw := { (resulted p x r).lsw with tries := 0, visits := 0 } }

/-- R87: behind the result of the last lamp the sweep completes. -/
theorem endStep_last (hpointer : (l.bay b).lsw.pointer = some p) (hnext : lampAfter e l b p = none) :
    endStep e b x l = completeSweep e b (l.modBay b (swept p x)) := by
  have onward : lampAfter e (l.modBay b (resulted p x)) b p = none := lampAfter_resulted.trans hnext
  simp only [endStep, hpointer, recordResult_eq, onward, stepTo, pointAt, modLsw_eq, modBay_modBay]
  rfl

/-- R84: the lamp of a first drive is driven again, and behind the second drive the step ends without a measurement. -/
theorem visitLimit_eq (hpointer : (l.bay b).lsw.pointer = some p) : visitLimit e b l =
    if (l.bay b).lsw.tries ≤ 1 then
      l.modBay b (driven (lampEntry e (l.bay b).btb.profile p.1 p.2) p ((l.bay b).lsw.tries + 1))
    else endStep e b .noMeasure l := by
  simp only [visitLimit, hpointer, driveLamp_eq]

/-! ## A lamp sample (R62, R68, R83, R85) -/

/-- R85 on the drive range, for a 12-bit code. -/
theorem judgeCurrent_normalize (x : LampEntry) (params : Params) (high : Bool) (code : Nat) :
    judgeCurrent x (lampCurrent params high (normalize true code).1) (normalize true code).2 =
      sampleResult x code (code * (if high = true then params.fullScaleHigh else params.fullScaleLow) / 4096) := by
  by_cases hover : 4095 ≤ code
  · simp [normalize, normalize12, hover, judgeCurrent, sampleResult]
  · simp [normalize, normalize12, hover, judgeCurrent, sampleResult, lampCurrent]

/-- R60, R70: a valid 12-bit lamp sample is converted and handed to LSW with its tag. -/
theorem takeSample_lamp (e : Env) (b : Bay) (tag : Byte) (code : Nat) (l : Live) : takeSample e b 0x15 tag code l =
    lampSample e b (tag.toNat % 16) (lampCurrent e.params (l.bay b).scv.driveHigh (normalize true code).1) (normalize true code).2 l := by
  have channel : channelOf 0x15 = some .lamp := rfl
  have resolution : resolutionOf 0x15 = some true := rfl
  have valid : bitAt 0x15 4 = true := rfl
  have field : bitField tag 0 4 = tag.toNat % 16 := by simp [bitField]
  simp only [takeSample, channel, resolution, valid, if_true, takeLamp, field]

/-- R83, R85: a sample with the step tag ends the step. -/
theorem lampSample_matching {current : Nat} {overrange : Bool} (hpointer : (l.bay b).lsw.pointer = some p)
    (hsweep : (l.bay b).lsw.sweep = .running) : lampSample e b (l.bay b).lsw.stepTag current overrange l =
      endStep e b (judgeCurrent (lampEntry e (l.bay b).btb.profile p.1 p.2) current overrange) l := by
  simp only [lampSample, hpointer, hsweep, and_self, if_true]

/-- R83: a sample with another tag is discarded. -/
theorem lampSample_other {tag current : Nat} {overrange : Bool} (h : tag ≠ (l.bay b).lsw.stepTag) :
    lampSample e b tag current overrange l = l := by
  have other : ¬ ((l.bay b).lsw.sweep = .running ∧ (l.bay b).lsw.stepTag = tag) := fun hs => h hs.2.symm
  simp only [lampSample, if_neg other]
  split <;> rfl

/-- The note of an exchange and the drive of a lamp are made in either order. -/
theorem recordEnd_driven (entry : LampEntry) (n : Nat) (end1 : Recent) (r : BayRec) :
    { driven entry q n (resulted p x r) with blm := (driven entry q n (resulted p x r)).blm.recordEnd end1 } =
      driven entry q n (resulted p x { r with blm := r.blm.recordEnd end1 }) := by
  cases hjob : r.blm.job with
  | none => simp [driven, resulted, BlmPart.recordEnd, hjob]
  | some j => cases hframe : j.frame <;> simp [driven, resulted, BlmPart.recordEnd, hjob, hframe]

/-- R68, R85: the result of a 12-bit sample at the lamp of a step, on the drive range. -/
def measured (e : Env) (b : Bay) (p : Nat × Nat) (code : Nat) (l : Live) : LampResult :=
  sampleResult (lampEntry e (l.bay b).btb.profile p.1 p.2) code
    (code * (if (l.bay b).scv.driveHigh = true then e.params.fullScaleHigh else e.params.fullScaleLow) / 4096)

/-- A lamp sample with the step tag drives the next lamp of the window, and one with another tag is discarded (R83 to R86). -/
theorem handleReply_lampSample {sent : SentFrame} {reply : Reply} {tag : Byte} {code : Nat} (h : Seated b l)
    (hsent : sent.transient) (hplug : reply.pstat.plugIn = true) (halert : reply.pstat.alert = false)
    (hcontent : reply.content = .smp 0x15 tag code) (hsweep : (l.bay b).lsw.sweep = .running)
    (hpointer : (l.bay b).lsw.pointer = some p) :
    (tag.toNat % 16 = (l.bay b).lsw.stepTag → lampAfter e l b p = some q → handleReply e b sent reply l =
      l.modBay b fun x => driven (lampEntry e (l.bay b).btb.profile q.1 q.2) q 1
        (resulted p (measured e b p code l) (replied reply (sent == .samplePoll) x))) ∧
    (tag.toNat % 16 ≠ (l.bay b).lsw.stepTag → (l.bay b).lsw.driveSent = false →
      handleReply e b sent reply l = l.modBay b (replied reply (sent == .samplePoll))) := by
  have bay : (l.modBay b (·.pstatTaken reply.pstat)).bay b = (l.bay b).pstatTaken reply.pstat := pstatTaken_bay
  have pointer : ((l.modBay b (·.pstatTaken reply.pstat)).bay b).lsw.pointer = some p := by rw [bay]; exact hpointer
  refine ⟨fun htag hnext => ?_, fun htag hunsent => ?_⟩
  · have onward : lampAfter e (l.modBay b (·.pstatTaken reply.pstat)) b p = some q :=
      (lampAfter_congr (by rw [bay]; rfl) (by rw [bay]; rfl) (by rw [bay]; rfl)).trans hnext
    have matching : tag.toNat % 16 = ((l.modBay b (·.pstatTaken reply.pstat)).bay b).lsw.stepTag := by rw [bay, htag]; rfl
    refine (handleReply_seated (fun k => k.modBay b fun x =>
        driven (lampEntry e (l.bay b).btb.profile q.1 q.2) q 1 (resulted p (measured e b p code l) x))
      h hsent hplug halert ?_ (.inr (by rw [bay_modBay_self]; rfl)) (fun k => by rw [bay_modBay_self]; rfl) fun k end1 => ?_).trans ?_
    · rw [hcontent, deliver, takeSample_lamp, matching, lampSample_matching pointer (by rw [bay]; exact hsweep),
        endStep_next pointer onward, judgeCurrent_normalize, bay]
      rfl
    · simp only [modBlm_eq, modBay_modBay]
      exact modBay_congr _ _ _ _ (recordEnd_driven _ _ _ _)
    · simp only [modBay_modBay]
      rfl
  · refine handleReply_seated id h hsent hplug halert ?_ (.inr (by rw [id, bay]; exact hunsent)) (fun _ => rfl) fun _ _ => rfl
    rw [hcontent, deliver, takeSample_lamp, lampSample_other (by rw [bay]; exact htag)]
    rfl

end Sys2Proof.Machine

/-! # A sweep completes (R80, R87, R88, R92)

What follows the last result leaves the lamp results of the bay: the end of a heater pause, the release of the lamp share with no request
waiting, and the judgement that a new gate sets off. -/
namespace Sys2Proof.Machine

variable {e : Env} {b : Bay} {l l' l'' : Live} {p : Nat × Nat} {s : State}

/-! ## What leaves the sweep of a bay -/

/-- The sweep of a bay, its claim and its shares stand, with the bay's coach, MGU and the queue of requests. -/
structure SweepStands (b : Bay) (l l' : Live) : Prop where
  lsw : (l'.bay b).lsw = (l.bay b).lsw
  claim : (l'.bay b).blm.claimLsw = (l.bay b).blm.claimLsw
  btb : ∃ p, (l'.bay b).btb = { (l.bay b).btb with purpose := p }
  shares : (l'.bay b).fal = (l.bay b).fal
  requests : l'.fal = l.fal
  mgu : l'.mgu = l.mgu

theorem SweepStands.refl (b : Bay) (l : Live) : SweepStands b l l := ⟨rfl, rfl, ⟨_, rfl⟩, rfl, rfl, rfl⟩

theorem SweepStands.trans (h : SweepStands b l l') (h' : SweepStands b l' l'') : SweepStands b l l'' := by
  obtain ⟨p, hp⟩ := h.btb
  obtain ⟨p', hp'⟩ := h'.btb
  exact ⟨h'.lsw.trans h.lsw, h'.claim.trans h.claim, ⟨p', by rw [hp', hp]⟩, h'.shares.trans h.shares,
    h'.requests.trans h.requests, h'.mgu.trans h.mgu⟩

/-- `SweepStands` read from the last step back. -/
theorem SweepStands.after (h' : SweepStands b l' l'') (h : SweepStands b l l') : SweepStands b l l'' := h.trans h'

theorem modPhp_sweepStands {f : PhpPart → PhpPart} : SweepStands b l (l.modPhp b f) :=
  ⟨by simp, by simp, ⟨_, by simp; rfl⟩, by simp, rfl, rfl⟩

theorem modDpc_sweepStands {f : DpcPart → DpcPart} : SweepStands b l (l.modDpc b f) :=
  ⟨by simp, by simp, ⟨_, by simp; rfl⟩, by simp, rfl, rfl⟩

theorem addBayReason_sweepStands {x : Reason} : SweepStands b l (addBayReason e b x l) := ⟨rfl, rfl, ⟨_, rfl⟩, rfl, rfl, rfl⟩

theorem updateEntry_sweepStands {n : Nat} {f : DepEntry → DepEntry} : SweepStands b l (updateEntry n f l) :=
  ⟨rfl, rfl, ⟨_, rfl⟩, rfl, rfl, rfl⟩

theorem setHeater_sweepStands {on : Bool} : SweepStands b l (setHeater b on l) :=
  ⟨by simp [setHeater], by simp [setHeater, desire_eq], ⟨_, by simp [setHeater]; rfl⟩, by simp [setHeater], rfl, rfl⟩

theorem setLatch_sweepStands {purpose : Purpose} {release : Bool} : SweepStands b l (setLatch b purpose release l) := by
  rw [setLatch_eq]
  exact ⟨by simp, by simp, ⟨purpose, by simp⟩, by simp, rfl, rfl⟩

/-- DPC's judgement of a bay touches its entry, its purpose and its desired latch (R157, R158). -/
theorem judge_sweepStands : SweepStands b l (judge e b l) := by
  have revoked (x : DepEntry) : SweepStands b l (revokeEntry e b x l) := by
    unfold revokeEntry
    split
    · exact addBayReason_sweepStands.after (setLatch_sweepStands.after updateEntry_sweepStands)
    · exact addBayReason_sweepStands.after updateEntry_sweepStands
  unfold judge
  split
  · exact .refl b l
  · split
    · exact .refl b l
    · split
      · exact addBayReason_sweepStands.after updateEntry_sweepStands
      · exact .refl b l
    · split
      · exact .refl b l
      · exact revoked _
    · split
      · exact .refl b l
      · exact revoked _

theorem gateNotice_sweepStands {judging : Bool} {g : Gate} {pass : Bool} : SweepStands b l (gateNotice e judging b g pass l) := by
  unfold gateNotice
  split
  · exact judge_sweepStands.after modDpc_sweepStands
  · exact modDpc_sweepStands

theorem lateNotice_sweepStands {late : Bool} : SweepStands b l (lateNotice b late l) := by
  unfold lateNotice
  split
  · exact .refl b l
  · exact updateEntry_sweepStands

theorem evalLate_sweepStands : SweepStands b l (evalLate e b l) := by
  simp only [evalLate]
  split
  · exact .refl b l
  · split
    · exact lateNotice_sweepStands.after (addBayReason_sweepStands.after modPhp_sweepStands)
    · exact .refl b l

theorem clearLate_sweepStands : SweepStands b l (clearLate b l) := by
  unfold clearLate
  split
  · exact lateNotice_sweepStands.after modPhp_sweepStands
  · exact .refl b l

/-- PHP's part in the end of a heater pause (R109). -/
theorem pauseEnds_sweepStands : SweepStands b l (pauseEnds e b l) := by
  simp only [pauseEnds]
  split
  · split
    · exact evalLate_sweepStands.after (addBayReason_sweepStands.after (setHeater_sweepStands.after
        (modPhp_sweepStands.after modPhp_sweepStands)))
    · exact clearLate_sweepStands.after (setHeater_sweepStands.after (modPhp_sweepStands.after modPhp_sweepStands))
  · exact modPhp_sweepStands

/-! ## The lamp gate (R92) -/

/-- The lamp gate is a matter of the bay's coach and its lamp results. -/
theorem lampGateNow_congr (hmap : (l'.bay b).lsw.map = (l.bay b).lsw.map)
    (hbtb : ∃ p, (l'.bay b).btb = { (l.bay b).btb with purpose := p }) : lampGateNow e l' b = lampGateNow e l b := by
  obtain ⟨purpose, hbtb⟩ := hbtb
  simp only [lampGateNow, steppable, profileOf, hmap, hbtb]

/-- The gate is set to what it is now; a change goes to DPC, which judges. -/
theorem evalLampGate_sweepStands {judging : Bool} :
    SweepStands b (l.modLsw b fun s => { s with gate := lampGateNow e l b }) (evalLampGate e judging b l) := by
  simp only [evalLampGate]
  split
  · next h =>
    have same : l.modLsw b (fun s => { s with gate := lampGateNow e l b }) = l := modBay_id _ _ _ (by rw [← h])
    rw [same]
    exact .refl b l
  · exact gateNotice_sweepStands

/-! ## The release of a share with no request waiting (R122 to R126) -/

/-- A pass over an empty queue admits nothing. -/
theorem admissionPass_empty (h : l.fal.queue = []) : admissionPass e l = (l, []) := by
  have heads (n : Nat) : admitHeads e n (l, []) = (l, []) := by
    cases n with
    | zero => rfl
    | succ n => simp only [admitHeads, h]
  have round : passRound e l = (l, []) := by simp [passRound, heads, h, passLamps]
  have rounds (n : Nat) : passRounds e n l [] = (l, []) := by
    cases n with
    | zero => rfl
    | succ n => simp [passRounds, round]
  simp only [admissionPass, rounds, ite_self]

theorem judgeOvercommit_empty (h : l.fal.queue = []) : ∃ x, judgeOvercommit e l =
    ({ l with fal := { l.fal with overcommit := x } }, []) := by
  unfold judgeOvercommit
  split
  · exact ⟨l.fal.overcommit, rfl⟩
  · exact ⟨false, admissionPass_empty h⟩

/-- With nothing admitted nobody is told. -/
theorem finishPass_nil : finishPass e (l, []) = l := by
  unfold finishPass
  cases noticeBound l [] <;> rfl

/-- The lamp share is given back, and nobody waits for it. -/
theorem releaseLamp_empty (h : l.fal.queue = []) :
    ((releaseShare e b .lamp l).bay b).fal.lamp.state ≠ .admitted ∧ (∃ f, (releaseShare e b .lamp l).bay b =
      { l.bay b with fal := f }) ∧ (releaseShare e b .lamp l).mgu = l.mgu := by
  by_cases hadmitted : (shareOf l b .lamp).state = .admitted
  · obtain ⟨x, judged⟩ := judgeOvercommit_empty (e := e) (l := dropShare b .lamp l) h
    rw [releaseShare, freeShare, if_pos hadmitted, judged, finishPass_nil]
    have bay : (dropShare b .lamp l).bay b = { l.bay b with fal := { (l.bay b).fal with lamp := .none } } := bay_modFal_self _
    refine ⟨?_, ⟨_, bay⟩, rfl⟩
    show ((dropShare b .lamp l).bay b).fal.lamp.state ≠ .admitted
    rw [bay]
    exact nofun
  · rw [releaseShare_none hadmitted]
    exact ⟨hadmitted, ⟨_, rfl⟩, rfl⟩

/-! ## The completion (R87) -/

/-- LSW's withdrawal leaves no claim of its own, whatever refills the slot (R34). -/
theorem withdraw_lsw_claim (m : BlmPart) : (m.withdraw .lsw).claimLsw = none := by
  simp only [BlmPart.withdraw, BlmPart.dropClaim]
  split
  · split
    · next j hjob _ =>
      cases m.claimFrd <;> simp [BlmPart.emptySlot, BlmPart.refill, hjob]
    · rfl
  · rfl

/-- A sweep that has passed its window end, with its heater pause ended. -/
theorem closeSweep_result (e : Env) (b : Bay) (l : Live) :
    ((closeSweep e b l).bay b).lsw =
        { (l.bay b).lsw with sweep := .complete, pointer := none, tries := 0, visits := 0, pauseMarker := false } ∧
      ((closeSweep e b l).bay b).blm.claimLsw = none ∧ (∃ p, ((closeSweep e b l).bay b).btb = { (l.bay b).btb with purpose := p }) ∧
      (closeSweep e b l).fal = l.fal ∧ (closeSweep e b l).mgu = l.mgu := by
  have claim := withdraw_lsw_claim (l.bay b).blm
  unfold closeSweep endPause
  split
  · have stands := pauseEnds_sweepStands (e := e) (b := b) (l := ((withdrawJob b .lsw l).modLsw b fun s =>
      { s with sweep := .complete, pointer := none, tries := 0, visits := 0 }).modLsw b fun s => { s with pauseMarker := false })
    obtain ⟨purpose, hbtb⟩ := stands.btb
    exact ⟨stands.lsw.trans (by simp [withdrawJob]), stands.claim.trans (by simpa [withdrawJob] using claim),
      ⟨purpose, hbtb.trans (by simp [withdrawJob])⟩, stands.requests, stands.mgu⟩
  · next hmarker =>
    have clear : (l.bay b).lsw.pauseMarker = false := by simpa [withdrawJob] using hmarker
    exact ⟨by simp [withdrawJob, ← clear], by simpa [withdrawJob] using claim, ⟨_, by simp [withdrawJob]; rfl⟩, rfl, rfl⟩

/-- The last lamp is behind the sweep: it is COMPLETE, its share given back, and its gate what the results make of it. -/
theorem completeSweep_result (hqueue : l.fal.queue = []) :
    ((completeSweep e b l).bay b).lsw = { (l.bay b).lsw with
        sweep := .complete, pointer := none, tries := 0, visits := 0, pauseMarker := false,
        gate := lampGateNow e (completeSweep e b l) b } ∧
      ((completeSweep e b l).bay b).blm.claimLsw = none ∧ ((completeSweep e b l).bay b).fal.lamp.state ≠ .admitted ∧
      (completeSweep e b l).mgu = l.mgu := by
  obtain ⟨closed, claim, -, requests, mgu⟩ := closeSweep_result e b l
  obtain ⟨lamp, ⟨f, released⟩, mgu'⟩ := releaseLamp_empty (e := e) (b := b) (l := closeSweep e b l) (by rw [requests, hqueue])
  have gate : SweepStands b _ (completeSweep e b l) :=
    addBayReason_sweepStands.after (evalLampGate_sweepStands (judging := true) (l := releaseShare e b .lamp (closeSweep e b l)))
  have now : lampGateNow e (completeSweep e b l) b = lampGateNow e (releaseShare e b .lamp (closeSweep e b l)) b :=
    lampGateNow_congr (by rw [gate.lsw]; simp) (by simpa using gate.btb)
  refine ⟨?_, ?_, ?_, ?_⟩
  · rw [gate.lsw, now, bay_modLsw_self, released, closed]
  · rw [gate.claim, bay_modLsw_self, released, claim]
  · rw [gate.shares, bay_modLsw_self]
    exact lamp
  · rw [gate.mgu, modLsw_mgu, mgu', mgu]

/-! ## STEP_VISIT_LIMIT -/

/-- The row is the visit limit of R84 in a RUNNING sweep. -/
theorem exec_stepVisitLimit (ha : addressed s = true) (hsweep : (s.bay b).lsw.sweep = .running) :
    exec (.stepVisitLimit b) s = .next (s.goes (visitLimit s.dev.env b s.live)) := by
  have running : (s.live.bay b).lsw.sweep = .running := hsweep
  refine congrArg Host.Outcome.next ((after_event _ ha).trans (congrArg s.goes ?_))
  simp only [running, if_true]

/-- Behind the second drive of the last lamp its result is written and the sweep is COMPLETE. -/
theorem visitLimit_last (hpointer : (l.bay b).lsw.pointer = some p) (htries : 2 ≤ (l.bay b).lsw.tries)
    (hlast : lampAfter e l b p = none) (hqueue : l.fal.queue = []) :
    ((visitLimit e b l).bay b).lsw = { (resulted p .noMeasure (l.bay b)).lsw with
        sweep := .complete, pointer := none, tries := 0, visits := 0, pauseMarker := false,
        gate := lampGateNow e (visitLimit e b l) b } ∧
      ((visitLimit e b l).bay b).blm.claimLsw = none ∧ ((visitLimit e b l).bay b).fal.lamp.state ≠ .admitted ∧
      (visitLimit e b l).mgu = l.mgu := by
  rw [visitLimit_eq hpointer, if_neg (Nat.not_le.mpr htries), endStep_last hpointer hlast]
  obtain ⟨hlsw, hclaim, hlamp, hmgu⟩ := completeSweep_result (e := e) (b := b) (l := l.modBay b (swept p .noMeasure)) hqueue
  rw [bay_modBay_self] at hlsw
  exact ⟨hlsw, hclaim, hlamp, hmgu⟩

/-- As the part goes on with no request for MGU it takes notes, and its straps, tables, parameters and clock stand. -/
theorem goes_noted (s : State) (h : l.mgu.queue = []) : Noted l (s.goes l).live ∧ (s.goes l).dev.env = s.dev.env := by
  obtain ⟨_, _, _, _, frame⟩ := settle_frame (d := { s.dev with live := l }) (.inl h)
  have env := congrArg Dev.env frame
  exact ⟨(settle_noted (d := { s.dev with live := l }) h).1, env⟩

/-- The completed sweep stays as the part goes on. -/
theorem exec_stepVisitLimit_last (ha : addressed s = true) (hsweep : (s.bay b).lsw.sweep = .running)
    (hpointer : (s.bay b).lsw.pointer = some p) (htries : 2 ≤ (s.bay b).lsw.tries) (hlast : lampAfter s.dev.env s.live b p = none)
    (hqueue : s.live.fal.queue = []) (hmgu : s.live.mgu.queue = []) :
    ∃ t x, exec (.stepVisitLimit b) s = .next t ∧ (t.bay b).lsw = { (resulted p .noMeasure (s.bay b)).lsw with
        sweep := .complete, pointer := none, tries := 0, visits := 0, pauseMarker := false, driveSent := x,
        gate := lampGateNow t.dev.env t.live b } ∧
      (t.bay b).blm.claimLsw = none ∧ (t.bay b).fal.lamp.state ≠ .admitted := by
  obtain ⟨hlsw, hclaim, hlamp, hmgu'⟩ := visitLimit_last (e := s.dev.env) (l := s.live) hpointer htries hlast hqueue
  obtain ⟨noted, env⟩ := goes_noted s (l := visitLimit s.dev.env b s.live) (by rw [hmgu', hmgu])
  obtain ⟨x, sent⟩ := (noted.bays b).lsw
  obtain ⟨y, reported⟩ := (noted.bays b).fal
  refine ⟨_, x, exec_stepVisitLimit ha hsweep, ?_, (noted.bays b).claimLsw.trans hclaim, ?_⟩
  · have gate : lampGateNow s.dev.env (s.goes (visitLimit s.dev.env b s.live)).live b =
        lampGateNow s.dev.env (visitLimit s.dev.env b s.live) b :=
      lampGateNow_congr (by rw [sent]) ⟨_, (noted.bays b).btb⟩
    rw [env, gate]
    exact sent.trans (by rw [hlsw]; rfl)
  · have lamp : ((s.goes (visitLimit s.dev.env b s.live)).live.bay b).fal.lamp =
        ((visitLimit s.dev.env b s.live).bay b).fal.lamp := by rw [reported]
    exact fun hadmitted => hlamp (by rw [← lamp]; exact hadmitted)

/-- Settles O27: the visit limit by the drive it ends, and a sample by its tag. -/
theorem theVisitLimitDrivesAgainOrGivesUp : Obligations.TheVisitLimitDrivesAgainOrGivesUp := by
  refine ⟨fun s b p ha hsweep hpointer => ⟨fun htries => ?_, fun q htries hnext => ?_, fun htries hlast hqueue hmgu => ?_⟩,
    fun s b p sent timeout bytes r tag code hslot hparse hcontent hframe hocc hplug halert hlink hbound hover hcarried hsweep
      hpointer => ?_⟩
  · rw [exec_stepVisitLimit ha hsweep, visitLimit_eq (l := s.live) hpointer, if_pos (by exact htries)]
    rfl
  · rw [exec_stepVisitLimit ha hsweep, visitLimit_eq (l := s.live) hpointer, if_neg (by exact Nat.not_le.mpr htries),
      endStep_next (l := s.live) hpointer hnext]
    rfl
  · obtain ⟨t, x, stepped, hlsw, hclaim, hlamp⟩ := exec_stepVisitLimit_last ha hsweep hpointer htries hlast hqueue hmgu
    refine ⟨t, stepped, ?_, ?_, ?_, ?_, ?_, ?_, ?_, ?_, hclaim, hlamp⟩ <;> rw [hlsw]
  · have seated : Seated b s.live := ⟨hocc, hlink, hbound, hover, hcarried⟩
    have sampled (q : Nat × Nat) := handleReply_lampSample (e := s.dev.env) (l := s.live) (q := q) seated hframe hplug halert
      hcontent hsweep hpointer
    rw [exec_exchangeReply hslot hparse]
    refine ⟨fun q htag hnext => ?_, fun htag hunsent => ?_⟩
    · rw [(sampled q).1 htag hnext]
      rfl
    · rw [(sampled p).2 htag hunsent]

end Sys2Proof.Machine

/-! # A frame received at a trunk port (R42 to R46, R52, R55, R56, R165, R175)

What a reception comes to, by where the frame goes: counted, relayed, or taken for the row or for a bay. -/
namespace Sys2Proof.Machine

variable {s : State} {d : Dev} {l : Live} {e : Env} {port : Port} {bytes : List Byte} {f : TrunkFrame}

/-! ## The bytes of a frame (R42, R175, Table 11-1) -/

/-- Bytes that spell a frame are that frame as sent, and its fields are in range. -/
theorem parseTrunk_sound (h : parseTrunk bytes = some f) :
    f.dr ≤ 63 ∧ f.db ≤ 31 ∧ f.sr < 256 ∧ f.sb < 256 ∧ f.hop ≤ 15 ∧ f.payload.length ≤ 120 ∧ bytes = f.bytes := by
  unfold parseTrunk at h
  split at h
  · next dr db sr sb kind hop len payload hchecked =>
    split at h
    · next inRange =>
      obtain ⟨hlen, hpayload, hdr, hdb, hhop⟩ := inRange
      cases h
      refine ⟨hdr, hdb, sr.isLt, sb.isLt, hhop, hpayload ▸ hlen, ?_⟩
      rw [withCheck_of_checked _ _ hchecked]
      simp [TrunkFrame.bytes, ← hpayload]
    · exact absurd h nofun
  · exact absurd h nofun

/-- A frame sent with its fields in range is read back. -/
theorem parseTrunk_bytes (hdr : f.dr ≤ 63) (hdb : f.db ≤ 31) (hsr : f.sr < 256) (hsb : f.sb < 256) (hhop : f.hop ≤ 15)
    (hlen : f.payload.length ≤ 120) : parseTrunk f.bytes = some f := by
  have dr : f.dr % 256 = f.dr := Nat.mod_eq_of_lt (by omega)
  have db : f.db % 256 = f.db := Nat.mod_eq_of_lt (by omega)
  have sr : f.sr % 256 = f.sr := Nat.mod_eq_of_lt hsr
  have sb : f.sb % 256 = f.sb := Nat.mod_eq_of_lt hsb
  have hop : f.hop % 256 = f.hop := Nat.mod_eq_of_lt (by omega)
  have len : f.payload.length % 256 = f.payload.length := Nat.mod_eq_of_lt (by omega)
  simp [parseTrunk, TrunkFrame.bytes, checked_withCheck, dr, db, sr, sb, hop, len, hdr, hdb, hhop, hlen, Config.trunkPayloadMax]

/-- Settles O8: reading is sound, and reads back what is sent. -/
theorem trunkFramesReadExactlyAsSent : Obligations.TrunkFramesReadExactlyAsSent := by
  refine fun bytes f => ⟨parseTrunk_sound, ?_⟩
  rintro ⟨hdr, hdb, hsr, hsb, hhop, hlen, rfl⟩
  exact parseTrunk_bytes hdr hdb hsr hsb hhop hlen

/-! ## Where a frame goes (R43, R56) -/

/-- A frame for the own row is taken and not relayed. -/
theorem exec_ownRow (ha : addressed s = true) (hparse : parseTrunk bytes = some f) (hrow : f.dr = s.dev.env.straps.row.val) :
    exec (.trunkFrameReceived port bytes) s = .next (s.becomes (takeFrame port f s.dev)) := by
  have ha' : s.dev.env.straps.addressed = true := ha
  have sorted : receiveFrame port bytes s.dev = takeFrame port f s.dev := by
    simp [receiveFrame, hparse, sortFrame, relayed, taken, ha', hrow]
  rw [← sorted]
  rfl

/-- A frame for another row is relayed and not taken. -/
theorem exec_otherRow (hparse : parseTrunk bytes = some f) (hrow : f.dr ≠ s.dev.env.straps.row.val)
    (hall : f.dr ≠ 63) :
    exec (.trunkFrameReceived port bytes) s = .next (s.goes (relay s.dev.env.straps port f s.live)) := by
  have sorted : receiveFrame port bytes s.dev = s.dev.act fun e => relay e.straps port f := by
    simp [receiveFrame, hparse, sortFrame, relayed, taken, hrow, hall]
  exact congrArg (fun d => Host.Outcome.next (s.becomes d)) sorted

/-- No row with an address has the number of all rows. -/
theorem row_lt_all {p : Straps} (ha : p.addressed = true) : p.row.val < 63 := by
  simp only [addressed_eq, Bool.and_eq_true, decide_eq_true_eq] at ha
  omega

/-- A frame for all rows is relayed and taken. -/
theorem exec_allRows (ha : addressed s = true) (hparse : parseTrunk bytes = some f) (hall : f.dr = 63) :
    exec (.trunkFrameReceived port bytes) s =
      .next (s.becomes (takeFrame port f (s.dev.act fun e => relay e.straps port f))) := by
  have ha' : s.dev.env.straps.addressed = true := ha
  have row : s.dev.env.straps.row.val < 63 := row_lt_all ha'
  have sorted : receiveFrame port bytes s.dev = takeFrame port f (s.dev.act fun e => relay e.straps port f) := by
    have other : (63 != s.dev.env.straps.row.val) = true := by simp; omega
    simp [receiveFrame, hparse, sortFrame, relayed, taken, ha', hall, other]
  rw [← sorted]
  rfl

/-- A part without an address relays every good frame and takes none. -/
theorem exec_unaddressed (ha : addressed s = false) (hparse : parseTrunk bytes = some f) :
    exec (.trunkFrameReceived port bytes) s = .next (s.goes (relay s.dev.env.straps port f s.live)) := by
  have ha' : s.dev.env.straps.addressed = false := ha
  have sorted : receiveFrame port bytes s.dev = s.dev.act fun e => relay e.straps port f := by
    simp [receiveFrame, hparse, sortFrame, relayed, taken, ha']
  exact congrArg (fun d => Host.Outcome.next (s.becomes d)) sorted

/-! ## Frames that are only counted (R42, R44, R45, R55) -/

/-- A frame for the row that is no MGMT and no TIME frame is counted. -/
theorem takeForRow_other (hmgmt : f.kind ≠ 0x01#8) (htime : f.kind ≠ 0x04#8) :
    takeForRow port f d = { d with live := countBad port d.live } := by
  have mgmt : f.kind.toNat ≠ 1 := fun h => hmgmt (BitVec.eq_of_toNat_eq h)
  have time : f.kind.toNat ≠ 4 := fun h => htime (BitVec.eq_of_toNat_eq h)
  unfold takeForRow
  split
  · next h => exact absurd h mgmt
  · next h => exact absurd h time
  · rfl

/-- A frame for a bay that does not exist, or of no office kind, is counted. -/
theorem takeForBay_bad (h : (17 ≤ f.db ∧ f.db ≤ 30) ∨ f.kind.toNat < 32) : takeForBay e port f l = countBad port l := by
  unfold takeForBay
  split
  · rfl
  · next hexists => rw [if_pos (h.resolve_left (by omega))]

/-- Settles O9: each such frame is taken and found to be counted. -/
theorem badFramesAreOnlyCounted : Obligations.BadFramesAreOnlyCounted := by
  refine ⟨fun s bytes => ⟨rfl, rfl, fun hparse => ?_⟩, fun s port bytes f ha hparse hrow hbad => ?_⟩
  · have counted (port : Port) : receiveFrame port bytes s.dev = { s.dev with live := countBad port s.dev.live } := by
      simp [receiveFrame, hparse]
    exact ⟨congrArg (fun d => Host.Outcome.next (s.becomes d)) (counted .tu),
      congrArg (fun d => Host.Outcome.next (s.becomes d)) (counted .td)⟩
  · have counted : takeFrame port f s.dev = { s.dev with live := countBad port s.dev.live } := by
      unfold takeFrame
      split
      · next hdb =>
        obtain hdb' | ⟨hdb', -⟩ | ⟨-, hmgmt, htime⟩ := hbad
        · omega
        · exact absurd hdb hdb'
        · exact takeForRow_other hmgmt htime
      · next hdb =>
        exact congrArg (fun l => ({ s.dev with live := l } : Dev))
          (takeForBay_bad (hbad.imp_right fun h => (h.resolve_right fun h => hdb h.1).2))
    rw [exec_ownRow ha hparse hrow, counted]
    rfl

/-! ## Frames relayed (R46, Table 3-1) -/

/-- TSW's state as a frame joins the TU-bound queue, or is lost at a full one and counted at TD. -/
def TswState.offeredUp (f : TrunkFrame) (t : TswState) : TswState :=
  if 6 ≤ t.tuQueue.length then { t with tdCounts := { t.tdCounts with overflow := bump t.tdCounts.overflow } }
  else { t with tuQueue := t.tuQueue ++ [f] }

/-- TSW's state as a frame joins the TD-bound queue, or is lost at a full one and counted at TU. -/
def TswState.offeredDown (f : TrunkFrame) (t : TswState) : TswState :=
  if 6 ≤ t.tdQueue.length then { t with tuCounts := { t.tuCounts with overflow := bump t.tuCounts.overflow } }
  else { t with tdQueue := t.tdQueue ++ [f] }

theorem offerForward_up (f : TrunkFrame) (l : Live) : offerForward .tu .td f l = { l with tsw := l.tsw.offeredUp f } := by
  unfold offerForward TswState.offeredUp
  change (if 6 ≤ l.tsw.tuQueue.length then _ else _) = _
  split <;> rfl

theorem offerForward_down (f : TrunkFrame) (l : Live) : offerForward .td .tu f l = { l with tsw := l.tsw.offeredDown f } := by
  unfold offerForward TswState.offeredDown
  change (if 6 ≤ l.tsw.tdQueue.length then _ else _) = _
  split <;> rfl

/-- A frame from TD: it keeps its HOP where it runs with the trunk or the part has no address, and loses a hop or expires otherwise. -/
theorem relay_up (p : Straps) (f : TrunkFrame) (l : Live) : relay p .td f l =
    { l with
      tsw :=
        if p.addressed = false ∨ f.dr < p.row.val then l.tsw.offeredUp f
        else if f.hop = 0 then { l.tsw with tdCounts := { l.tsw.tdCounts with hopExpired := bump l.tsw.tdCounts.hopExpired } }
        else l.tsw.offeredUp { f with hop := f.hop - 1 } } := by
  simp only [relay, oppositePort, runsWithTrunk, decide_eq_true_eq, reduceCtorEq, false_and, if_false, offerForward_up]
  split
  · rfl
  · split <;> rfl

/-- A frame from TU: it goes no further at the end of the trunk, and else as from TD, with the order of the rows turned. -/
theorem relay_down (p : Straps) (f : TrunkFrame) (l : Live) : relay p .tu f l =
    { l with
      tsw :=
        if p.endOfTrunk = true then l.tsw
        else if p.addressed = false ∨ p.row.val < f.dr then l.tsw.offeredDown f
        else if f.hop = 0 then { l.tsw with tuCounts := { l.tsw.tuCounts with hopExpired := bump l.tsw.tuCounts.hopExpired } }
        else l.tsw.offeredDown { f with hop := f.hop - 1 } } := by
  simp only [relay, oppositePort, runsWithTrunk, decide_eq_true_eq, true_and, offerForward_down]
  split
  · rfl
  · split
    · rfl
    · split <;> rfl

/-- What is taken of a frame does not depend on the row it names. -/
theorem takeFrame_row (row : Nat) : takeFrame port { f with dr := row } d = takeFrame port f d := rfl

/-- A frame for all rows does to the part behind the relay what the same frame for the own row does. -/
theorem exec_allRows_own {own : List Byte} {k : Live} (ha : addressed s = true) (hparse : parseTrunk bytes = some f)
    (hall : f.dr = 63) (hown : parseTrunk own = some { f with dr := s.dev.env.straps.row.val })
    (hrelay : relay s.dev.env.straps port f s.live = k) :
    exec (.trunkFrameReceived port bytes) s =
      exec (.trunkFrameReceived port own) { s with dev := { s.dev with live := k } } := by
  rw [exec_allRows ha hparse hall, exec_ownRow (s := { s with dev := { s.dev with live := k } }) ha hown rfl, takeFrame_row, ← hrelay]
  rfl

/-- Settles O10: `relay_up` and `relay_down` by the order of the rows. -/
theorem framesForOtherRowsAreRelayed : Obligations.FramesForOtherRowsAreRelayed := by
  refine ⟨fun s bytes f ha hparse hrow hall => ?_, fun s bytes own f ha hparse hall hown => ?_, fun s bytes f ha hparse => ?_⟩
  · have ha' : s.dev.env.straps.addressed = true := ha
    rw [exec_otherRow hparse hrow hall, exec_otherRow hparse hrow hall, relay_up, relay_down]
    rcases Nat.lt_or_gt_of_ne hrow with lower | higher
    · have notHigher : ¬ s.dev.env.straps.row.val < f.dr := by omega
      simp only [ha', lower, notHigher, TswState.offeredUp, TswState.offeredDown, Bool.true_eq_false, or_true, or_self, true_and,
        false_and, if_true, if_false]
      refine ⟨congrArg (fun l => Host.Outcome.next (s.goes l)) ?_, congrArg (fun l => Host.Outcome.next (s.goes l)) ?_⟩
      · split <;> rfl
      · split
        · rfl
        · split
          · rfl
          · split <;> rfl
    · have notLower : ¬ f.dr < s.dev.env.straps.row.val := by omega
      simp only [ha', higher, notLower, TswState.offeredUp, TswState.offeredDown, Bool.true_eq_false, or_true, or_self, true_and,
        false_and, if_true, if_false]
      refine ⟨congrArg (fun l => Host.Outcome.next (s.goes l)) ?_, congrArg (fun l => Host.Outcome.next (s.goes l)) ?_⟩
      · split
        · rfl
        · split <;> rfl
      · split
        · rfl
        · split <;> rfl
  · have ha' : s.dev.env.straps.addressed = true := ha
    have row : s.dev.env.straps.row.val < 63 := row_lt_all ha'
    have notHigher : ¬ 63 < s.dev.env.straps.row.val := by omega
    refine ⟨exec_allRows_own ha hparse hall hown ?_, exec_allRows_own ha hparse hall hown ?_⟩
    · rw [relay_up]
      simp only [ha', hall, notHigher, Bool.true_eq_false, or_self, if_false]
      rfl
    · rw [relay_down]
      simp only [ha', hall, row, or_true, if_true]
      rfl
  · have ha' : s.dev.env.straps.addressed = false := ha
    rw [exec_unaddressed ha hparse, exec_unaddressed ha hparse, relay_up, relay_down]
    simp only [ha', true_or, if_true]
    exact ⟨rfl, rfl⟩

end Sys2Proof.Machine

/-! # Frames taken for the row's MGU and for bays, and requests (R33, R44, R45, R52, R53, R165) -/
namespace Sys2Proof.Machine

variable {s : State} {d : Dev} {l l' : Live} {e : Env} {b : Bay} {port : Port} {bytes payload : List Byte} {f : TrunkFrame}
  {kind : Byte} {mask old : Reasons}

/-! ## MGMT frames and requests (R44, R165) -/

theorem queueMgmt_room (h : l.mgu.queue.length < 4) : queueMgmt port payload l =
    { l with mgu := { l.mgu with queue := l.mgu.queue ++ [payload] } } :=
  if_neg (show ¬ 4 ≤ l.mgu.queue.length by omega)

theorem queueMgmt_full (h : 4 ≤ l.mgu.queue.length) : queueMgmt port payload l = countOverflow port l := if_pos h

/-- A MGMT frame for the own row comes to MGU's input queue. -/
theorem exec_mgmt (ha : addressed s = true) (hparse : parseTrunk bytes = some f) (hrow : f.dr = s.dev.env.straps.row.val)
    (hdb : f.db = 0) (hkind : f.kind = 0x01#8) :
    exec (.trunkFrameReceived port bytes) s = .next (s.goes (queueMgmt port f.payload s.live)) := by
  have queued : takeFrame port f s.dev = { s.dev with live := queueMgmt port f.payload s.live } := by
    simp only [takeFrame, takeForRow, hdb, hkind, if_true]
    rfl
  rw [exec_ownRow ha hparse hrow, queued]
  rfl

/-- Settles O13: the input queue has room or has none. -/
theorem mgmtFramesJoinTheInputQueue : Obligations.MgmtFramesJoinTheInputQueue := by
  intro s bytes f ha hparse hrow hdb hkind
  refine ⟨fun hroom port => ?_, fun hfull => ?_⟩
  · rw [exec_mgmt ha hparse hrow hdb hkind, queueMgmt_room hroom]
  · rw [exec_mgmt ha hparse hrow hdb hkind, exec_mgmt ha hparse hrow hdb hkind, queueMgmt_full hfull, queueMgmt_full hfull]
    exact ⟨rfl, rfl⟩

/-- A request that finds a response in the MRSP slot comes to the input queue as one received at TU. -/
theorem submit_waits (ha : addressed s = true) (hmrsp : s.live.mgu.mrsp.isSome = true) :
    submit payload s = s.goes (queueMgmt .tu payload s.live) := by
  have ha' : s.dev.env.straps.addressed = true := ha
  have hmrsp' : s.dev.live.mgu.mrsp.isSome = true := hmrsp
  have busy : s.dev.live.mgu.mrsp.isNone = false := by simpa using hmrsp'
  have taken : whenAddressed (takeRequest payload) s.dev = { s.dev with live := queueMgmt .tu payload s.live } := by
    simp only [whenAddressed, takeRequest, ha', busy, Bool.false_eq_true, and_false, if_true, if_false]
    rfl
  exact congrArg s.becomes taken

/-- While the loader runs an operation that is no READ is answered LOADING, and the part stands. -/
theorem submit_loading {tag : Byte} {m : MgmtOp} (ha : addressed s = true) (hqueue : s.live.mgu.queue = [])
    (hmrsp : s.live.mgu.mrsp = none) (hrun : s.live.mgu.loader.running = true) (hread : m.isRead = false)
    (hparse : parseOperation m.code m.params = some m) :
    submit (m.payload tag) s = s.answers tag m.code .loading s.live := by
  have hrun' : s.dev.live.mgu.loader.running = true := hrun
  rw [submit_free s _ ha hqueue hmrsp, ← respond_live]
  simp only [answerPayload, MgmtOp.payload, hparse, MgmtOp.answer, MgmtOp.execute, hrun', hread, and_self, if_true]
  rfl

/-- Settles O33: the request waits or is lost behind a response, and is answered LOADING while the loader runs. -/
theorem requestsWaitOrAreAnsweredLoading : Obligations.RequestsWaitOrAreAnsweredLoading := by
  refine ⟨fun s tag m ha hmrsp => ⟨fun hroom => ?_, fun hfull => ?_⟩,
    fun s tag m ha hqueue hmrsp hrun hread hparse => submit_loading ha hqueue hmrsp hrun hread hparse⟩
  · rw [submit_waits ha hmrsp, queueMgmt_room hroom]
    rfl
  · rw [submit_waits ha hmrsp, queueMgmt_full hfull]
    rfl

/-! ## The down decision of one bay (R33, R51, R52) -/

/-- The route entry of an office kind. -/
theorem routeEntry_of_kind (k : Fin 224) (h : kind.toNat = 32 + k.val) : routeEntry e kind = e.tables.route[k] := by
  have index : kind.toNat - 0x20 = k.val := by omega
  simp [routeEntry, index]

/-- R52 steps 3 and 4: the entry's mask admits the bay's occupancy and BLM accepts the offer. -/
def RouteEntry.accepts (x : RouteEntry) (payload : List Byte) (r : BayRec) : Bool :=
  x.admits r.btb.occupancy && acceptsOffer r.blm payload

theorem accepts_eq (x : RouteEntry) (payload : List Byte) (r : BayRec) : x.accepts payload r =
    ((match r.btb.occupancy with
      | .unknown => x.maskUnknown
      | .vacant => x.maskVacant
      | .plugged => x.maskPlugged
      | .occupied => x.maskOccupied
      | .disabled => false) && decide (r.blm.queue.length < 4) && decide (payload.length ≤ 48)) := by
  rw [Bool.and_assoc]
  unfold RouteEntry.accepts RouteEntry.admits
  cases r.btb.occupancy <;> rfl

theorem downDecision_eq (e : Env) (kind : Byte) (payload : List Byte) (b : Bay) (l : Live) :
    downDecision e kind payload b l =
      if (routeEntry e kind).downPass = false then l
      else if (routeEntry e kind).accepts payload (l.bay b) = true then
        l.modBlm b fun m => { m with queue := m.queue ++ [{ kind := kind, payload := payload }] }
      else refuseDown e b kind l := by
  simp only [downDecision, RouteEntry.accepts, Bool.and_eq_true]

/-- An office frame of the own row comes to the down decisions. -/
theorem exec_down (k : Fin 224) (ha : addressed s = true) (hparse : parseTrunk bytes = some f)
    (hrow : f.dr = s.dev.env.straps.row.val) (hdb : (1 ≤ f.db ∧ f.db ≤ 16) ∨ f.db = 31) (hkind : f.kind.toNat = 32 + k.val) :
    exec (.trunkFrameReceived port bytes) s = .next (s.goes (match bayOf f.db with
      | some b => downDecision s.dev.env f.kind f.payload b s.live
      | none => downAll s.dev.env f.kind f.payload s.live)) := by
  have hrow0 : f.db ≠ 0 := by omega
  have exist : ¬ (16 < f.db ∧ f.db ≠ 31) := by omega
  have office : ¬ f.kind.toNat < 0x20 := by omega
  rw [exec_ownRow ha hparse hrow, takeFrame, if_neg hrow0]
  simp only [Dev.act, takeForBay, if_neg exist, if_neg office]
  rfl

/-- Settles O11: the decision of R52 at the bay the frame names. -/
theorem downFrameForOneBay : Obligations.DownFrameForOneBay := by
  intro s port bytes f b k ha hparse hrow hdb hkind
  have named : 1 ≤ f.db ∧ f.db ≤ 16 := by rw [hdb, bayNumber]; omega
  rw [exec_down k ha hparse hrow (.inl named) hkind, hdb, bayOf_bayNumber]
  simp only [downDecision_eq, routeEntry_of_kind k hkind, accepts_eq, Bool.and_eq_true, decide_eq_true_eq, and_assoc]
  rfl

/-! ## The down decisions of all bays (R53) -/

/-- R52 at a bay that is not DISABLED: the frame passes down and the bay does not accept it. -/
def RouteEntry.refuses (x : RouteEntry) (payload : List Byte) (r : BayRec) : Bool :=
  x.downPass && r.btb.occupancy != .disabled && !x.accepts payload r

/-- The record of a bay behind its down decision. -/
def RouteEntry.decided (x : RouteEntry) (kind : Byte) (payload : List Byte) (r : BayRec) : BayRec :=
  if x.downPass = true ∧ x.accepts payload r = true then
    { r with blm := { r.blm with queue := r.blm.queue ++ [{ kind := kind, payload := payload }] } }
  else if x.refuses payload r = true then { r with btb := { r.btb with lastRefused := kind } }
  else r

/-- A DISABLED bay accepts no frame. -/
theorem not_accepts_disabled {x : RouteEntry} {r : BayRec} (h : r.btb.occupancy = .disabled) :
    x.accepts payload r = false := by
  simp [RouteEntry.accepts, h, RouteEntry.admits]

/-- What a down decision changes: the bay's record, and its reason set where it refuses. -/
theorem downStep_eq (e : Env) (kind : Byte) (payload : List Byte) (b : Bay) (l : Live) :
    (if (l.bay b).btb.occupancy = .disabled then l else downDecision e kind payload b l) =
      { l.modBay b ((routeEntry e kind).decided kind payload) with
        reports :=
          if (routeEntry e kind).refuses payload (l.bay b) = true then l.reports.add e.params.reportMask (.bay b) .downRefused
          else l.reports } := by
  have stands (h : (routeEntry e kind).decided kind payload (l.bay b) = l.bay b) :
      l.modBay b ((routeEntry e kind).decided kind payload) = l := modBay_id l b _ h
  by_cases hocc : (l.bay b).btb.occupancy = .disabled
  · have none : (routeEntry e kind).refuses payload (l.bay b) = false := by simp [RouteEntry.refuses, hocc]
    rw [if_pos hocc, none, stands (by simp [RouteEntry.decided, not_accepts_disabled hocc, none])]
    rfl
  · rw [if_neg hocc, downDecision_eq]
    cases hpass : (routeEntry e kind).downPass with
    | false =>
      have none : (routeEntry e kind).refuses payload (l.bay b) = false := by simp [RouteEntry.refuses, hpass]
      rw [none, stands (by simp [RouteEntry.decided, hpass, none])]
      rfl
    | true =>
      cases haccept : (routeEntry e kind).accepts payload (l.bay b) with
      | true =>
        have none : (routeEntry e kind).refuses payload (l.bay b) = false := by simp [RouteEntry.refuses, haccept]
        rw [none, modBay_congr l b _ (fun r => { r with blm := { r.blm with
          queue := r.blm.queue ++ [{ kind := kind, payload := payload }] } }) (by simp [RouteEntry.decided, hpass, haccept])]
        rfl
      | false =>
        have refused : (routeEntry e kind).refuses payload (l.bay b) = true := by simp [RouteEntry.refuses, hpass, hocc, haccept]
        rw [refused, modBay_congr l b _ (fun r => { r with btb := { r.btb with lastRefused := kind } })
          (by simp [RouteEntry.decided, haccept, refused])]
        rfl

/-- A reason makes a masked set non-empty that was empty where the mask has its bit (R171). -/
theorem masked_ne_zero_iff (x : Reason) (h : old &&& mask = 0) :
    (old ||| x.single) &&& mask ≠ 0 ↔ mask.getLsbD x.bit = true := by
  have bit : x.bit < 22 := by cases x <;> decide
  have single : x.single = BitVec.twoPow 22 x.bit := rfl
  have masked : (old ||| x.single) &&& mask = mask &&& BitVec.twoPow 22 x.bit := by
    have distributes : (old ||| x.single) &&& mask = (old &&& mask) ||| (x.single &&& mask) := by
      ext i hi
      simp [Bool.and_or_distrib_right]
    rw [distributes, h, ← single, BitVec.and_comm mask]
    exact BitVec.zero_or
  have nonzero : BitVec.twoPow 22 x.bit ≠ 0 := by cases x <;> decide
  rw [masked, BitVec.and_twoPow]
  split <;> simp_all

/-- What the down decisions of a list of bays make of the part (R53). -/
structure DownDecided (e : Env) (kind : Byte) (payload : List Byte) (bays : List Bay) (l l' : Live) : Prop where
  frame : l' = { l with bays := l'.bays, reports := l'.reports }
  row : l'.reports.row = l.reports.row
  bay : ∀ c, l'.bay c = if c ∈ bays then (routeEntry e kind).decided kind payload (l.bay c) else l.bay c
  reasons : ∀ c, l'.reports.of (.bay c) =
    if c ∈ bays ∧ (routeEntry e kind).refuses payload (l.bay c) = true then l.reports.of (.bay c) ||| Reason.downRefused.single
    else l.reports.of (.bay c)
  ring : l'.reports.ring = l.reports.ring ++
    (bays.filter fun c => (routeEntry e kind).refuses payload (l.bay c) && e.params.reportMask.getLsbD Reason.downRefused.bit &&
      l.reports.of (.bay c) &&& e.params.reportMask == 0).map .bay

/-- The ring behind the addition of DOWN_REFUSED for a bay that refuses. -/
theorem refused_ring (r : Reports) (mask : Reasons) (b : Bay) (refuses : Bool) :
    (if refuses = true then r.add mask (.bay b) .downRefused else r).ring = r.ring ++
      ([b].filter fun c => refuses && mask.getLsbD Reason.downRefused.bit && r.of (.bay c) &&& mask == 0).map .bay := by
  cases refuses with
  | false => simp
  | true =>
    rw [if_pos rfl, add_ring]
    by_cases empty : r.of (.bay b) &&& mask = 0
    · simp only [masked_ne_zero_iff _ empty, empty]
      cases mask.getLsbD Reason.downRefused.bit <;> simp [empty]
    · have kept : (r.of (.bay b) &&& mask == 0) = false := beq_eq_false_iff_ne.mpr empty
      rw [if_neg fun h => empty h.1, List.filter_singleton, kept, Bool.and_false]
      exact (List.append_nil _).symm

/-- One bay is decided. -/
theorem downStep_decided (e : Env) (kind : Byte) (payload : List Byte) (b : Bay) (l : Live) :
    DownDecided e kind payload [b] l
      (if (l.bay b).btb.occupancy = .disabled then l else downDecision e kind payload b l) := by
  rw [downStep_eq]
  refine ⟨rfl, ?_, fun c => ?_, fun c => ?_, ?_⟩
  · dsimp only
    split
    · simp only [Reports.add]
      split <;> rfl
    · rfl
  · by_cases hc : c = b
    · subst hc
      exact (bay_modBay_self _).trans (if_pos List.mem_cons_self).symm
    · exact (bay_modBay_ne _ hc).trans (if_neg (by simpa using hc)).symm
  · by_cases hc : c = b
    · subst hc
      by_cases refuses : (routeEntry e kind).refuses payload (l.bay c) = true
      · simp only [refuses, if_true, of_add_self, List.mem_singleton, and_self]
      · simp only [refuses, Bool.false_eq_true, and_false, if_false]
    · have other : ReportNumber.bay c ≠ .bay b := fun h => hc (ReportNumber.bay.inj h)
      simp only [List.mem_singleton, hc, false_and, if_false]
      split
      · exact of_add_ne _ _ _ _ _ other
      · rfl
  · refine (refused_ring _ _ _ _).trans ?_
    refine congrArg (l.reports.ring ++ List.map .bay ·) (List.filter_congr fun c hc => ?_)
    rw [List.mem_singleton.mp hc]

/-- The decisions of a list follow that of a bay which is not in it, since each leaves the records and reason sets of other bays. -/
theorem DownDecided.cons {bays : List Bay} {l'' : Live} (h : DownDecided e kind payload [b] l l')
    (h' : DownDecided e kind payload bays l' l'') (hb : b ∉ bays) : DownDecided e kind payload (b :: bays) l l'' := by
  have bay (c : Bay) (hc : c ≠ b) : l'.bay c = l.bay c := (h.bay c).trans (if_neg (by simpa using hc))
  have reasons (c : Bay) (hc : c ≠ b) : l'.reports.of (.bay c) = l.reports.of (.bay c) :=
    (h.reasons c).trans (if_neg fun hin => hc (List.mem_singleton.mp hin.1))
  refine ⟨?_, h'.row.trans h.row, fun c => ?_, fun c => ?_, ?_⟩
  · rw [h'.frame, h.frame]
  · by_cases hc : c = b
    · subst hc
      simp [h'.bay, h.bay, hb]
    · simp [h'.bay, bay c hc, hc]
  · by_cases hc : c = b
    · subst hc
      simp [h'.reasons, h.reasons, hb]
    · simp [h'.reasons, bay c hc, reasons c hc, hc]
  · have same := List.filter_congr (l := bays) (p := fun c => (routeEntry e kind).refuses payload (l'.bay c) &&
        e.params.reportMask.getLsbD Reason.downRefused.bit && l'.reports.of (.bay c) &&& e.params.reportMask == 0)
      (q := fun c => (routeEntry e kind).refuses payload (l.bay c) &&
        e.params.reportMask.getLsbD Reason.downRefused.bit && l.reports.of (.bay c) &&& e.params.reportMask == 0)
      fun c hc => by rw [bay c fun h => hb (h ▸ hc), reasons c fun h => hb (h ▸ hc)]
    rw [h'.ring, h.ring, same, List.append_assoc, ← List.map_append, ← List.filter_append, List.singleton_append]

theorem forBays_down (e : Env) (kind : Byte) (payload : List Byte) (bays : List Bay) (honce : bays.Nodup) (l : Live) :
    DownDecided e kind payload bays l (forBays bays
      (fun b l => if (l.bay b).btb.occupancy = .disabled then l else downDecision e kind payload b l) l) := by
  induction bays generalizing l with
  | nil => exact ⟨rfl, rfl, fun c => by simp [forBays], fun c => by simp [forBays], by simp [forBays]⟩
  | cons b bays ih =>
    obtain ⟨hb, honce⟩ := List.nodup_cons.mp honce
    exact (downStep_decided e kind payload b l).cons (ih honce _) hb

/-- Settles O12: the decisions of the 16 bays, each by its own record. -/
theorem downFrameForAllBays : Obligations.DownFrameForAllBays := by
  intro s port bytes f k ha hparse hrow hdb hkind accepts refuses
  have route := routeEntry_of_kind (e := s.dev.env) k hkind
  have every (b : Bay) : b ∈ allBays := List.mem_finRange b
  have accepted (b : Bay) : s.dev.env.tables.route[k].accepts f.payload (s.live.bay b) = accepts b := accepts_eq _ _ _
  have refused (b : Bay) : s.dev.env.tables.route[k].refuses f.payload (s.live.bay b) = refuses b := by
    rw [RouteEntry.refuses, accepted]
    rfl
  have down : exec (.trunkFrameReceived port bytes) s = .next (s.goes (downAll s.dev.env f.kind f.payload s.live)) := by
    rw [exec_down k ha hparse hrow (.inr hdb) hkind, hdb]
    rfl
  have decided : DownDecided s.dev.env f.kind f.payload allBays s.live (downAll s.dev.env f.kind f.payload s.live) :=
    forBays_down _ _ _ _ (List.nodup_finRange 16) _
  rw [down]
  generalize downAll s.dev.env f.kind f.payload s.live = l at decided
  refine ⟨l, rfl, decided.frame, decided.row, fun b => ?_, fun b => ?_, ?_⟩
  · rw [decided.bay, if_pos (every b), route, RouteEntry.decided]
    simp only [accepted, refused]
    rfl
  · refine (decided.reasons b).trans ?_
    simp only [every, route, refused, true_and]
    rfl
  · rw [decided.ring, route]
    simp only [refused]
    rfl

end Sys2Proof.Machine

/-! # The end of a transmission on TU (R49, R50, R172) -/
namespace Sys2Proof.Machine

variable {s : State} {d : Dev} {x : TuTransmission}

/-- A response sent leaves the MRSP slot, whoever is granted then. -/
theorem tuEnd_response (hsending : d.live.tsw.tuSending = some x) (hx : x.isMrsp = true) : (tuEnd d).live.mgu.mrsp = none := by
  simp only [tuEnd, hsending, hx, if_true]

/-- The part with TU idle. -/
def Dev.tuFreed (d : Dev) : Dev := { d with live := { d.live with tsw := { d.live.tsw with tuSending := none } } }

/-- Any other transmission only leaves TU idle. -/
theorem tuEnd_other (hsending : d.live.tsw.tuSending = some x) (hx : x.isMrsp = false) : tuEnd d = d.tuFreed := by
  simp only [tuEnd, hsending, hx, Bool.false_eq_true, if_false]
  rfl

/-- With no request for MGU the two grants are all that settling makes of TSW and the reports, and MGU stands. -/
theorem settle_grants (h : d.live.mgu.queue = []) :
    (settle d).live.tsw = (grantTu d.tdGranted).live.tsw ∧ (settle d).live.reports = (grantTu d.tdGranted).live.reports ∧
      (settle d).live.mgu = d.live.mgu := by
  obtain ⟨_, _, _, _, frame⟩ := settle_frame (.inl h)
  exact ⟨by rw [settle_free (.inl h), grantTd_eq], by rw [settle_free (.inl h), grantTd_eq], by rw [frame]⟩

/-- Without a response and with an empty ring the lane has nothing waiting. -/
theorem laneWaits_empty (hmrsp : d.live.mgu.mrsp = none) (hring : d.live.reports.ring = []) : laneWaits d = false := by
  simp [laneWaits, hmrsp, hring]

/-- Settles O15: the grant of TU, by which of the two requesters wait and which was granted last. -/
theorem theArbiterTakesTurns : Obligations.TheArbiterTakesTurns := by
  intro s x hsending ha hqueue
  refine ⟨fun hx => ?_, fun hx => ?_⟩
  · have noRequest : (tuEnd s.dev).live.mgu.queue = [] := by
      have sending : s.dev.live.tsw.tuSending = some x := hsending
      simp only [tuEnd, sending]
      exact hqueue
    obtain ⟨-, -, hmgu⟩ := settle_grants noRequest
    exact ⟨_, rfl, (congrArg MguState.mrsp hmgu).trans (tuEnd_response hsending hx)⟩
  · refine ⟨s.becomes (tuEnd s.dev), rfl, ?_⟩
    obtain ⟨htsw, hreports, hmgu⟩ := settle_grants (d := s.dev.tuFreed) hqueue
    obtain ⟨htuSending, htuQueue, hgrant, -, -⟩ := tdGranted_tu s.dev.tuFreed.live.tsw
    simp only [State.becomes, State.live, tuEnd_other hsending hx]
    rw [htsw, hreports, hmgu]
    refine ⟨rfl, ?_⟩
    split
    · next hq hm hr =>
      have idle : laneWaits s.dev.tuFreed.tdGranted = false := laneWaits_empty hm hr
      rw [grantTu_none (.inr (arbiterChoice_none (htuQueue.trans hq) idle))]
      exact ⟨htuSending, hgrant, rfl⟩
    · next hq hm hr =>
      have idle : laneWaits s.dev.tuFreed.tdGranted = false := laneWaits_empty hm hr
      rw [grantTu_forward htuSending (htuQueue.trans hq) (.inr idle)]
      exact ⟨rfl, rfl, rfl, rfl⟩
    · next hq hg _ =>
      rw [grantTu_forward htuSending (htuQueue.trans hq) (.inl (hgrant.trans hg))]
      exact ⟨rfl, rfl, rfl, rfl⟩
    · next hm hnext =>
      have turn := (forward_not_next (d := s.dev) hnext).imp htuQueue.trans hgrant.trans
      rw [grantTu_response (d := s.dev.tuFreed.tdGranted) htuSending ha hm turn]
      exact ⟨rfl, htuQueue, rfl, rfl⟩
    · next hm hr hnext =>
      have turn := (forward_not_next (d := s.dev) hnext).imp htuQueue.trans hgrant.trans
      rw [grantTu_report (d := s.dev.tuFreed.tdGranted) htuSending ha hm hr turn]
      exact ⟨rfl, htuQueue, rfl, rfl, of_put_self _ _ _, fun k hk => of_put_ne _ _ _ _ hk⟩

end Sys2Proof.Machine

/-! # The trunk and the cabin readings stand under the acts of the heat, lamp, fault and departure parts

One rule per act: it writes neither the trunk nor what a bay holds of its cabin (R64, R65). -/
namespace Sys2Proof.Machine
/-- The cabin readings of the bays: the held temperature and its age (R64, R65). -/
def readingsOf (bays : Vector BayRec 16) (b : Bay) : Option Int × Nat := (bays[b].scv.held, bays[b].scv.age)

/-- The cabin readings of a live state. -/
def Live.readings (l : Live) : Bay → Option Int × Nat := readingsOf l.bays

@[simp] theorem readingsOf_bays (l : Live) : readingsOf l.bays = l.readings := rfl

theorem readings_apply (l : Live) (b : Bay) : l.readings b = ((l.bay b).scv.held, (l.bay b).scv.age) := rfl

/-- A live state written out has the readings of its bays. -/
@[simp] theorem readings_mk (tsw : TswState) (mgu : MguState) (reports : Reports) (walk : Walk) (cache : List ParkedSlot)
    (pool : Pool) (rejects : Nat) (fal : FalState) (departures : List DepEntry) (bays : Vector BayRec 16) :
    Live.readings ⟨tsw, mgu, reports, walk, cache, pool, rejects, fal, departures, bays⟩ = readingsOf bays := rfl

/-- The trunk and the cabin readings stand. -/
@[simp] abbrev Steady (l l' : Live) : Prop := l'.tsw = l.tsw ∧ l'.readings = l.readings

variable {e : Env} {b : Bay} {l l' : Live} {on on' release : Bool} {purpose : Purpose} {o : Owner} {job : JobFrame} {n m k' : Nat}
  {g : DepEntry → DepEntry} {x : DepEntry} {gate : Gate} {t : Int} {p : Nat × Nat} {q : Option (Nat × Nat)} {r : LampResult}
  {y : Bay × ShareKind} {ys : List (Bay × ShareKind)} {k : ShareKind} {st : ShareState} {s : Live × List (Bay × ShareKind)}
  {key coach : Option Nat} {bs : List Bay} {w : SweepWindow} {o' : SweepOrder} {pr : Fin 8} {tgt : Option Int} {gm : GateMask} {nm : DepNames}
  {pl : Placement} {rs : ReadStatus} {cause : AbortCause} {fr fr' : FaultRecord} {rr : ReadRecord} {bytes : List Byte} {byte : Byte} {xe : ExchangeEnd}

@[simp] theorem readings_modBtb (f : BtbPart → BtbPart) : (l.modBtb b f).readings = l.readings := by funext c; simp [readings_apply]
@[simp] theorem readings_modBlm (f : BlmPart → BlmPart) : (l.modBlm b f).readings = l.readings := by funext c; simp [readings_apply]
@[simp] theorem readings_modLsw (f : LswPart → LswPart) : (l.modLsw b f).readings = l.readings := by funext c; simp [readings_apply]
@[simp] theorem readings_modFrd (f : FrdPart → FrdPart) : (l.modFrd b f).readings = l.readings := by funext c; simp [readings_apply]
@[simp] theorem readings_modPhp (f : PhpPart → PhpPart) : (l.modPhp b f).readings = l.readings := by funext c; simp [readings_apply]
@[simp] theorem readings_modFal (f : FalPart → FalPart) : (l.modFal b f).readings = l.readings := by funext c; simp [readings_apply]
@[simp] theorem readings_modDpc (f : DpcPart → DpcPart) : (l.modDpc b f).readings = l.readings := by funext c; simp [readings_apply]

/-- What is written beside the bays and the trunk changes no reading. -/
theorem Steady.of_eq (hbays : l'.bays = l.bays) (htsw : l'.tsw = l.tsw) : Steady l l' :=
  ⟨htsw, funext fun b => by simp [readings_apply, Live.bay, hbays]⟩

theorem Steady.trans {l'' : Live} (h : Steady l l') (h' : Steady l' l'') : Steady l l'' := ⟨h'.1.trans h.1, h'.2.trans h.2⟩

theorem Steady.after {l'' : Live} (h' : Steady l' l'') (h : Steady l l') : Steady l l'' := h.trans h'

/-- A drive range written changes no reading. -/
@[simp] theorem readings_driveHigh (high : Bool) : (l.modScv b fun c => { c with driveHigh := high }).readings = l.readings := by
  funext c
  by_cases hc : c = b
  · subst hc; simp [readings_apply]
  · simp [readings_apply, hc]

@[simp] theorem addReason_steady {c : ReportNumber} {z : Reason} : Steady l (addReason e c z l) := .of_eq rfl rfl
@[simp] theorem addBayReason_steady {z : Reason} : Steady l (addBayReason e b z l) := .of_eq rfl rfl

/-- What every action of a list leaves is left behind all of them. -/
theorem foldl_steady {α : Type} {f : Live → α → Live} (step : ∀ l x, Steady l (f l x)) (xs : List α) (l : Live) :
    Steady l (xs.foldl f l) := foldl_chain (R := Steady) (fun _ => ⟨rfl, rfl⟩) Steady.trans step xs l

theorem forBays_steady {f : Bay → Live → Live} (step : ∀ b l, Steady l (f b l)) : Steady l (forBays bs f l) :=
  foldl_steady (fun l b => step b l) bs l

/-! ## Contacts, jobs and entries -/

@[simp] theorem setHeater_steady : Steady l (setHeater b on l) := by simp [setHeater]

@[simp] theorem setLatch_steady : Steady l (setLatch b purpose release l) := by simp [setLatch]

@[simp] theorem setContactor_steady : Steady l (setContactor b on l) := by simp [setContactor]

@[simp] theorem withdrawJob_steady : Steady l (withdrawJob b o l) := by simp [withdrawJob]

@[simp] theorem placeJob_steady : Steady l (placeJob b job l) := by simp [placeJob]

@[simp] theorem updateEntry_steady : Steady l (updateEntry n g l) := by simp [updateEntry]

@[simp] theorem removeEntry_steady : Steady l (removeEntry n l) := by simp [removeEntry]

@[simp] theorem revokeEntry_steady : Steady l (revokeEntry e b x l) := by
  simp only [revokeEntry]
  split <;> simp

@[simp] theorem judge_steady : Steady l (judge e b l) := by fun_cases judge <;> simp

@[simp] theorem releaseEntry_steady : Steady l (releaseEntry e b x l) := by simp [releaseEntry]

@[simp] theorem gateNotice_steady : Steady l (gateNotice e on b gate release l) := by
  simp only [gateNotice]
  split <;> simp

@[simp] theorem lateNotice_steady : Steady l (lateNotice b on l) := by fun_cases lateNotice <;> simp

/-! ## Gates and heat (R75 to R82, R99 to R110, R158 to R164) -/

@[simp] theorem dpcPstat_steady : Steady l (dpcPstat e b on l) := by simp [dpcPstat]

@[simp] theorem judgeAll_steady : Steady l (judgeAll e l) :=
  forBays_steady fun _ _ => judge_steady

@[simp] theorem evalLate_steady : Steady l (evalLate e b l) := by fun_cases evalLate <;> simp

@[simp] theorem clearLate_steady : Steady l (clearLate b l) := by fun_cases clearLate <;> simp

@[simp] theorem latchHeatGate_steady : Steady l (latchHeatGate e b l) := by fun_cases latchHeatGate <;> simp

@[simp] theorem heatAdmitted_steady : Steady l (heatAdmitted e b l) := by fun_cases heatAdmitted <;> simp

@[simp] theorem pauseBegins_steady : Steady l (pauseBegins e b l) := by
  simp only [pauseBegins]
  split <;> simp

@[simp] theorem pauseEnds_steady : Steady l (pauseEnds e b l) := by
  simp only [pauseEnds]
  repeat' split
  all_goals simp

@[simp] theorem judgeCabinSample_steady : Steady l (judgeCabinSample e b t l) := by
  simp only [judgeCabinSample]
  repeat' split
  all_goals simp

@[simp] theorem phpPstat_steady : Steady l (phpPstat b on l) := by simp [phpPstat]

@[simp] theorem staleInMaintain_steady : Steady l (staleInMaintain b l) := by fun_cases staleInMaintain <;> simp

/-! ## Lamp sweeps -/

@[simp] theorem driveLamp_steady : Steady l (driveLamp e b p l) := by simp [driveLamp]

@[simp] theorem pointAt_steady : Steady l (pointAt e b q l).1 := by
  simp only [pointAt]
  split <;> simp

@[simp] theorem evalLampGate_steady : Steady l (evalLampGate e on b l) := by fun_cases evalLampGate <;> simp

@[simp] theorem endPause_steady : Steady l (endPause e b l) := by fun_cases endPause <;> simp

@[simp] theorem lampAdmitted_steady : Steady l (lampAdmitted e b l).1 := by
  simp only [lampAdmitted]
  repeat' split
  all_goals simp

@[simp] theorem closeSweep_steady : Steady l (closeSweep e b l) := by simp [closeSweep]

@[simp] theorem reportSweep_steady : Steady l (reportSweep e on b l) := by simp [reportSweep]

@[simp] theorem recordResult_steady : Steady l (recordResult b p r l) := by simp [recordResult]

/-! ## The feeder supply (R114 to R128) -/

@[simp] theorem enqueue_steady : Steady l (enqueue e y l) := by simp [enqueue]

@[simp] theorem dequeue_steady : Steady l (dequeue y l) := by simp [dequeue]

@[simp] theorem setShareState_steady : Steady l (setShareState b k st l) := by simp [setShareState]

@[simp] theorem dropShare_steady : Steady l (dropShare b k l) := by simp [dropShare]

@[simp] theorem releaseHeld_steady : Steady l (releaseHeld e b k l) := by fun_cases releaseHeld <;> simp

@[simp] theorem grantShare_steady : Steady l (grantShare e y l) := by
  simp only [grantShare]
  split <;> simp

@[simp] theorem admitHeads_steady : Steady s.1 (admitHeads e n s).1 := by
  induction n generalizing s with
  | zero => simp [admitHeads]
  | succ n ih =>
    unfold admitHeads
    split
    · simp
    · split
      · exact ih.after grantShare_steady
      · simp

@[simp] theorem passLamps_steady : Steady s.1 (passLamps e ys s).1 := by
  induction ys generalizing s with
  | nil => simp [passLamps]
  | cons y ys ih =>
    unfold passLamps
    split
    · exact ih.after grantShare_steady
    · exact ih

@[simp] theorem passRound_steady : Steady l (passRound e l).1 := by simp [passRound]

@[simp] theorem passRounds_steady : Steady l (passRounds e n l ys).1 := by
  induction n generalizing l ys with
  | zero => simp [passRounds]
  | succ n ih =>
    simp only [passRounds]
    split
    · exact passRound_steady
    · exact ih.after passRound_steady

@[simp] theorem admissionPass_steady : Steady l (admissionPass e l).1 := by fun_cases admissionPass <;> simp

@[simp] theorem judgeOvercommit_steady : Steady l (judgeOvercommit e l).1 := by fun_cases judgeOvercommit <;> simp

@[simp] theorem freeShare_steady : Steady l (freeShare e b k l).1 := by fun_cases freeShare <;> simp

@[simp] theorem tellOwners_steady : Steady l (tellOwners e n ys l) := by
  induction n generalizing ys l with
  | zero => simp [tellOwners]
  | succ n ih =>
    cases ys with
    | nil => simp [tellOwners]
    | cons y ys =>
      obtain ⟨b, k⟩ := y
      cases k with
      | base => exact ih.after setContactor_steady
      | heat => exact ih.after heatAdmitted_steady
      | lamp =>
        have admitted := lampAdmitted_steady (e := e) (b := b) (l := l)
        rw [tellOwners]
        split
        · next h =>
          rw [h] at admitted
          exact ih.after admitted
        · next h =>
          rw [h] at admitted
          exact ih.after (reportSweep_steady.after (ih.after (freeShare_steady.after (closeSweep_steady.after admitted))))

@[simp] theorem finishPass_steady : Steady s.1 (finishPass e s) := by simp [finishPass]

@[simp] theorem runPass_steady : Steady l (runPass e l) := by simp [runPass]

@[simp] theorem requestShare_steady : Steady l (requestShare e b k n l) := by
  simp only [requestShare]
  repeat' split
  all_goals simp

@[simp] theorem dropRequest_steady : Steady l (dropRequest b k l) := by fun_cases dropRequest <;> simp

@[simp] theorem withdrawShare_steady : Steady l (withdrawShare e b k l) := by fun_cases withdrawShare <;> simp

@[simp] theorem releaseShare_steady : Steady l (releaseShare e b k l) := by simp [releaseShare]

@[simp] theorem requeue_steady : Steady l (requeue e b k l) := by fun_cases requeue <;> simp

@[simp] theorem setKey_steady : Steady l (setKey e b key l) := by
  simp only [setKey]
  repeat' split
  all_goals simp

@[simp] theorem clearRow_steady : Steady l (clearRow e b l) := by simp [clearRow]

@[simp] theorem revokeHeat_steady : Steady l (revokeHeat e b l) := by simp [revokeHeat]

@[simp] theorem shedLoop_steady : Steady l (shedLoop e n l bs).1 := by
  induction n generalizing l bs with
  | zero => simp [shedLoop]
  | succ n ih =>
    unfold shedLoop
    split
    · split
      · simp
      · exact ih.after revokeHeat_steady
    · simp

@[simp] theorem heatRevoked_steady : Steady l (heatRevoked e b l) := by simp [heatRevoked]

@[simp] theorem judgeShed_steady : Steady l (judgeShed e l) := by fun_cases judgeShed <;> simp

@[simp] theorem shed_steady : Steady l (shed e l) :=
  (forBays_steady fun _ _ => heatRevoked_steady).after (judgeShed_steady.after shedLoop_steady)

@[simp] theorem limitWritten_steady : Steady l (limitWritten e n l) := by fun_cases limitWritten <;> simp

@[simp] theorem falPstat_steady : Steady l (falPstat e b on l) := by
  simp only [falPstat]
  split <;> simp

/-! ## Sweeps, behind the supply -/

@[simp] theorem completeSweep_steady : Steady l (completeSweep e b l) := by simp [completeSweep]

@[simp] theorem stepTo_steady : Steady l (stepTo e b q l) := by
  have pointed := pointAt_steady (e := e) (b := b) (q := q) (l := l)
  unfold stepTo
  split
  · next h =>
    rw [h] at pointed
    exact completeSweep_steady.after pointed
  · next h =>
    rw [h] at pointed
    exact pointed

@[simp] theorem endStep_steady : Steady l (endStep e b r l) := by
  simp only [endStep]
  split <;> simp

@[simp] theorem abortWith_steady {h : Live → Live} (hh : ∀ l, Steady l (h l)) : Steady l (abortWith e on on' b h l) := by
  simp only [abortWith]
  split
  · split <;> simp [hh]
  · simp [hh]

@[simp] theorem abortSweep_steady : Steady l (abortSweep e on on' b l) := by
  simp only [abortSweep]
  split <;> simp

@[simp] theorem stopSweep_steady : Steady l (stopSweep e on on' b l) := by fun_cases stopSweep <;> simp

@[simp] theorem startSweep_steady : Steady l (startSweep e b w o' l) := by simp [startSweep]

@[simp] theorem restartSweep_steady : Steady l (restartSweep e b w o' l) := by
  simp only [restartSweep]
  split <;> simp

@[simp] theorem lampCheck_steady : Steady l (lampCheck e b w o' l).2 := by fun_cases lampCheck <;> simp

@[simp] theorem lampStop_steady : Steady l (lampStop e b l).2 := by fun_cases lampStop <;> simp

@[simp] theorem visitLimit_steady : Steady l (visitLimit e b l) := by fun_cases visitLimit <;> simp

@[simp] theorem lswExchangeEnd_steady : Steady l (lswExchangeEnd e b l) := by
  simp only [lswExchangeEnd]
  repeat' split
  all_goals simp

@[simp] theorem lampSample_steady : Steady l (lampSample e b n m on l) := by fun_cases lampSample <;> simp

@[simp] theorem lswOccupied_steady : Steady l (lswOccupied e on b l) := by
  simp only [lswOccupied]
  split <;> simp

@[simp] theorem abortLost_steady : Steady l (abortLost e bs b l) := by
  simp only [abortLost]
  repeat' split
  all_goals simp

/-! ## Plans and departures, behind the supply -/

@[simp] theorem evalProfileGates_steady : Steady l (evalProfileGates e pr l) := by
  refine forBays_steady fun b l => ?_
  split <;> simp

@[simp] theorem computeBayLead_steady : Steady l (computeBayLead e b l) := by
  simp only [computeBayLead]
  split <;> simp

@[simp] theorem heatAct_steady : Steady l (heatAct e b l) := by fun_cases heatAct <;> simp

@[simp] theorem recompute_steady : Steady l (recompute e b l) := by fun_cases recompute <;> simp

@[simp] theorem leavePlan_steady : Steady l (leavePlan e on b l) := by
  simp only [leavePlan]
  repeat' split
  all_goals simp

@[simp] theorem enterPlan_steady : Steady l (enterPlan e b t l) := by simp [enterPlan]

@[simp] theorem planNotice_steady : Steady l (planNotice e b l) := by fun_cases planNotice <;> simp

@[simp] theorem plannabilityNotice_steady : Steady l (plannabilityNotice e b l) := by fun_cases plannabilityNotice <;> simp

@[simp] theorem cabinSample_steady : Steady l (cabinSample e b t l) := by simp [cabinSample]

@[simp] theorem cabinStaleOnset_steady : Steady l (cabinStaleOnset e b l) := by simp [cabinStaleOnset]

@[simp] theorem recomputeProfile_steady : Steady l (recomputeProfile e pr l) := by
  refine forBays_steady fun b l => ?_
  split <;> simp

@[simp] theorem recomputeAll_steady : Steady l (recomputeAll e l) :=
  forBays_steady fun _ _ => recompute_steady

@[simp] theorem phpMinute_steady : Steady l (phpMinute e l) :=
  forBays_steady fun _ _ => heatAct_steady

@[simp] theorem restoreOrder_steady : Steady l (restoreOrder e l) := by fun_cases restoreOrder <;> simp

@[simp] theorem tellBay_steady : Steady l (tellBay e b key l) := by simp [tellBay]

@[simp] theorem bindEntry_steady : Steady l (bindEntry e n b l) := by simp [bindEntry]

@[simp] theorem dpcOccupied_steady : Steady l (dpcOccupied e b l) := by fun_cases dpcOccupied <;> simp

@[simp] theorem depAdd_steady : Steady l (depAdd e n m k' coach tgt gm l).2 := by
  simp only [depAdd]
  repeat' split
  all_goals simp

@[simp] theorem tellStay_steady : Steady l (tellStay e nm b x l) := by
  simp only [tellStay]
  repeat' split
  all_goals simp

@[simp] theorem changeEntry_steady : Steady l (changeEntry e nm x l) := by
  simp only [changeEntry]
  repeat' split
  all_goals simp

@[simp] theorem depChange_steady : Steady l (depChange e n nm l).2 := by fun_cases depChange <;> simp

@[simp] theorem lockIfReleased_steady : Steady l (lockIfReleased x l) := by fun_cases lockIfReleased <;> simp

@[simp] theorem depCancel_steady : Steady l (depCancel e n l).2 := by
  simp only [depCancel]
  repeat' split
  all_goals simp

@[simp] theorem releaseNow_steady : Steady l (releaseNow e n l).2 := by fun_cases releaseNow <;> simp

@[simp] theorem latchShunt_steady : Steady l (latchShunt b l).2 := by fun_cases latchShunt <;> simp

@[simp] theorem latchLock_steady : Steady l (latchLock b l).2 := by
  simp only [latchLock]
  repeat' split
  all_goals simp

@[simp] theorem expireEntry_steady : Steady l (expireEntry e n l) := by
  simp only [expireEntry]
  repeat' split
  all_goals simp

@[simp] theorem expireAll_steady : Steady l (expireAll e l) :=
  foldl_steady (fun _ _ => expireEntry_steady) _ l

@[simp] theorem releaseAll_steady : Steady l (releaseAll e l) := by
  refine foldl_steady (fun l x => ?_) _ l
  split <;> simp

@[simp] theorem dpcMinute_steady : Steady l (dpcMinute e l) := by simp [dpcMinute]

/-! ## Fault records (R129 to R151) -/

@[simp] theorem settleEntry_steady : Steady l (settleEntry e purpose b l) := by
  simp only [settleEntry]
  repeat' split
  all_goals simp

@[simp] theorem freeCells_steady : Steady l (freeCells n l) := by simp [freeCells]

@[simp] theorem evictOldest_steady : Steady l (evictOldest l) := by fun_cases evictOldest <;> simp

@[simp] theorem evictUntil_steady : Steady l (evictUntil n m l) := by
  induction m generalizing l with
  | zero => simp [evictUntil]
  | succ m ih =>
    unfold evictUntil
    split
    · simp
    · exact ih.after evictOldest_steady

@[simp] theorem placeCells_steady : Steady l (placeCells n m l).2 := by
  simp only [placeCells]
  split
  · simp
  · split
    · exact evictUntil_steady
    · exact Steady.after (.of_eq rfl rfl) evictUntil_steady

@[simp] theorem countStarved_steady : Steady l (countStarved e pl l) := by fun_cases countStarved <;> simp

@[simp] theorem emptyList_steady : Steady l (emptyList b l) := by simp [emptyList]

@[simp] theorem evalFaultGate_steady : Steady l (evalFaultGate e on b l) := by fun_cases evalFaultGate <;> simp

@[simp] theorem placeFrd_steady : Steady l (placeFrd b job l) := by simp [placeFrd]

@[simp] theorem placeChunk_steady : Steady l (placeChunk b l) := by simp [placeChunk]

@[simp] theorem startRead_steady : Steady l (startRead e b l) := by simp [startRead]

@[simp] theorem endRead_steady : Steady l (endRead e on b rs cause l) := by simp [endRead]

@[simp] theorem completeRead_steady : Steady l (completeRead e b l) := by simp [completeRead]

@[simp] theorem abortRead_steady : Steady l (abortRead e b cause l) := by simp [abortRead]

@[simp] theorem stopRead_steady : Steady l (stopRead e on cause b l) := by fun_cases stopRead <;> simp

@[simp] theorem countBlocking_steady : Steady l (countBlocking b on l) := by fun_cases countBlocking <;> simp

@[simp] theorem storeNew_steady : Steady l (storeNew e b fr l) := by simp [storeNew]

@[simp] theorem putRecord_steady : Steady l (putRecord b fr l) := by simp [putRecord]

@[simp] theorem mergeRecord_steady : Steady l (mergeRecord e b fr fr' l) := by
  simp only [mergeRecord]
  split <;> simp

@[simp] theorem storeRecord_steady : Steady l (storeRecord e b rr l) := by fun_cases storeRecord <;> simp

@[simp] theorem completeRecord_steady : Steady l (completeRecord e b bytes l) := by
  simp only [completeRecord]
  repeat' split
  all_goals simp

@[simp] theorem parseRecordByte_steady : Steady l (parseRecordByte e b n byte l) := by
  simp only [parseRecordByte]
  repeat' split
  all_goals simp

@[simp] theorem parseByte_steady : Steady l (parseByte e b n byte l) := by
  simp only [parseByte]
  repeat' split
  all_goals simp

@[simp] theorem parseBytes_steady : Steady l (parseBytes e b n bytes l) := by
  induction bytes generalizing n l with
  | nil =>
    unfold parseBytes
    split <;> simp
  | cons x bytes ih =>
    unfold parseBytes
    split
    · exact ih.after parseByte_steady
    · simp

@[simp] theorem takeChunk_steady : Steady l (takeChunk e b n bytes l) := by
  simp only [takeChunk]
  split <;> simp

@[simp] theorem frdCdata_steady : Steady l (frdCdata e b n bytes l) := by fun_cases frdCdata <;> simp

@[simp] theorem frdCdone_steady : Steady l (frdCdone e b l) := by fun_cases frdCdone <;> simp

@[simp] theorem countAttempt_steady : Steady l (countAttempt e b on job l) := by
  simp only [countAttempt]
  repeat' split
  all_goals simp

@[simp] theorem countBusy_steady : Steady l (countBusy e b job l) := by
  simp only [countBusy]
  split <;> simp

@[simp] theorem settleFrd_steady : Steady l (settleFrd e b job xe l) := by fun_cases settleFrd <;> simp

@[simp] theorem frdExchangeEnd_steady : Steady l (frdExchangeEnd e b xe l) := by fun_cases frdExchangeEnd <;> simp

@[simp] theorem frdPstat_steady : Steady l (frdPstat e b on l) := by
  simp only [frdPstat]
  split <;> simp

@[simp] theorem frdOccupied_steady : Steady l (frdOccupied e b l) := by
  simp only [frdOccupied]
  split <;> simp

@[simp] theorem clearExpires_steady : Steady l (clearExpires e b l) := by simp [clearExpires]

@[simp] theorem frdTickBay_steady : Steady l (frdTickBay e b l) := by fun_cases frdTickBay <;> simp

@[simp] theorem frdTick_steady : Steady l (frdTick e l) :=
  forBays_steady fun _ _ => frdTickBay_steady

@[simp] theorem faultRead_steady : Steady l (faultRead e b l).2 := by fun_cases faultRead <;> simp

@[simp] theorem faultClear_steady : Steady l (faultClear e b l).2 := by fun_cases faultClear <;> simp

@[simp] theorem faultFlush_steady : Steady l (faultFlush e b l).2 := by fun_cases faultFlush <;> simp

@[simp] theorem expireSlots_steady : Steady l (expireSlots e l) := by simp [expireSlots]

end Sys2Proof.Machine

/-! # TD serves its queue in order (R46, R48)

No act behind the frames received and the transmissions writes TD; a settling part grants it. -/
namespace Sys2Proof.Machine
variable {e : Env} {b : Bay} {l l' : Live} {d d' : Dev} {on : Bool} {n m : Nat} {pr : Fin 8} {slot : ParkedSlot} {purpose : Purpose}
  {ps : Pstat} {flags tag : Byte} {lk : Link} {sf : SentFrame} {xe : ExchangeEnd} {fate : SlotFate} {bs : List Bay}


theorem forBays_tsw {f : Bay → Live → Live} (step : ∀ b l, (f b l).tsw = l.tsw) : (forBays bs f l).tsw = l.tsw :=
  foldl_chain (R := fun l l' => l'.tsw = l.tsw) (fun _ => rfl) (fun h h' => h'.trans h) (fun l b => step b l) bs l

/-! ## The bay table and identification -/

@[simp] theorem placeIdent_tsw : (placeIdent b l).tsw = l.tsw := by fun_cases placeIdent <;> simp

@[simp] theorem beginIdent_tsw : (beginIdent b l).tsw = l.tsw := by simp [beginIdent]

@[simp] theorem giveUpIdent_tsw : (giveUpIdent e b l).tsw = l.tsw := by simp [giveUpIdent]

@[simp] theorem btbExchangeEnd_tsw : (btbExchangeEnd e b on l).tsw = l.tsw := by fun_cases btbExchangeEnd <;> simp

@[simp] theorem markDuplicate_tsw : (markDuplicate e b n pr l).tsw = l.tsw := by simp [markDuplicate]

@[simp] theorem evictCoach_tsw : (evictCoach n l).tsw = l.tsw := by fun_cases evictCoach <;> simp

@[simp] theorem divertSlot_tsw : (divertSlot b slot l).tsw = l.tsw := by simp [divertSlot]

@[simp] theorem lookUpCoach_tsw : (lookUpCoach b n pr l).1.tsw = l.tsw := by fun_cases lookUpCoach <;> simp

@[simp] theorem acceptIdentity_tsw : (acceptIdentity e b n pr l).tsw = l.tsw := by simp [acceptIdentity]

@[simp] theorem takeIdrp_tsw : (takeIdrp e b n pr l).tsw = l.tsw := by fun_cases takeIdrp <;> simp

@[simp] theorem ident_tsw : (ident b l).2.tsw = l.tsw := by fun_cases ident <;> simp

@[simp] theorem parkCoach_tsw : (parkCoach e b l).tsw = l.tsw := by
  simp only [parkCoach]
  split <;> simp

@[simp] theorem parkOrForget_tsw : (parkOrForget e purpose b l).tsw = l.tsw := by fun_cases parkOrForget <;> simp

@[simp] theorem vacate_tsw : (vacate e b l).tsw = l.tsw := by simp [vacate]

@[simp] theorem teardown_tsw : (teardown e b ps l).tsw = l.tsw := by
  simp only [teardown]
  repeat' split
  all_goals simp

@[simp] theorem plugIn_tsw : (plugIn e b l).tsw = l.tsw := by simp [plugIn]

@[simp] theorem btbPstat_tsw : (btbPstat e b ps l).tsw = l.tsw := by fun_cases btbPstat <;> simp

@[simp] theorem dropExchange_tsw : (dropExchange b l).tsw = l.tsw := by fun_cases dropExchange <;> simp

@[simp] theorem performDisable_tsw : (performDisable b l).tsw = l.tsw := by simp [performDisable]

@[simp] theorem bayDisable_tsw : (bayDisable b l).2.tsw = l.tsw := by fun_cases bayDisable <;> simp

@[simp] theorem bayEnable_tsw : (bayEnable b l).2.tsw = l.tsw := by fun_cases bayEnable <;> simp

/-! ## Samples and the minute event -/

@[simp] theorem takeCabin_tsw : (takeCabin e b n on l).tsw = l.tsw := by fun_cases takeCabin <;> simp

@[simp] theorem takeLamp_tsw : (takeLamp e b n m on l).tsw = l.tsw := by simp [takeLamp]

@[simp] theorem takeSample_tsw : (takeSample e b flags tag n l).tsw = l.tsw := by fun_cases takeSample <;> simp

@[simp] theorem ageBay_tsw : (ageBay e b l).tsw = l.tsw := by
  simp only [ageBay]
  split <;> simp

@[simp] theorem scvMinute_tsw : (scvMinute e l).tsw = l.tsw :=
  forBays_tsw fun _ _ => ageBay_tsw

@[simp] theorem announceMinute_tsw : (announceMinute e l).tsw = l.tsw := by simp [announceMinute]

/-! ## The bay line -/

@[simp] theorem handPstat_tsw : (handPstat e b ps l).tsw = l.tsw := by simp [handPstat]

@[simp] theorem linkReturn_tsw : (linkReturn e lk b l).tsw = l.tsw := by
  simp only [linkReturn]
  split <;> simp

@[simp] theorem announceEnd_tsw : (announceEnd e b sf xe l).tsw = l.tsw := by simp [announceEnd]

@[simp] theorem goSilent_tsw : (goSilent e b l).tsw = l.tsw := by simp [goSilent]

@[simp] theorem missesReachLimit_tsw : (missesReachLimit e b l).tsw = l.tsw := by fun_cases missesReachLimit <;> simp

@[simp] theorem handleMiss_tsw : (handleMiss e b sf l).tsw = l.tsw := by
  simp only [handleMiss]
  split <;> simp

@[simp] theorem endSlot_tsw : (endSlot e fate l).tsw = l.tsw := by simp [endSlot]

@[simp] theorem slotMiss_tsw : (slotMiss e l).tsw = l.tsw := by fun_cases slotMiss <;> simp

@[simp] theorem slotIdleEnd_tsw : (slotIdleEnd e l).tsw = l.tsw := by fun_cases slotIdleEnd <;> simp

/-! ## Profiles and poll slots -/

@[simp] theorem setMissing_tsw : (setMissing on bs l).tsw = l.tsw :=
  forBays_tsw fun _ _ => rfl

@[simp] theorem profileLost_tsw : (profileLost e bs l).tsw = l.tsw := by
  simp only [profileLost]
  exact (forBays_tsw fun _ _ => by simp).trans ((forBays_tsw fun _ _ => dropRequest_steady.1).trans setMissing_tsw)

@[simp] theorem profileFound_tsw : (profileFound e bs l).tsw = l.tsw :=
  (forBays_tsw fun _ _ => by simp).trans setMissing_tsw

@[simp] theorem profileWritten_tsw : (profileWritten pr e l).tsw = l.tsw := by fun_cases profileWritten <;> simp

@[simp] theorem markCarried_tsw : (markCarried b sf l).tsw = l.tsw := by fun_cases markCarried <;> simp

@[simp] theorem startSlot_tsw : (startSlot e l).tsw = l.tsw := by
  simp only [startSlot]
  split <;> simp

@[simp] theorem beginSlot_tsw : (beginSlot e l).tsw = l.tsw := by fun_cases beginSlot <;> simp

/-! ## Tables, parameters and the loader (R166, R174) -/

/-- The straps and the trunk stand. -/
@[simp] abbrev SameTrunk (d d' : Dev) : Prop := d'.env.straps = d.env.straps ∧ d'.live.tsw = d.live.tsw

theorem SameTrunk.trans {d'' : Dev} (h : SameTrunk d d') (h' : SameTrunk d' d'') : SameTrunk d d'' :=
  ⟨h'.1.trans h.1, h'.2.trans h.2⟩

theorem SameTrunk.after {d'' : Dev} (h' : SameTrunk d' d'') (h : SameTrunk d d') : SameTrunk d d'' := h.trans h'

theorem writeParams_trunk {p : Params} : SameTrunk d (writeParams p d) := by simp [writeParams]

theorem writeEntry_trunk {t : TableId} {i : Nat} {bytes : List Byte} (h : writeEntry t i bytes d = some d') : SameTrunk d d' := by
  cases t <;> simp only [writeEntry, Option.map_eq_some_iff] at h <;> obtain ⟨x, -, rfl⟩ := h
  case route => exact ⟨rfl, rfl⟩
  case poll => exact ⟨rfl, rfl⟩
  case profile => simp
  case lamp => simp
  case filter => exact ⟨rfl, rfl⟩
  case rowparam => exact writeParams_trunk

theorem loadEntries_trunk {t : TableId} {code : Byte} (i k : Nat) (r : LoadRun) :
    SameTrunk r.dev (loadEntries t code i k r).dev := by
  induction k generalizing i r with
  | zero => exact ⟨rfl, rfl⟩
  | succ k ih =>
    unfold loadEntries
    split
    · exact ⟨rfl, rfl⟩
    · split
      · exact ⟨rfl, rfl⟩
      · split
        · exact ⟨rfl, rfl⟩
        · next hwritten => exact (ih _ _).after (writeEntry_trunk hwritten)

theorem loadRecord_trunk (r : LoadRun) : SameTrunk r.dev (loadRecord r).dev := by
  unfold loadRecord
  split
  · exact ⟨rfl, rfl⟩
  · split
    · exact ⟨rfl, rfl⟩
    · split
      · dsimp only
        split
        · exact ⟨rfl, rfl⟩
        · split
          · exact ⟨rfl, rfl⟩
          · exact loadEntries_trunk _ _ _
      · exact ⟨rfl, rfl⟩

theorem loadRecords_trunk (k : Nat) (r : LoadRun) : SameTrunk r.dev (loadRecords k r).dev := by
  induction k generalizing r with
  | zero => exact ⟨rfl, rfl⟩
  | succ k ih =>
    unfold loadRecords
    split
    · exact ⟨rfl, rfl⟩
    · exact (ih _).after (loadRecord_trunk r)

theorem runLoad_trunk {records : List Byte} : SameTrunk d (runLoad records d).2.2 := by
  have loaded := loadRecords_trunk records.length { dev := d, written := 0, stop := none, rest := records }
  simp only [runLoad, reportLoaded]
  split
  · exact loaded.trans (by simp)
  · exact loaded

@[simp] theorem modLoader_tsw {f : Loader → Loader} : (l.modLoader f).tsw = l.tsw := rfl

theorem endLoader_trunk {result : LoaderResult} : SameTrunk d (endLoader result d) := by simp [endLoader]

theorem loaderEntry_trunk {t : TableId} {i k : Nat} {bytes : List Byte} : SameTrunk d (loaderEntry t i k bytes d).dev := by
  unfold loaderEntry
  split
  · exact ⟨rfl, rfl⟩
  · next hwritten =>
    have written := writeEntry_trunk hwritten
    dsimp only
    split
    · exact written
    · split <;> exact written

theorem loaderAct_trunk {x : Byte} : SameTrunk d (loaderAct x d).dev := by
  unfold loaderAct loaderCount
  split
  case h_8 =>
    split
    · exact loaderEntry_trunk
    · exact ⟨rfl, rfl⟩
  all_goals
    try split
    all_goals exact ⟨rfl, rfl⟩

theorem loaderBound_trunk : SameTrunk d (loaderBound d) := by
  simp only [loaderBound]
  split
  · exact ⟨rfl, rfl⟩
  · exact ⟨rfl, rfl⟩
  · exact ⟨rfl, rfl⟩
  · split
    · exact endLoader_trunk
    · split
      · exact endLoader_trunk
      · exact ⟨rfl, rfl⟩

theorem loaderByte_trunk {x : Byte} : SameTrunk d (loaderByte x d) := by
  have acted := loaderAct_trunk (d := d) (x := x)
  unfold loaderByte
  split
  · split
    · next h =>
      rw [h] at acted
      exact endLoader_trunk.after acted
    · next h =>
      rw [h] at acted
      exact loaderBound_trunk.after acted
  · exact ⟨rfl, rfl⟩

end Sys2Proof.Machine

namespace Sys2Proof.Machine
variable {e : Env} {b : Bay} {l l' : Live} {d d' : Dev} {s : State} {port : Port} {bytes payload : List Byte} {f : TrunkFrame}

/-! ## TD (R46, R48) -/

/-- The straps, the TD-bound queue and the transmission on TD stand. -/
structure TdStands (d d' : Dev) : Prop where
  straps : d'.env.straps = d.env.straps
  queue : d'.live.tsw.tdQueue = d.live.tsw.tdQueue
  sending : d'.live.tsw.tdSending = d.live.tsw.tdSending

theorem TdStands.refl (d : Dev) : TdStands d d := ⟨rfl, rfl, rfl⟩

theorem TdStands.after {d'' : Dev} (h' : TdStands d' d'') (h : TdStands d d') : TdStands d d'' :=
  ⟨h'.straps.trans h.straps, h'.queue.trans h.queue, h'.sending.trans h.sending⟩

theorem SameTrunk.td (h : SameTrunk d d') : TdStands d d' := ⟨h.1, congrArg _ h.2, congrArg _ h.2⟩

/-- What the blocks do of a live state that leaves the trunk. -/
theorem TdStands.of_tsw (h : l.tsw = d.live.tsw) : TdStands d { d with live := l } := SameTrunk.td ⟨rfl, h⟩

/-! ## Management operations (R165 to R170) -/

theorem onBay_td {bay : Byte} {g : Env → Bay → Live → Status × Live} (h : ∀ e b l, (g e b l).2.tsw = l.tsw) :
    TdStands d (onBay bay g d).2.2 := by
  unfold onBay
  split
  · exact .refl d
  · exact .of_tsw (h _ _ _)

theorem feederSet_td {limit : Nat} : TdStands d (feederSet limit d).2.2 := by
  unfold feederSet
  split
  · exact .refl d
  · exact SameTrunk.td (by simp)

/-- No operation touches TD: of the trunk ROW RESET clears the counters alone (R57). -/
theorem run_td (m : MgmtOp) : TdStands d (m.run d).2.2 := by
  cases m with
  | load records => exact runLoad_trunk.td
  | read target selectors => exact .refl d
  | ident bay => exact onBay_td fun _ _ _ => ident_tsw
  | lampCheck bay gf gl pf pl order => exact onBay_td fun _ _ _ => lampCheck_steady.1
  | lampStop bay => exact onBay_td fun _ _ _ => lampStop_steady.1
  | faultRead bay => exact onBay_td fun _ _ _ => faultRead_steady.1
  | faultClear bay => exact onBay_td fun _ _ _ => faultClear_steady.1
  | faultFlush bay => exact onBay_td fun _ _ _ => faultFlush_steady.1
  | latchShunt bay => exact onBay_td fun _ _ _ => latchShunt_steady.1
  | latchLock bay => exact onBay_td fun _ _ _ => latchLock_steady.1
  | bayEnable bay => exact onBay_td fun _ _ _ => bayEnable_tsw
  | bayDisable bay => exact onBay_td fun _ _ _ => bayDisable_tsw
  | depAdd n minute bay coach target gates => exact .of_tsw depAdd_steady.1
  | depChange n names minute bay target gates => exact .of_tsw depChange_steady.1
  | depCancel n => exact .of_tsw depCancel_steady.1
  | releaseNow n => exact .of_tsw releaseNow_steady.1
  | feederSet limit => exact feederSet_td
  | rowReset => exact ⟨rfl, rfl, rfl⟩
  | reload => exact .of_tsw rfl

theorem answerPayload_td : TdStands d (answerPayload payload d) := by
  have answered (tag op : Byte) {r : Status × List Byte × Dev} (h : TdStands d r.2.2) : TdStands d (respond tag op r) :=
    TdStands.after (.of_tsw rfl) h
  unfold answerPayload
  split
  · split
    · refine answered _ _ ?_
      unfold MgmtOp.execute
      split
      · exact .refl d
      · exact run_td _
    · exact answered _ _ (.refl d)
  · exact answered _ _ (.refl d)

theorem runMgu_td : TdStands d (runMgu d) := by
  unfold runMgu
  split
  · split
    · exact answerPayload_td.after (.of_tsw rfl)
    · exact .refl d
  · exact .refl d

theorem queueMgmt_td : TdStands d { d with live := queueMgmt port payload d.live } := by
  unfold queueMgmt
  split
  · cases port <;> exact ⟨rfl, rfl, rfl⟩
  · exact .of_tsw rfl

/-! ## What the part does of itself -/

theorem grantTu_td : TdStands d (grantTu d) := by
  obtain ⟨_, _, _, _, granted⟩ := grantTu_frame d
  rw [granted]
  exact ⟨rfl, rfl, rfl⟩

/-- Of TD a settling part changes what the grant of TD does. -/
theorem settle_td : TdStands d.tdGranted (settle d) := by
  rw [settle, grantTd_eq]
  exact TdStands.after (.of_tsw beginSlot_tsw) (grantTu_td.after (runMgu_td.after grantTu_td))

/-- R48: an idle TD transmitter takes the head of its queue. -/
theorem tdGranted_idle {t : TswState} (h : t.tdSending = none) :
    t.tdGranted.tdSending = t.tdQueue.head? ∧ t.tdGranted.tdQueue = t.tdQueue.tail := by
  unfold TswState.tdGranted
  cases hqueue : t.tdQueue <;> simp [h, hqueue]

/-- R48: TD does not stand idle while its queue holds a frame. -/
theorem tdGranted_serves (t : TswState) : t.tdGranted.tdSending.isSome = true ∨ t.tdGranted.tdQueue = [] := by
  cases hsending : t.tdSending with
  | some f => exact .inl (by simp [TswState.tdGranted, hsending])
  | none =>
    obtain ⟨sending, queue⟩ := tdGranted_idle hsending
    rw [sending, queue]
    cases t.tdQueue <;> simp

theorem settle_serves (d : Dev) : (settle d).live.tsw.tdSending.isSome = true ∨ (settle d).live.tsw.tdQueue = [] := by
  rw [settle_td.sending, settle_td.queue]
  exact tdGranted_serves d.live.tsw

/-! ## The end of the trunk (R46, R48) -/

theorem trunkEndLaw_iff : trunkEndLaw d = true ↔
    (d.env.straps.endOfTrunk = true → d.live.tsw.tdQueue = [] ∧ d.live.tsw.tdSending = none) := by
  cases hend : d.env.straps.endOfTrunk <;> simp [trunkEndLaw, hend]

theorem TdStands.trunkEnd (h : TdStands d d') (hend : trunkEndLaw d = true) : trunkEndLaw d' = true := by
  rw [trunkEndLaw_iff] at hend ⊢
  rwa [h.straps, h.queue, h.sending]

theorem settle_trunkEnd (h : trunkEndLaw d = true) : trunkEndLaw (settle d) = true := by
  refine settle_td.trunkEnd (trunkEndLaw_iff.mpr fun hend => ?_)
  obtain ⟨queue, sending⟩ := trunkEndLaw_iff.mp h hend
  obtain ⟨sending', queue'⟩ := tdGranted_idle sending
  rw [queue] at sending' queue'
  exact ⟨queue', sending'⟩

/-! ## Frames received -/

theorem countBad_td : TdStands d { d with live := countBad port d.live } := by cases port <;> exact ⟨rfl, rfl, rfl⟩

theorem offeredUp_td (t : TswState) : (t.offeredUp f).tdQueue = t.tdQueue ∧ (t.offeredUp f).tdSending = t.tdSending := by
  unfold TswState.offeredUp
  split <;> exact ⟨rfl, rfl⟩

/-- At the end of the trunk no frame is relayed toward TD. -/
theorem relay_td (hend : d.env.straps.endOfTrunk = true) : TdStands d (d.act fun e => relay e.straps port f) := by
  cases port with
  | tu => exact .of_tsw (by simp only [relay_down, hend, if_true])
  | td =>
    refine ⟨rfl, ?_, ?_⟩ <;> rw [act_live, relay_up]
    · dsimp only
      split
      · exact (offeredUp_td _).1
      · split
        · rfl
        · exact (offeredUp_td _).1
    · dsimp only
      split
      · exact (offeredUp_td _).2
      · split
        · rfl
        · exact (offeredUp_td _).2

theorem downDecision_tsw {kind : Byte} : (downDecision e kind payload b l).tsw = l.tsw := by
  rw [downDecision_eq]
  repeat' split
  all_goals rfl

theorem takeForBay_td : TdStands d (d.act fun e => takeForBay e port f) := by
  unfold takeForBay Dev.act
  dsimp only
  split
  · exact countBad_td
  · split
    · exact countBad_td
    · split
      · exact .of_tsw downDecision_tsw
      · refine .of_tsw (forBays_tsw fun b l => ?_)
        split
        · rfl
        · exact downDecision_tsw

theorem setTime_trunk {minute second : Nat} {outside : Int} : SameTrunk d (setTime minute second outside d) := by
  simp only [setTime]
  repeat' split
  all_goals simp

theorem takeFrame_td : TdStands d (takeFrame port f d) := by
  unfold takeFrame
  split
  · unfold takeForRow
    split
    · exact queueMgmt_td
    · unfold takeTime
      split
      · exact setTime_trunk.td
      · exact .refl d
    · exact countBad_td
  · exact takeForBay_td

theorem receiveFrame_td (hend : d.env.straps.endOfTrunk = true) : TdStands d (receiveFrame port bytes d) := by
  unfold receiveFrame
  split
  · exact countBad_td
  · simp only [sortFrame]
    split <;> split
    · exact takeFrame_td.after (relay_td hend)
    · exact takeFrame_td
    · exact relay_td hend
    · exact .refl d

theorem receiveFrame_straps : (receiveFrame port bytes d).env.straps = d.env.straps := by
  unfold receiveFrame
  split
  · rfl
  · simp only [sortFrame]
    split <;> split
    · exact takeFrame_td.straps
    · exact takeFrame_td.straps
    · rfl
    · rfl

theorem receiveFrame_trunkEnd (h : trunkEndLaw d = true) : trunkEndLaw (receiveFrame port bytes d) = true := by
  refine trunkEndLaw_iff.mpr fun hend => ?_
  have hend' : d.env.straps.endOfTrunk = true := by rwa [receiveFrame_straps] at hend
  exact trunkEndLaw_iff.mp ((receiveFrame_td hend').trunkEnd h) hend

/-! ## The bay line, the clock and the events of a bay -/

theorem sendUp_td {c : OfficeFrame} : (sendUp e b c l).tsw.tdQueue = l.tsw.tdQueue ∧ (sendUp e b c l).tsw.tdSending = l.tsw.tdSending := by
  rw [sendUp_eq]
  repeat' split
  all_goals exact ⟨rfl, rfl⟩

theorem deliver_td {c : ReplyContent} :
    (deliver e b c l).tsw.tdQueue = l.tsw.tdQueue ∧ (deliver e b c l).tsw.tdSending = l.tsw.tdSending := by
  unfold deliver
  split
  case h_8 => exact sendUp_td
  all_goals simp

theorem slotReply_td : TdStands d (d.act fun e => slotReply e bytes) := by
  unfold Dev.act slotReply
  dsimp only
  split
  · exact .refl d
  · split
    · next b sent _ _ r _ =>
      have delivered := deliver_td (e := d.env) (b := b) (c := r.content) (l := (handPstat d.env b r.pstat
        (d.live.modBlm b fun m => m.heard.compare r.pstat)).modBlm b (·.removeAnswered sent))
      refine ⟨rfl, ?_, ?_⟩
      · simpa [handleReply] using delivered.1
      · simpa [handleReply] using delivered.2
    · exact .of_tsw (by simp)
  · exact .of_tsw (by simp)

theorem setTimeStale_trunk : SameTrunk d (setTimeStale d) := by simp [setTimeStale]

theorem timebaseMinute_trunk : SameTrunk d (timebaseMinute d) := by
  simp only [timebaseMinute, whenAddressed, countNoTime]
  repeat' split
  all_goals simp [setTimeStale]

theorem event_trunk {g : Env → Live → Live} (h : ∀ e l, (g e l).tsw = l.tsw) : SameTrunk d (event g d) := by
  unfold event whenAddressed
  split
  · exact ⟨rfl, h _ _⟩
  · exact ⟨rfl, rfl⟩

theorem secondTick_trunk : SameTrunk d (secondTick d) := by
  have ticked : SameTrunk d (event frdTick d) := event_trunk fun _ _ => frdTick_steady.1
  simp only [secondTick]
  split
  · exact ticked
  · exact timebaseMinute_trunk.after ticked

/-- An event of a bay that acts in some states and otherwise not. -/
theorem eventIf_trunk {c : Env → Live → Prop} [∀ e l, Decidable (c e l)] {g : Env → Live → Live} (h : ∀ e l, (g e l).tsw = l.tsw) :
    SameTrunk d (event (fun e l => if c e l then g e l else l) d) := by
  refine event_trunk fun e l => ?_
  split
  · exact h e l
  · rfl

/-! ## Every step -/

/-- What a command comes to: nothing at all, or a change that the part then settles and that keeps R48 at the end of the trunk. -/
inductive Settles (s : State) : Host.Outcome State Fault Refusal → Prop
  | idle : Settles s (.next s)
  | settled (d : Dev) (keeps : trunkEndLaw s.dev = true → trunkEndLaw d = true) : Settles s (.next (s.becomes d))

theorem Settles.td (h : TdStands s.dev d) : Settles s (.next (s.becomes d)) := .settled d h.trunkEnd

theorem Settles.trunk (h : SameTrunk s.dev d) : Settles s (.next (s.becomes d)) := .td (SameTrunk.td h)

theorem submit_settles : Settles s (.next (submit payload s)) := by
  refine .td ?_
  unfold whenAddressed
  split
  · unfold takeRequest
    split
    · exact answerPayload_td
    · exact queueMgmt_td
  · exact .refl _

theorem reset_settles (straps : Straps) : Settles s (.next (s.becomes (.reset straps))) :=
  .settled _ fun _ => trunkEndLaw_iff.mpr fun _ => ⟨rfl, rfl⟩

theorem exec_settles (c : Instr) (s : State) : Settles s (exec c s) := by
  cases c with
  | powerOnReset row eot mem => exact reset_settles _
  | pinReset row eot mem => exact reset_settles _
  | loaderByteRead x => exact .trunk loaderByte_trunk
  | noack =>
    refine .trunk ?_
    unfold loaderNoack
    split
    · exact endLoader_trunk
    · exact ⟨rfl, rfl⟩
  | trunkFrameReceived port bytes => exact .settled _ receiveFrame_trunkEnd
  | receptionBreaksOff port => exact .td countBad_td
  | tuTransmitEnd =>
    refine .td ?_
    unfold tuEnd
    split
    · exact .refl _
    · exact ⟨rfl, rfl, rfl⟩
  | tdTransmitEnd =>
    exact .settled _ fun hlaw => trunkEndLaw_iff.mpr fun hend => ⟨(trunkEndLaw_iff.mp hlaw hend).1, rfl⟩
  | exchangeReply bytes => exact .td slotReply_td
  | badReply => exact .trunk ⟨rfl, slotMiss_tsw⟩
  | replyTimeout => exact .trunk ⟨rfl, slotMiss_tsw⟩
  | pollSlotIdleEnd => exact .trunk ⟨rfl, slotIdleEnd_tsw⟩
  | linkSilent b => exact .trunk (event_trunk fun _ _ => missesReachLimit_tsw)
  | identFailed b => exact .trunk (eventIf_trunk fun _ _ => giveUpIdent_tsw)
  | stepVisitLimit b => exact .trunk (eventIf_trunk fun _ _ => visitLimit_steady.1)
  | coachBusy b => exact .trunk (eventIf_trunk fun _ _ => by simp)
  | coachSilent b => exact .trunk (eventIf_trunk fun _ _ => by simp)
  | clearTimeout b => exact .trunk (eventIf_trunk fun _ _ => clearExpires_steady.1)
  | cabinStaleOnset b => exact .trunk (eventIf_trunk fun _ _ => by simp)
  | secondTick => exact .trunk secondTick_trunk
  | minuteEvent => exact .trunk timebaseMinute_trunk
  | timeStale =>
    refine .trunk ?_
    unfold whenAddressed
    dsimp only
    split
    · split
      · exact setTimeStale_trunk
      · exact ⟨rfl, rfl⟩
    · exact ⟨rfl, rfl⟩
  | parkedSlotExpiry => exact .trunk (event_trunk fun _ _ => expireSlots_steady.1)
  | mgmtFormatError payload =>
    unfold exec execMgmtFormatError
    dsimp only
    split
    · exact .idle
    · exact submit_settles
  | load tag records => exact submit_settles
  | read tag target selectors => exact submit_settles
  | ident tag bay => exact submit_settles
  | lampCheck tag bay gf gl pf pl order => exact submit_settles
  | lampStop tag bay => exact submit_settles
  | faultRead tag bay => exact submit_settles
  | faultClear tag bay => exact submit_settles
  | faultFlush tag bay => exact submit_settles
  | latchShunt tag bay => exact submit_settles
  | latchLock tag bay => exact submit_settles
  | bayEnable tag bay => exact submit_settles
  | bayDisable tag bay => exact submit_settles
  | depAdd tag n minute bay coach target gates => exact submit_settles
  | depChange tag n names minute bay target gates => exact submit_settles
  | depCancel tag n => exact submit_settles
  | releaseNow tag n => exact submit_settles
  | feederSet tag limit => exact submit_settles
  | rowReset tag => exact submit_settles
  | reload tag => exact submit_settles

/-- A step leaves the part as it was, or settled behind a change that keeps R48 at the end of the trunk. -/
theorem step_settles {t : State} (h : step s = .next t) :
    t.dev = s.dev ∨ ∃ d, t.dev = settle d ∧ (trunkEndLaw s.dev = true → trunkEndLaw d = true) := by
  unfold step at h
  split at h
  · cases h
    exact .inl rfl
  · next c rest _ =>
    have settles := exec_settles c { s with pending := rest }
    rw [h] at settles
    cases settles with
    | idle => exact .inl rfl
    | settled d keeps => exact .inr ⟨d, rfl, keeps⟩

/-- Settles O16: what settles grants TD, and no change relays toward TD at the end of the trunk. -/
theorem tdServesItsQueueInOrder : Obligations.TdServesItsQueueInOrder := by
  refine ⟨fun s => ⟨_, rfl, ?_⟩, fun s t hserves hstep => ?_, fun s t hlaw hstep => ?_⟩
  · obtain ⟨sending, queue⟩ := tdGranted_idle (t := (tdEnd s.dev).live.tsw) rfl
    exact ⟨settle_td.sending.trans sending, settle_td.queue.trans queue⟩
  · obtain hdev | ⟨d, hdev, -⟩ := step_settles hstep
    · rwa [State.live, hdev]
    · rw [State.live, hdev]
      exact settle_serves d
  · obtain hdev | ⟨d, hdev, keeps⟩ := step_settles hstep
    · rwa [hdev]
    · rw [hdev]
      exact settle_trunkEnd (keeps hlaw)

end Sys2Proof.Machine

/-! # A TIME frame sets the clock (R44, R65, R96, R98) -/
namespace Sys2Proof.Machine

variable {s : State} {d : Dev} {l : Live} {e : Env} {b : Bay} {port : Port} {bytes : List Byte} {f : TrunkFrame}

/-! ## The values of a TIME frame -/

theorem parseTime_length {payload : List Byte} (h : payload.length ≠ 4) : parseTime payload = none := by
  unfold parseTime
  split
  · exact absurd rfl h
  · rfl

/-- The values of a TIME frame are in range (R98). -/
def timeInRange (m1 m0 second outside : Byte) : Prop :=
  m1.toNat * 256 + m0.toNat ≤ 10079 ∧ second.toNat ≤ 59 ∧ -80 ≤ outside.toInt ∧ outside.toInt ≤ 99

theorem parseTime_inRange {m1 m0 second outside : Byte} (h : timeInRange m1 m0 second outside) :
    parseTime [m1, m0, second, outside] = some (m1.toNat * 256 + m0.toNat, second.toNat, outside.toInt) := by
  obtain ⟨hminute, hsecond, hlow, hhigh⟩ := h
  exact if_pos ⟨Nat.lt_succ_of_le hminute, Nat.lt_succ_of_le hsecond, hlow, hhigh⟩

theorem parseTime_outOfRange {m1 m0 second outside : Byte} (h : ¬ timeInRange m1 m0 second outside) :
    parseTime [m1, m0, second, outside] = none :=
  if_neg fun ⟨hminute, hsecond, hlow, hhigh⟩ => h ⟨Nat.le_of_lt_succ hminute, Nat.le_of_lt_succ hsecond, hlow, hhigh⟩

/-- The clock a TIME frame leaves (R98, R99). -/
def timeClock (minute second : Nat) (outside : Int) : Clock :=
  { minute := minute, second := second, outside := outside, minutesNoTime := 0, timeStale := false }

theorem takeFrame_time (hdb : f.db = 0) (hkind : f.kind = 0x04#8) : takeFrame port f d = takeTime f.payload d := by
  simp only [takeFrame, takeForRow, hdb, hkind, if_true]
  rfl

/-! ## Bays without a plan (R105) -/

/-- No bay has a plan. -/
def Planless (l : Live) : Prop := ∀ b, (l.bay b).php.state = .none

/-- Actions that each leave a part as it stands leave it together. -/
theorem forBays_idle {g : Bay → Live → Live} (h : ∀ b, g b l = l) (bays : List Bay) : forBays bays g l = l := by
  induction bays with
  | nil => rfl
  | cons b bays ih => exact (congrArg (fun l => forBays bays g l) (h b)).trans ih

theorem recompute_planless (h : Planless l) : recompute e b l = l := if_pos (h b)

theorem recomputeAll_planless (h : Planless l) : recomputeAll e l = l := forBays_idle (fun _ => recompute_planless h) _

theorem heatAct_planless (h : Planless l) : heatAct e b l = l := by
  simp only [heatAct, h b]
  split <;> rfl

theorem phpMinute_planless (h : Planless l) : phpMinute e l = l := forBays_idle (fun _ => heatAct_planless h) _

/-- A cabin value that becomes STALE without a plan is nobody's concern. -/
theorem cabinStaleOnset_planless (h : Planless l) : cabinStaleOnset e b l = l := by
  have quiet : staleInMaintain b l = l := by simp [staleInMaintain, h b]
  rw [cabinStaleOnset, quiet, recompute_planless h]

theorem dpcMinute_empty (h : l.departures = []) : dpcMinute e l = l := by
  simp [dpcMinute, expireAll, restoreOrder, ascending, judgeAll, forBays, releaseAll, h]

/-! ## The minute event (R65, R96) -/

/-- A reading a minute older. -/
def aged (r : Option Int × Nat) : Option Int × Nat := (r.1, bumpTo 255 r.2)

theorem ageBay_readings (e : Env) (b : Bay) (l : Live) (c : Bay) :
    (ageBay e b l).readings c = if c = b then aged (l.readings c) else l.readings c := by
  have older : (ageBay e b l).readings = (l.modScv b fun x => { x with age := bumpTo Config.cabinAgeMax x.age }).readings := by
    simp only [ageBay]
    split
    · exact cabinStaleOnset_steady.2
    · rfl
  rw [older]
  by_cases hc : c = b
  · subst hc
    simp [readings_apply, aged, Config.cabinAgeMax]
  · simp [readings_apply, hc]

theorem forBays_age (e : Env) (bays : List Bay) (honce : bays.Nodup) (l : Live) (c : Bay) :
    (forBays bays (ageBay e) l).readings c = if c ∈ bays then aged (l.readings c) else l.readings c := by
  induction bays generalizing l with
  | nil => rfl
  | cons b bays ih =>
    obtain ⟨hb, honce⟩ := List.nodup_cons.mp honce
    refine (ih honce (ageBay e b l)).trans ?_
    rw [ageBay_readings]
    by_cases hc : c = b
    · subst hc
      simp [hb]
    · simp [hc]

theorem scvMinute_readings (e : Env) (l : Live) (c : Bay) : (scvMinute e l).readings c = aged (l.readings c) :=
  (forBays_age e allBays (List.nodup_finRange 16) l c).trans (if_pos (List.mem_finRange c))

/-- At a minute event every reading is a minute older. -/
theorem announceMinute_readings (e : Env) (l : Live) (c : Bay) : (announceMinute e l).readings c = aged (l.readings c) := by
  have before : (dpcMinute e (expireSlots e l)).readings = l.readings := by simp
  rw [announceMinute, scvMinute_readings, before]

theorem announceMinute_mgu : (announceMinute e l).mgu = l.mgu :=
  scvMinute_served.mgu.trans dpcMinute_served.mgu

/-- Where no bay has a plan, none gets one, and the drive ranges stand. -/
def DrivesStand (l l' : Live) : Prop :=
  Planless l → Planless l' ∧ ∀ c, (l'.bay c).scv.driveHigh = (l.bay c).scv.driveHigh

theorem DrivesStand.refl (l : Live) : DrivesStand l l := fun hplan => ⟨hplan, fun _ => rfl⟩

theorem DrivesStand.trans {l'' : Live} (h : DrivesStand l l') (h' : DrivesStand l' l'') : DrivesStand l l'' := fun hplan => by
  obtain ⟨hplan', stand⟩ := h hplan
  obtain ⟨hplan'', stand'⟩ := h' hplan'
  exact ⟨hplan'', fun c => (stand' c).trans (stand c)⟩

theorem DrivesStand.of_idle (h : Planless l → l' = l) : DrivesStand l l' := fun hplan => by
  rw [h hplan]
  exact DrivesStand.refl l hplan

theorem ageBay_drives : DrivesStand l (ageBay e b l) := by
  have older : DrivesStand l (l.modScv b fun x => { x with age := bumpTo Config.cabinAgeMax x.age }) := fun hplan => by
    refine ⟨fun c => by simpa using hplan c, fun c => ?_⟩
    by_cases hc : c = b
    · subst hc
      simp
    · simp [hc]
  simp only [ageBay]
  split
  · exact older.trans (.of_idle cabinStaleOnset_planless)
  · exact older

theorem forBays_drives {g : Bay → Live → Live} (step : ∀ b l, DrivesStand l (g b l)) (bays : List Bay) :
    DrivesStand l (forBays bays g l) := foldl_chain .refl .trans (fun l b => step b l) bays l

theorem scvMinute_drives : DrivesStand l (scvMinute e l) := forBays_drives (fun _ _ => ageBay_drives) allBays

/-- Without an entry of the departure list the minute event leaves the drive ranges. -/
theorem announceMinute_drives (hentries : l.departures = []) : DrivesStand l (announceMinute e l) := by
  have expired : dpcMinute e (expireSlots e l) = expireSlots e l := dpcMinute_empty hentries
  rw [announceMinute, expired]
  exact scvMinute_drives (l := expireSlots e l)

/-! ## The clock set (R98) -/

/-- R98: the clock is written; bays with a plan see a new To, and all blocks a new minute. -/
theorem setTime_eq (minute second : Nat) (outside : Int) (d : Dev) :
    ∃ e l, e = { d.env with clock := timeClock minute second outside } ∧
      (l = d.live ∨ outside ≠ d.env.clock.outside ∧ l = recomputeAll e d.live) ∧
      setTime minute second outside d =
        ⟨e, if minute = d.env.clock.minute then l else phpMinute e (announceMinute e l)⟩ := by
  refine ⟨_, if outside = d.env.clock.outside then d.live
    else recomputeAll { d.env with clock := timeClock minute second outside } d.live, rfl, ?_, ?_⟩
  · split
    · exact .inl rfl
    · next h => exact .inr ⟨h, rfl⟩
  · by_cases houtside : outside = d.env.clock.outside <;> by_cases hminute : minute = d.env.clock.minute <;>
      simp only [setTime, Dev.act, Dev.modClock, timeClock, houtside, hminute, if_true, if_false]

/-- A TIME frame that brings no minute, and no To to a plan, writes the clock alone. -/
theorem setTime_clock {minute second : Nat} {outside : Int} (hminute : minute = d.env.clock.minute)
    (houtside : outside = d.env.clock.outside ∨ Planless d.live) :
    setTime minute second outside d = { d with env := { d.env with clock := timeClock minute second outside } } := by
  obtain ⟨e, l, rfl, seen, set⟩ := setTime_eq minute second outside d
  rw [set, if_pos hminute]
  obtain live | ⟨changed, live⟩ := seen
  · rw [live]
  · rw [live, recomputeAll_planless (houtside.resolve_left changed)]

/-- What a TIME frame in range leaves. -/
structure TimeSet (minute second : Nat) (outside : Int) (d d' : Dev) : Prop where
  env : d'.env = { d.env with clock := timeClock minute second outside }
  mgu : d'.live.mgu = d.live.mgu
  readings : ∀ c, d'.live.readings c = if minute = d.env.clock.minute then d.live.readings c else aged (d.live.readings c)
  drives : d.live.departures = [] → DrivesStand d.live d'.live

theorem setTime_sets (minute second : Nat) (outside : Int) (d : Dev) :
    TimeSet minute second outside d (setTime minute second outside d) := by
  obtain ⟨e, l, henv, seen, set⟩ := setTime_eq minute second outside d
  have mgu : l.mgu = d.live.mgu := by
    obtain live | ⟨-, live⟩ := seen <;> rw [live]
    exact recomputeAll_supplied.row.mgu
  have readings : l.readings = d.live.readings := by
    obtain live | ⟨-, live⟩ := seen <;> rw [live]
    exact recomputeAll_steady.2
  have idle : Planless d.live → l = d.live := fun hplan => by
    obtain live | ⟨-, live⟩ := seen <;> rw [live]
    exact recomputeAll_planless hplan
  rw [set]
  by_cases hminute : minute = d.env.clock.minute
  · refine ⟨henv, ?_, fun c => ?_, fun _ => ?_⟩
    · simpa [hminute] using mgu
    · simp [hminute, readings]
    · simpa [hminute] using DrivesStand.of_idle idle
  · refine ⟨henv, ?_, fun c => ?_, fun hentries => ?_⟩ <;> simp only [hminute, if_false]
    · exact phpMinute_supplied.row.mgu.trans (announceMinute_mgu.trans mgu)
    · rw [phpMinute_steady.2, announceMinute_readings, readings]
    · intro hplan
      rw [idle hplan]
      exact ((announceMinute_drives hentries).trans (.of_idle phpMinute_planless)) hplan

/-- A TIME frame with DR 63 is relayed as well, on the trunk alone (R43). -/
theorem relay_time (port : Port) (f : TrunkFrame) (d : Dev) :
    ∃ tsw, (d.act fun e => relay e.straps port f) = { d with live := { d.live with tsw := tsw } } := by
  cases port with
  | td => exact ⟨_, congrArg (Dev.mk d.env) (relay_up _ _ _)⟩
  | tu => exact ⟨_, congrArg (Dev.mk d.env) (relay_down _ _ _)⟩

/-- A TIME frame for the row is taken behind at most a change of the trunk. -/
theorem exec_time (ha : addressed s = true) (hparse : parseTrunk bytes = some f)
    (hdr : f.dr = s.dev.env.straps.row.val ∨ f.dr = 63) (hdb : f.db = 0) (hkind : f.kind = 0x04#8) :
    ∃ tsw, exec (.trunkFrameReceived port bytes) s =
      .next (s.becomes (takeTime f.payload { s.dev with live := { s.live with tsw := tsw } })) := by
  obtain hrow | hall := hdr
  · exact ⟨s.live.tsw, by rw [exec_ownRow ha hparse hrow, takeFrame_time hdb hkind]; rfl⟩
  · obtain ⟨tsw, relayed⟩ := relay_time port f s.dev
    exact ⟨tsw, by rw [exec_allRows ha hparse hall, relayed, takeFrame_time hdb hkind]; rfl⟩

/-- A settling part without a request leaves the environment and the cabins. -/
theorem settle_cabins (hq : d.live.mgu.queue = []) :
    (settle d).env = d.env ∧ ∀ c, ((settle d).live.bay c).scv = (d.live.bay c).scv := by
  obtain ⟨_, _, _, _, settled⟩ := settle_frame (.inl hq)
  exact ⟨by rw [settled], fun c => ((settle_noted hq).1.bays c).scv⟩

/-- Settles O14: the clock written alone by `setTime_clock`, and what every TIME frame in range leaves by `setTime_sets`. -/
theorem timeFramesSetTheClock : Obligations.TimeFramesSetTheClock := by
  refine ⟨fun s port bytes f ha hparse hrow hdb hkind => ?_,
    fun s port bytes f m1 m0 second outside ha hparse hdr hdb hkind hpayload hminute hsecond hlow hhigh hq => ?_⟩
  · have taken : exec (.trunkFrameReceived port bytes) s = .next (s.becomes (takeTime f.payload s.dev)) := by
      rw [exec_ownRow ha hparse hrow, takeFrame_time hdb hkind]
    have discarded (h : parseTime f.payload = none) : exec (.trunkFrameReceived port bytes) s = .next (s.goes s.live) := by
      rw [taken, takeTime, h]
      rfl
    refine ⟨fun hlength => discarded (parseTime_length hlength), fun m1 m0 second outside hpayload =>
      ⟨fun hout => discarded ?_, fun hminute hsecond hlow hhigh hsame houtside => ?_⟩⟩
    · rw [hpayload]
      exact parseTime_outOfRange (by unfold timeInRange; omega)
    · rw [taken, takeTime, hpayload, parseTime_inRange ⟨hminute, hsecond, hlow, hhigh⟩]
      dsimp only
      rw [setTime_clock hsame houtside, hsame]
      rfl
  · obtain ⟨tsw, taken⟩ := exec_time (port := port) ha hparse hdr hdb hkind
    rw [hpayload, takeTime, parseTime_inRange ⟨hminute, hsecond, hlow, hhigh⟩] at taken
    obtain ⟨env, mgu, readings, drives⟩ := setTime_sets (m1.toNat * 256 + m0.toNat) second.toNat outside.toInt
      { s.dev with live := { s.live with tsw := tsw } }
    obtain ⟨env', scv⟩ := settle_cabins ((congrArg MguState.queue mgu).trans hq)
    refine ⟨_, taken, env'.trans env, fun b => ?_⟩
    obtain ⟨held, age⟩ := Prod.ext_iff.mp (readings b)
    rw [State.bay, State.becomes, scv]
    refine ⟨held.trans ?_, age.trans ?_, fun hplan hentries _ => (drives hentries hplan).2 b⟩ <;> split <;> rfl

end Sys2Proof.Machine

/-! # Cabin values and the time fall STALE (R65, R99, R105) -/
namespace Sys2Proof.Machine

variable {s : State} {l : Live} {e : Env} {b : Bay}

/-- A STALE onset is no concern of PHP at a bay without a plan. -/
theorem cabinStaleOnset_unplanned (h : (l.bay b).php.state = .none) : cabinStaleOnset e b l = l := by
  have quiet : staleInMaintain b l = l := by simp [staleInMaintain, h]
  rw [cabinStaleOnset, quiet, recompute, if_pos h]

/-- A command that an addressed part takes by `f`. -/
theorem after_whenAddressed (f : Dev → Dev) (ha : addressed s = true) : s.after (whenAddressed f) = s.becomes (f s.dev) :=
  congrArg (fun d => ({ s with dev := settle d } : State)) (if_pos ha)

theorem exec_cabinStaleOnset (ha : addressed s = true) : exec (.cabinStaleOnset b) s = .next (s.goes
    (if (s.bay b).scv.age < 10 then cabinStaleOnset s.dev.env b (s.live.modScv b fun c => { c with age := 10 }) else s.live)) :=
  congrArg Host.Outcome.next (after_event _ ha)

theorem exec_timeStale (ha : addressed s = true) : exec .timeStale s = .next (s.becomes
    (if s.dev.env.clock.minutesNoTime < 15 then setTimeStale s.dev else s.dev)) :=
  congrArg Host.Outcome.next (after_whenAddressed _ ha)

/-- Settles O29: each row by the branch its count is on. -/
theorem cabinAndTimeBecomeStale : Obligations.CabinAndTimeBecomeStale := by
  refine ⟨fun s b ha => ⟨fun hage hplan => ?_, fun hstale => ?_⟩, fun s ha => ⟨fun hcount => ?_, fun hstale => ?_⟩⟩
  · have plan : ((s.live.modScv b fun c => { c with age := 10 }).bay b).php.state = .none := by rw [modScv_bay_php, ← hplan]; rfl
    rw [exec_cabinStaleOnset ha, if_pos hage, cabinStaleOnset_unplanned plan]
  · rw [exec_cabinStaleOnset ha, if_neg (Nat.not_lt.mpr hstale)]
  · rw [exec_timeStale ha, if_pos hcount]
    rfl
  · rw [exec_timeStale ha, if_neg (Nat.not_lt.mpr hstale)]
    rfl

end Sys2Proof.Machine

/-! # What DPC has settled of the bays stands where no entry is listed (R122 to R124, R153, R158, R159)

Purpose, latch, key and last outcome change by an entry alone: with the list empty neither an admission pass nor PHP touches
them. -/
namespace Sys2Proof.Machine

variable {l l' l'' : Live} {e : Env} {b : Bay} {k : ShareKind}

/-- What DPC has settled of a bay: release purpose, desired latch, key at FAL, and the outcome of the last entry. -/
def BayRec.disposition (r : BayRec) : Purpose × Bool × Option Nat × LastOutcome :=
  (r.btb.purpose, r.blm.desired.latch, r.fal.key, r.dpc.lastOutcome)

/-- With no entry in the list none joins it, and what DPC has settled of each bay stands. -/
def DpcStands (l l' : Live) : Prop :=
  l.departures = [] → l'.departures = [] ∧ ∀ c, (l'.bay c).disposition = (l.bay c).disposition

theorem DpcStands.refl (l : Live) : DpcStands l l := fun h => ⟨h, fun _ => rfl⟩

theorem DpcStands.trans (h : DpcStands l l') (h' : DpcStands l' l'') : DpcStands l l'' := fun hl => by
  obtain ⟨hl', stands⟩ := h hl
  obtain ⟨hl'', stands'⟩ := h' hl'
  exact ⟨hl'', fun c => (stands' c).trans (stands c)⟩

/-- The same chain, written with the last operation first, as an application stands. -/
theorem DpcStands.after (h' : DpcStands l' l'') (h : DpcStands l l') : DpcStands l l'' := h.trans h'

/-- What is done for an entry is not done without one. -/
theorem DpcStands.of_idle (h : l.departures = [] → l' = l) : DpcStands l l' := fun hl => by
  rw [h hl]
  exact DpcStands.refl l hl

theorem boundEntry_empty (h : l.departures = []) : boundEntry l b = none := by simp [boundEntry, h]

/-! ## One record changed, and the row -/

theorem modBay_dpcStands {f : BayRec → BayRec} (h : (f (l.bay b)).disposition = (l.bay b).disposition) :
    DpcStands l (l.modBay b f) :=
  fun hl => ⟨hl, bays_modBay (R := fun r r' => r'.disposition = r.disposition) (fun _ => rfl) h⟩

theorem modScv_dpcStands {f : ScvPart → ScvPart} : DpcStands l (l.modScv b f) := modBay_dpcStands rfl

theorem modLsw_dpcStands {f : LswPart → LswPart} : DpcStands l (l.modLsw b f) := modBay_dpcStands rfl

theorem modPhp_dpcStands {f : PhpPart → PhpPart} : DpcStands l (l.modPhp b f) := modBay_dpcStands rfl

theorem modBlm_dpcStands {f : BlmPart → BlmPart} (h : (f (l.bay b).blm).desired.latch = (l.bay b).blm.desired.latch) :
    DpcStands l (l.modBlm b f) :=
  modBay_dpcStands (by simp only [BayRec.disposition, h])

theorem setShare_dpcStands {f : FalPart → Share} : DpcStands l (l.modFal b fun x => x.setShare k (f x)) :=
  modBay_dpcStands (by cases k <;> rfl)

theorem fal_dpcStands {f : FalState} : DpcStands l { l with fal := f } := fun h => ⟨h, fun _ => rfl⟩

theorem addReason_dpcStands {n : ReportNumber} {x : Reason} : DpcStands l (addReason e n x l) := fun h => ⟨h, fun _ => rfl⟩

theorem addBayReason_dpcStands {x : Reason} : DpcStands l (addBayReason e b x l) := addReason_dpcStands

/-! ## BLM's settings and frames -/

theorem setHeater_dpcStands {on : Bool} : DpcStands l (setHeater b on l) := modBlm_dpcStands (by rw [desire_eq])

theorem setContactor_dpcStands {closed : Bool} : DpcStands l (setContactor b closed l) := modBlm_dpcStands (by rw [desire_eq])

theorem refill_desired (m : BlmPart) : m.refill.desired = m.desired := by
  unfold BlmPart.refill
  split
  · rfl
  · rfl
  · split <;> rfl
  · rfl

theorem withdraw_desired (o : Owner) (m : BlmPart) : (m.withdraw o).desired = m.desired := by
  have dropped : (m.dropClaim o).desired = m.desired := by cases o <;> rfl
  have emptied (m : BlmPart) : m.emptySlot.desired = m.desired := by
    unfold BlmPart.emptySlot
    split
    · rfl
    · exact refill_desired _
  simp only [BlmPart.withdraw]
  split
  · split
    · exact (emptied _).trans dropped
    · exact dropped
  · exact dropped

theorem place_desired (f : JobFrame) (m : BlmPart) : (m.place f).desired = m.desired := by
  unfold BlmPart.place
  split
  · rfl
  · split
    · rfl
    · split <;> rfl

theorem withdrawJob_dpcStands {o : Owner} : DpcStands l (withdrawJob b o l) := modBlm_dpcStands (by rw [withdraw_desired])

theorem placeJob_dpcStands {f : JobFrame} : DpcStands l (placeJob b f l) := modBlm_dpcStands (by rw [place_desired])

/-! ## Notices to DPC and PHP (R106 to R111, R153) -/

theorem gateNotice_dpcStands {judging : Bool} {g : Gate} {pass : Bool} : DpcStands l (gateNotice e judging b g pass l) := by
  have copied : DpcStands l (l.modDpc b (·.setGate g pass)) := modBay_dpcStands (by cases g <;> rfl)
  unfold gateNotice
  split
  · exact (DpcStands.of_idle fun h => judge_unbound e b _ (boundEntry_empty h)).after copied
  · exact copied

theorem evalLate_unlisted (h : l.departures = []) : evalLate e b l = l := by
  simp [evalLate, boundDistance, boundEntry_empty h]

theorem heatAct_unlisted (h : l.departures = []) : heatAct e b l = l := by
  simp [heatAct, boundDistance, boundEntry_empty h]

theorem evalLate_dpcStands : DpcStands l (evalLate e b l) := .of_idle evalLate_unlisted

theorem lateNotice_dpcStands {late : Bool} : DpcStands l (lateNotice b late l) :=
  .of_idle fun h => by simp [lateNotice, boundEntry_empty h]

theorem clearLate_dpcStands : DpcStands l (clearLate b l) := by
  unfold clearLate
  split
  · exact lateNotice_dpcStands.after modPhp_dpcStands
  · exact .refl l

theorem heatAdmitted_dpcStands : DpcStands l (heatAdmitted e b l) := by
  simp only [heatAdmitted]
  split
  · split
    · exact evalLate_dpcStands.after modPhp_dpcStands
    · exact evalLate_dpcStands.after (addBayReason_dpcStands.after (setHeater_dpcStands.after modPhp_dpcStands))
  · exact .refl l

theorem pauseBegins_dpcStands : DpcStands l (pauseBegins e b l) := by
  have asked : DpcStands l (l.modPhp b fun q => { q with pauseRequested := true }) := modPhp_dpcStands
  simp only [pauseBegins]
  split
  · exact evalLate_dpcStands.after (setHeater_dpcStands.after (modPhp_dpcStands.after asked))
  · exact evalLate_dpcStands.after (setHeater_dpcStands.after (modPhp_dpcStands.after asked))
  · exact asked

theorem pauseEnds_dpcStands : DpcStands l (pauseEnds e b l) := by
  have lifted : DpcStands l (l.modPhp b fun q => { q with pauseRequested := false }) := modPhp_dpcStands
  simp only [pauseEnds]
  split
  · split
    · exact evalLate_dpcStands.after (addBayReason_dpcStands.after (setHeater_dpcStands.after (modPhp_dpcStands.after lifted)))
    · exact clearLate_dpcStands.after (setHeater_dpcStands.after (modPhp_dpcStands.after lifted))
  · exact lifted

/-! ## LSW's notices (R79 to R82, R87, R92) -/

theorem pointAt_dpcStands {p : Option (Nat × Nat)} : DpcStands l (pointAt e b p l).1 := by
  have cleared : DpcStands l (l.modLsw b fun s => { s with tries := 0, visits := 0 }) := modLsw_dpcStands
  cases p with
  | none => exact cleared
  | some p => exact DpcStands.after (modScv_dpcStands.after (placeJob_dpcStands.after modLsw_dpcStands)) cleared

theorem evalLampGate_dpcStands {judging : Bool} : DpcStands l (evalLampGate e judging b l) := by
  simp only [evalLampGate]
  split
  · exact .refl l
  · exact gateNotice_dpcStands.after modLsw_dpcStands

theorem endPause_dpcStands : DpcStands l (endPause e b l) := by
  unfold endPause
  split
  · exact pauseEnds_dpcStands.after modLsw_dpcStands
  · exact .refl l

theorem lampAdmitted_dpcStands : DpcStands l (lampAdmitted e b l).1 := by
  simp only [lampAdmitted]
  split
  · refine pointAt_dpcStands.after ?_
    split
    · exact pauseBegins_dpcStands.after (modLsw_dpcStands.after modLsw_dpcStands)
    · exact modLsw_dpcStands
  · exact .refl l

theorem closeSweep_dpcStands : DpcStands l (closeSweep e b l) :=
  endPause_dpcStands.after (modLsw_dpcStands.after withdrawJob_dpcStands)

theorem reportSweep_dpcStands {judging : Bool} : DpcStands l (reportSweep e judging b l) :=
  addBayReason_dpcStands.after evalLampGate_dpcStands

/-! ## Admission passes (R122 to R126) -/

theorem releaseHeld_dpcStands : DpcStands l (releaseHeld e b k l) := by
  unfold releaseHeld
  split
  · exact fal_dpcStands.after setShare_dpcStands
  · exact .refl l

theorem grantShare_dpcStands {x : Bay × ShareKind} : DpcStands l (grantShare e x l) := by
  have admitted : DpcStands l (setShareState x.1 x.2 .admitted (dequeue x l)) := setShare_dpcStands.after fal_dpcStands
  simp only [grantShare]
  split
  · exact releaseHeld_dpcStands.after (releaseHeld_dpcStands.after admitted)
  · exact admitted

theorem admitHeads_dpcStands (n : Nat) (s : Live × List (Bay × ShareKind)) : DpcStands s.1 (admitHeads e n s).1 := by
  induction n generalizing s with
  | zero => exact .refl s.1
  | succ n ih =>
    unfold admitHeads
    split
    · exact .refl _
    · split
      · exact (ih _).after grantShare_dpcStands
      · exact .refl _

theorem passLamps_dpcStands (xs : List (Bay × ShareKind)) (s : Live × List (Bay × ShareKind)) :
    DpcStands s.1 (passLamps e xs s).1 := by
  induction xs generalizing s with
  | nil => exact .refl s.1
  | cons x xs ih =>
    unfold passLamps
    split
    · exact (ih _).after grantShare_dpcStands
    · exact ih _

theorem passRound_dpcStands : DpcStands l (passRound e l).1 :=
  (passLamps_dpcStands _ _).after (admitHeads_dpcStands _ (l, []))

theorem passRounds_dpcStands (n : Nat) (l : Live) (told : List (Bay × ShareKind)) :
    DpcStands l (passRounds e n l told).1 := by
  induction n generalizing l told with
  | zero => exact .refl l
  | succ n ih =>
    simp only [passRounds]
    split
    · exact passRound_dpcStands
    · exact (ih _ _).after passRound_dpcStands

theorem admissionPass_dpcStands : DpcStands l (admissionPass e l).1 := by
  unfold admissionPass
  split
  · exact .refl l
  · exact passRounds_dpcStands _ l []

theorem freeShare_dpcStands : DpcStands l (freeShare e b k l).1 := by
  have dropped : DpcStands l (dropShare b k l) := setShare_dpcStands
  unfold freeShare judgeOvercommit
  split
  · split
    · exact dropped
    · exact admissionPass_dpcStands.after (fal_dpcStands.after dropped)
  · exact .refl l

theorem tellOwners_dpcStands (n : Nat) (told : List (Bay × ShareKind)) (l : Live) : DpcStands l (tellOwners e n told l) := by
  induction n generalizing told l with
  | zero => exact .refl l
  | succ n ih =>
    cases told with
    | nil => exact .refl l
    | cons x rest =>
      obtain ⟨b, k⟩ := x
      cases k with
      | base => exact (ih _ _).after setContactor_dpcStands
      | heat => exact (ih _ _).after heatAdmitted_dpcStands
      | lamp =>
        have admitted : DpcStands l (lampAdmitted e b l).1 := lampAdmitted_dpcStands
        rw [tellOwners]
        split
        · next h =>
          rw [h] at admitted
          exact (ih _ _).after admitted
        · next h =>
          rw [h] at admitted
          exact (ih _ _).after (reportSweep_dpcStands.after
            ((ih _ _).after (freeShare_dpcStands.after (closeSweep_dpcStands.after admitted))))

theorem runPass_dpcStands : DpcStands l (runPass e l) := (tellOwners_dpcStands _ _ _).after admissionPass_dpcStands

/-! ## Withdrawals, releases and keys (R112, R121 to R124) -/

theorem dropRequest_dpcStands : DpcStands l (dropRequest b k l) := by
  unfold dropRequest
  split
  · exact setShare_dpcStands.after fal_dpcStands
  · exact setShare_dpcStands
  · exact .refl l

theorem withdrawShare_dpcStands : DpcStands l (withdrawShare e b k l) := by
  unfold withdrawShare
  split
  · exact runPass_dpcStands.after dropRequest_dpcStands
  · exact dropRequest_dpcStands

theorem releaseShare_dpcStands : DpcStands l (releaseShare e b k l) := (tellOwners_dpcStands _ _ _).after freeShare_dpcStands

theorem requeue_dpcStands : DpcStands l (requeue e b k l) := by
  unfold requeue
  split
  · exact fal_dpcStands
  · exact .refl l

/-- Behind the key itself FAL writes no more than the queue and what a pass does. -/
theorem setKey_dpcStands {key : Option Nat} : DpcStands (l.modFal b fun f => { f with key := key }) (setKey e b key l) := by
  simp only [setKey]
  split
  · next h => exact .of_idle fun _ => (modBay_id l b _ (by rw [← h])).symm
  · split
    · exact runPass_dpcStands.after (requeue_dpcStands.after (requeue_dpcStands.after (requeue_dpcStands.after fal_dpcStands)))
    · exact .refl _

theorem leavePlan_dpcStands {teardown : Bool} : DpcStands l (leavePlan e teardown b l) := by
  have shares : DpcStands l (leaveShare e b l) := by
    unfold leaveShare
    split
    · exact withdrawShare_dpcStands
    · exact releaseShare_dpcStands
    · exact releaseShare_dpcStands
    · exact releaseShare_dpcStands
    · exact .refl l
  have failed {k : Live} (h : DpcStands l k) : DpcStands l
      (if (k.bay b).php.gate then gateNotice e (!teardown) b .heat false (k.modPhp b fun q => { q with gate := false }) else k) := by
    split
    · exact gateNotice_dpcStands.after (modPhp_dpcStands.after h)
    · exact h
  have left {k : Live} (h : DpcStands l k) : DpcStands l ((clearLate b k).modPhp b fun q =>
      { q with unreachable := false, capped := false, staleCabin := false, lead := 0, state := .none }) :=
    modPhp_dpcStands.after (clearLate_dpcStands.after h)
  simp only [leavePlan]
  split
  · exact addBayReason_dpcStands.after (left (failed (setHeater_dpcStands.after shares)))
  · exact left (failed (setHeater_dpcStands.after shares))

/-- A bay that leaves its plan has none (R112). -/
theorem leavePlan_state {teardown : Bool} : ((leavePlan e teardown b l).bay b).php.state = .none := by
  simp only [leavePlan]
  split <;> simp [addBayReason]

/-- PHP ends the plan of a bay whose entry has left the list (R101, R112). -/
theorem planNotice_unlisted (h : l.departures = []) :
    DpcStands l (planNotice e b l) ∧ ((planNotice e b l).bay b).php.state = .none := by
  have unplannable : plannableTarget l b = none := by simp [plannableTarget, boundEntry_empty h]
  simp only [planNotice, unplannable]
  split
  · next hplan => exact ⟨.refl l, hplan⟩
  · exact ⟨leavePlan_dpcStands, leavePlan_state⟩

/-- FAL and PHP hear that the last entry has left its bay: the key goes, and the plan (R112, R121). -/
theorem tellBay_unlisted {key : Option Nat} (h : l.departures = []) :
    DpcStands (l.modFal b fun f => { f with key := key }) (tellBay e b key l) ∧
      ((tellBay e b key l).bay b).php.state = .none := by
  obtain ⟨hkeyed, -⟩ := setKey_dpcStands (e := e) (b := b) (key := key) (l := l) h
  obtain ⟨stands, plan⟩ := planNotice_unlisted (e := e) (b := b) hkeyed
  exact ⟨stands.after setKey_dpcStands, plan⟩

end Sys2Proof.Machine

/-! # The minute event (R65, R96, R97, R99, R159, R160) -/
namespace Sys2Proof.Machine

variable {s : State} {d : Dev} {l l' : Live} {e : Env} {b : Bay} {x : DepEntry} {r r' : BayRec}

/-! ## The minute event of the part -/

/-- A record whose exchange has begun: no more than BLM's frames and LSW's and FRD's marks have changed. -/
structure RecMarked (r r' : BayRec) : Prop where
  btb : r'.btb = r.btb
  desired : r'.blm.desired = r.blm.desired
  scv : r'.scv = r.scv
  php : r'.php = r.php
  fal : r'.fal = r.fal
  dpc : r'.dpc = r.dpc

theorem RecMarked.refl (r : BayRec) : RecMarked r r := ⟨rfl, rfl, rfl, rfl, rfl, rfl⟩

theorem marked_recMarked (sent : SentFrame) (r : BayRec) : RecMarked r (r.marked sent) := by
  cases sent <;> exact ⟨rfl, rfl, rfl, rfl, rfl, rfl⟩

/-- As it settles without a request for MGU, the part only marks the frame of an exchange that begins. -/
theorem settle_marks (hq : d.live.mgu.queue = []) (c : Bay) : RecMarked (d.live.bay c) ((settle d).live.bay c) := by
  have begun : (settle d).live.bay c = (beginSlot d.env d.live).bay c := by
    rw [settle_free (.inl hq)]
    rfl
  rw [begun]
  obtain h | ⟨_, _, h | ⟨b, sent, h⟩⟩ := beginSlot_eq d.env d.live <;> rw [h]
  · exact .refl _
  · exact .refl _
  · exact bays_modBay .refl (marked_recMarked sent _) c

/-- What the blocks read once the week minute has advanced (R96). -/
def Env.nextMinute (e : Env) : Env := { e with clock := e.clock.nextMinute }

@[simp] theorem nextMinute_params (e : Env) : e.nextMinute.params = e.params := rfl

theorem nextMinute_minute (e : Env) : e.nextMinute.clock.minute = if e.clock.minute < 10079 then e.clock.minute + 1 else 0 := by
  have wraps : e.clock.minute + 1 < Config.weekMinutes ↔ e.clock.minute < 10079 := Nat.succ_lt_succ_iff
  exact if_congr wraps rfl rfl

/-- One more minute without TIME is a matter of the clock, and at the fifteenth of a report (R99). -/
theorem countNoTime_live (d : Dev) : ∃ reports, (countNoTime d).live = { d.live with reports := reports } := by
  unfold countNoTime
  split
  · exact ⟨_, rfl⟩
  · split
    · exact ⟨_, rfl⟩
    · exact ⟨_, rfl⟩

/-- PHP acts at a minute event on a bay with a plan and an entry alone. -/
theorem phpMinute_idle (h : Planless l ∨ l.departures = []) : phpMinute e l = l := by
  rcases h with h | h
  · exact phpMinute_planless h
  · exact forBays_idle (fun _ => heatAct_unlisted h) _

/-- MINUTE_EVENT where PHP has nothing to do behind BTB, DPC and SCV: the bays and the list as those three leave them. -/
theorem exec_minuteEvent {k : Live} (ha : addressed s = true) (hq : s.live.mgu.queue = [])
    (hk : announceMinute s.dev.env.nextMinute s.live = k) (hidle : Planless k ∨ k.departures = []) :
    ∃ t, exec .minuteEvent s = .next t ∧ t.live.departures = k.departures ∧ (∀ c, RecMarked (k.bay c) (t.bay c)) ∧
      (s.dev.env.clock.minutesNoTime < 14 → t.dev.env = (s.dev.modClock fun c =>
        { c.nextMinute with minutesNoTime := c.minutesNoTime + 1 }).env) := by
  have ha' : s.dev.env.straps.addressed = true := ha
  let d : Dev := ⟨s.dev.env.nextMinute, k⟩
  obtain ⟨reports, counted⟩ := countNoTime_live d
  have acted : timebaseMinute s.dev = countNoTime d := by
    have php : phpMinute (countNoTime d).env (countNoTime d).live = (countNoTime d).live := by
      rw [counted]
      exact phpMinute_idle hidle
    calc timebaseMinute s.dev = (countNoTime d).act phpMinute := by
          subst hk
          exact if_pos ha'
      _ = countNoTime d := congrArg (Dev.mk _) php
  have mgu : k.mgu = s.live.mgu := hk ▸ announceMinute_mgu
  have hq' : (countNoTime d).live.mgu.queue = [] := by
    rw [counted]
    exact (congrArg MguState.queue mgu).trans hq
  obtain ⟨_, _, _, _, frame⟩ := settle_frame (.inl hq')
  refine ⟨s.becomes (countNoTime d), by rw [← acted]; rfl, ?_, fun c => ?_, fun hcount => ?_⟩
  · rw [State.live, State.becomes, frame, counted]
  · have marks := settle_marks hq' c
    rw [counted] at marks
    exact marks
  · have count : countNoTime d = d.modClock fun c => { c with minutesNoTime := c.minutesNoTime + 1 } := if_pos hcount
    rw [State.becomes, frame, count]
    rfl

/-! ## A row without a plan (R65) -/

/-- A bay whose cabin value is a minute older. -/
def BayRec.older (r : BayRec) : BayRec := { r with scv := { r.scv with age := bumpTo 255 r.scv.age } }

theorem older_planless (h : Planless l) : Planless (l.modBay b BayRec.older) :=
  fun c => bays_modBay (R := fun r r' => r.php.state = .none → r'.php.state = .none) (f := BayRec.older) (fun _ => id) id c (h c)

theorem ageBay_planless (h : Planless l) : ageBay e b l = l.modBay b BayRec.older := by
  simp only [ageBay]
  split
  · exact cabinStaleOnset_planless (older_planless h)
  · rfl

theorem forBays_older (bays : List Bay) (honce : bays.Nodup) (h : Planless l) :
    (forBays bays (ageBay e) l).departures = l.departures ∧
      ∀ c, (forBays bays (ageBay e) l).bay c = if c ∈ bays then (l.bay c).older else l.bay c := by
  induction bays generalizing l with
  | nil => exact ⟨rfl, fun _ => rfl⟩
  | cons b bays ih =>
    obtain ⟨hb, honce⟩ := List.nodup_cons.mp honce
    have aged : forBays (b :: bays) (ageBay e) l = forBays bays (ageBay e) (l.modBay b BayRec.older) :=
      congrArg (forBays bays (ageBay e)) (ageBay_planless h)
    obtain ⟨departures, older⟩ := ih honce (older_planless h)
    rw [aged]
    refine ⟨departures, fun c => ?_⟩
    rw [older]
    by_cases hc : c = b
    · subst hc
      simp [hb]
    · simp [hc]

/-- SCV's minute in a row without a plan: every cabin value is a minute older, and no more. -/
theorem scvMinute_planless (h : Planless l) :
    (scvMinute e l).departures = l.departures ∧ ∀ c, (scvMinute e l).bay c = (l.bay c).older := by
  obtain ⟨departures, older⟩ := forBays_older (e := e) allBays (List.nodup_finRange 16) h
  exact ⟨departures, fun c => (older c).trans (if_pos (List.mem_finRange c))⟩

theorem scvMinute_keepsPlanless (h : Planless l) : Planless (scvMinute e l) := (scvMinute_drives h).1

/-! ## A row without an entry (R65) -/

theorem computeBayLead_passed : Passed .univ l (computeBayLead e b l) := by
  simp only [computeBayLead]
  split
  · exact addBayReason_passed.after (modPhp_passed (Set.mem_univ _) Iff.rfl rfl)
  · exact modPhp_passed (Set.mem_univ _) Iff.rfl rfl

theorem computeBayLead_dpcStands : DpcStands l (computeBayLead e b l) := by
  simp only [computeBayLead]
  split
  · exact addBayReason_dpcStands.after modPhp_dpcStands
  · exact modPhp_dpcStands

/-- The departures stay as they are in a row that is only supplied, where none is listed. -/
theorem Supplied.unlisted (h : Supplied l l') (hl : l.departures = []) : l'.departures = [] := by
  have bound := h.row.bindings
  simpa [bindings, hl] using bound

/-- A bay without an entry is computed at most, and does not act on its lead (R105). -/
theorem recompute_unlisted (h : l.departures = []) :
    recompute e b l = if (l.bay b).php.state = .none then l else computeBayLead e b l := by
  have idle : heatAct e b (computeBayLead e b l) = computeBayLead e b l := heatAct_unlisted (computeBayLead_supplied.unlisted h)
  rw [recompute, idle]

/-- Where no entry is listed plans neither begin nor end, and what DPC has settled stands. -/
def PlansStand (l l' : Live) : Prop := l.departures = [] → Passed .univ l l' ∧ DpcStands l l'

theorem PlansStand.refl (l : Live) : PlansStand l l := fun _ => ⟨.refl l, .refl l⟩

theorem PlansStand.trans {l'' : Live} (h : PlansStand l l') (h' : PlansStand l' l'') : PlansStand l l'' := fun hl => by
  obtain ⟨passed, stands⟩ := h hl
  obtain ⟨passed', stands'⟩ := h' (passed.supplied.unlisted hl)
  exact ⟨passed.trans passed', stands.trans stands'⟩

theorem cabinStaleOnset_plans : PlansStand l (cabinStaleOnset e b l) := by
  have off : PlansStand l (staleInMaintain b l) := fun _ => by
    refine ⟨staleInMaintain_passed (Set.mem_univ _), ?_⟩
    unfold staleInMaintain
    split
    · exact setHeater_dpcStands
    · exact .refl l
  have computed {k : Live} : PlansStand k (recompute e b k) := fun hk => by
    rw [recompute_unlisted hk]
    split
    · exact ⟨.refl k, .refl k⟩
    · exact ⟨computeBayLead_passed, computeBayLead_dpcStands⟩
  exact off.trans computed

theorem ageBay_plans : PlansStand l (ageBay e b l) := by
  have older : PlansStand l (l.modScv b fun c => { c with age := bumpTo Config.cabinAgeMax c.age }) :=
    fun _ => ⟨modScv_passed (Set.mem_univ _), modScv_dpcStands⟩
  simp only [ageBay]
  split
  · exact older.trans cabinStaleOnset_plans
  · exact older

theorem forBays_plans (bays : List Bay) : PlansStand l (forBays bays (ageBay e) l) :=
  foldl_chain (R := PlansStand) .refl .trans (fun _ _ => ageBay_plans) bays l

theorem scvMinute_plans : PlansStand l (scvMinute e l) := forBays_plans allBays

/-! ## The end of an entry (R159, R160) -/

/-- An expired entry has left the list and the latch of its bay, and is the bay's last outcome; FAL and PHP are yet to be told. -/
def entryGone (e : Env) (b : Bay) (x : DepEntry) (l : Live) : Live :=
  addBayReason e b .expired ((lockIfReleased x (removeEntry x.id l)).modDpc b fun d => { d with lastOutcome := .expired x.id })

/-- What DPC has settled of a bay whose entry has expired: the key is gone, and with the release of a RELEASED entry its purpose. -/
def BayRec.expired (x : DepEntry) (r : BayRec) : Purpose × Bool × Option Nat × LastOutcome :=
  if x.state = .released then (.none, false, none, .expired x.id)
  else (r.btb.purpose, r.blm.desired.latch, none, .expired x.id)

theorem removeEntry_departures (h : l.departures = [x]) : (lockIfReleased x (removeEntry x.id l)).departures = [] := by
  unfold lockIfReleased
  split <;> simp [setLatch, removeEntry, h]

theorem expireEntry_unbound (h : l.departures = [x]) (hbay : x.bay = none) :
    expireEntry e x.id l = lockIfReleased x (removeEntry x.id l) := by
  simp [expireEntry, entryById, h, hbay]

theorem expireEntry_bound (h : l.departures = [x]) (hbay : x.bay = some b) :
    expireEntry e x.id l = tellBay e b none (entryGone e b x l) := by
  simp [expireEntry, entryById, h, hbay, entryGone]

/-- The only entry leaves the list as it expires. -/
theorem expireEntry_departures (h : l.departures = [x]) : (expireEntry e x.id l).departures = [] := by
  have left := removeEntry_departures h
  cases hbay : x.bay with
  | none => rw [expireEntry_unbound h hbay, left]
  | some b =>
    rw [expireEntry_bound h hbay]
    exact ((tellBay_unlisted (l := entryGone e b x l) left).1 left).1

/-- The record of the bay before FAL and PHP are told, the key that FAL is about to lose aside. -/
theorem entryGone_disposition (hbay : x.bay = some b) :
    (((entryGone e b x l).modFal b fun f => { f with key := none }).bay b).disposition = (l.bay b).expired x := by
  have removed : (removeEntry x.id l).bay b = l.bay b := rfl
  simp only [entryGone, addBayReason, bay_modFal_self, addReason_bay, bay_modDpc_self, BayRec.disposition, BayRec.expired,
    lockIfReleased, hbay]
  cases x.state <;> simp [setLatch_eq, removed]

/-- The bay of the only entry as that expires: unreleased, and without key and plan. -/
theorem expireEntry_bay (h : l.departures = [x]) (hbay : x.bay = some b) :
    ((expireEntry e x.id l).bay b).disposition = (l.bay b).expired x ∧ ((expireEntry e x.id l).bay b).php.state = .none := by
  have left : (entryGone e b x l).departures = [] := removeEntry_departures h
  obtain ⟨told, plan⟩ := tellBay_unlisted (e := e) (b := b) (key := none) left
  rw [expireEntry_bound h hbay]
  exact ⟨((told left).2 b).trans (entryGone_disposition hbay), plan⟩

/-- DPC's minute with one entry, which has expired. -/
theorem dpcMinute_expires (h : l.departures = [x]) (hlate : x.distance e < -60) : dpcMinute e l = expireEntry e x.id l := by
  have expired : expireAll e l = expireEntry e x.id l := by simp [expireAll, h, hlate]
  have idle := dpcMinute_empty (e := e) (expireEntry_departures (e := e) h)
  have again : expireAll e (expireEntry e x.id l) = expireEntry e x.id l := by simp [expireAll, expireEntry_departures h]
  rw [dpcMinute, again] at idle
  rw [dpcMinute, expired, idle]

/-- The minute event of a row whose only entry expires: list, disposition and plan of the entry's bay (R160). -/
theorem announceMinute_expires (h : l.departures = [x]) (hlate : x.distance e < -60) :
    (announceMinute e l).departures = [] ∧ ∀ b, x.bay = some b →
      ((announceMinute e l).bay b).disposition = (l.bay b).expired x ∧ ((announceMinute e l).bay b).php.state = .none := by
  have h' : (expireSlots e l).departures = [x] := h
  have left := expireEntry_departures (e := e) h'
  obtain ⟨passed, stands⟩ := scvMinute_plans (e := e) left
  rw [announceMinute, dpcMinute_expires h' hlate]
  refine ⟨(stands left).1, fun b hbay => ?_⟩
  obtain ⟨disposition, plan⟩ := expireEntry_bay (e := e) h' hbay
  exact ⟨((stands left).2 b).trans disposition, (passed.bays b).plan.mpr plan⟩

/-- DPC's minute with one entry, CLEARED and due: it is still clearable, and is released (R157, R159). -/
theorem dpcMinute_releases (h : l.departures = [x]) (hbay : x.bay = some b) (hstate : x.state = .cleared)
    (hdue : releaseDue e x = true) (hearly : -60 ≤ x.distance e) (hclear : clearable e l b x = true) :
    dpcMinute e l = releaseEntry e b x l := by
  have expired : expireAll e l = l := by simp [expireAll, h, Int.not_lt.mpr hearly]
  have ordered : restoreOrder e l = l := by simp [restoreOrder, h, ascending]
  have bound : boundEntry l b = some x := by simp [boundEntry, h, hbay]
  have judged : judgeAll e l = l := by simp [judgeAll, forBays, h, hbay, judge, bound, hstate, hclear]
  rw [dpcMinute, expired, ordered, judged]
  simp [releaseAll, h, hbay, hdue]

theorem releaseEntry_result (h : l.departures = [x]) :
    (releaseEntry e b x l).departures = [{ x with state := .released, held := false }] ∧
      ((releaseEntry e b x l).bay b).btb.purpose = .depart ∧ ((releaseEntry e b x l).bay b).blm.desired.latch = true := by
  have listed : (updateEntry x.id (fun y => { y with state := .released, held := false }) l).departures =
      [{ x with state := .released, held := false }] := by simp [updateEntry, h]
  simp [releaseEntry, addBayReason, setLatch_eq, listed]

/-- The minute event of a row without a plan whose only entry is due: the entry, and its bay (R159, R160). -/
theorem announceMinute_releases (h : l.departures = [x]) (hbay : x.bay = some b) (hstate : x.state = .cleared)
    (hdue : releaseDue e x = true) (hearly : -60 ≤ x.distance e) (hclear : clearable e l b x = true) (hplans : Planless l) :
    (announceMinute e l).departures = [{ x with state := .released, held := false }] ∧
      ((announceMinute e l).bay b).btb.purpose = .depart ∧ ((announceMinute e l).bay b).blm.desired.latch = true ∧
      Planless (announceMinute e l) := by
  have h' : (expireSlots e l).departures = [x] := h
  obtain ⟨listed, purpose, latch⟩ := releaseEntry_result (e := e) (b := b) h'
  have released : Passed .univ (expireSlots e l) (releaseEntry e b x (expireSlots e l)) :=
    addBayReason_passed.after ((setLatch_passed (Set.mem_univ b)).after (updateEntry_passed _ (fun _ => rfl) fun _ => rfl))
  have planless : Planless (releaseEntry e b x (expireSlots e l)) := fun c => (released.bays c).plan.mpr (hplans c)
  obtain ⟨departures, older⟩ := scvMinute_planless (e := e) planless
  rw [announceMinute, dpcMinute_releases h' hbay hstate hdue hearly hclear, departures, older]
  exact ⟨listed, purpose, latch, scvMinute_keepsPlanless planless⟩

theorem RecMarked.disposition (h : RecMarked r r') : r'.disposition = r.disposition := by
  simp only [BayRec.disposition, h.btb, h.desired, h.fal, h.dpc]

/-- What a bay shows of the expiry of its entry. -/
theorem disposition_expired (h : r'.disposition = r.expired x) : r'.dpc.lastOutcome = .expired x.id ∧ r'.fal.key = none ∧
    (x.state = .released → r'.btb.purpose = .none ∧ r'.blm.desired.latch = false) := by
  unfold BayRec.disposition BayRec.expired at h
  split at h
  · obtain ⟨hpurpose, hlatch, hkey, houtcome⟩ := by simpa using h
    exact ⟨houtcome, hkey, fun _ => ⟨hpurpose, hlatch⟩⟩
  · next hstate =>
    obtain ⟨-, -, hkey, houtcome⟩ := by simpa using h
    exact ⟨houtcome, hkey, fun hreleased => absurd hreleased hstate⟩

/-- Settles O32: the three events are the minute of SCV, an expiry and a release, each behind a clock that has advanced. -/
theorem minutesAdvanceTheClockAndTheCabinAges : Obligations.MinutesAdvanceTheClockAndTheCabinAges := by
  refine ⟨fun s ha hcache hentries hrow hcount hq => ?_, fun s x minute ha hentries hq hminute => ⟨fun hlate => ?_,
    fun b hbay hstate hheld hmatch hearly hlead hwindow hgates hlink hplans => ?_⟩⟩
  · have planless : Planless (expireSlots s.dev.env.nextMinute s.live) := fun b => (hrow b).1
    have taken : announceMinute s.dev.env.nextMinute s.live =
        scvMinute s.dev.env.nextMinute (expireSlots s.dev.env.nextMinute s.live) :=
      congrArg (scvMinute s.dev.env.nextMinute) (dpcMinute_empty hentries)
    obtain ⟨-, older⟩ := scvMinute_planless (e := s.dev.env.nextMinute) planless
    obtain ⟨t, ht, -, marked, env⟩ := exec_minuteEvent ha hq taken (.inl (scvMinute_keepsPlanless planless))
    refine ⟨t, ht, (env hcount).trans ?_, fun b => ?_⟩
    · rw [← nextMinute_minute]
      rfl
    · have marks := marked b
      rw [older] at marks
      exact ⟨marks.scv, marks.btb, marks.php, marks.fal, marks.dpc⟩
  · have late : x.distance s.dev.env.nextMinute < -60 := by rwa [DepEntry.distance, nextMinute_minute, ← hminute]
    obtain ⟨left, bays⟩ := announceMinute_expires hentries late
    obtain ⟨t, ht, listed, marked, -⟩ := exec_minuteEvent ha hq rfl (.inr left)
    refine ⟨t, ht, listed.trans left, fun b hbay => ?_⟩
    obtain ⟨disposition, plan⟩ := bays b hbay
    obtain ⟨outcome, key, unreleased⟩ := disposition_expired ((marked b).disposition.trans disposition)
    exact ⟨outcome, key, (congrArg PhpPart.state (marked b).php).trans plan, unreleased⟩
  · have dist : x.distance s.dev.env.nextMinute = distance x.minute minute := by rw [DepEntry.distance, nextMinute_minute, hminute]
    have due : releaseDue s.dev.env.nextMinute x = true := by
      simpa [releaseDue, hstate, hheld, dist] using hlead
    have clear : clearable s.dev.env.nextMinute s.live b x = true := by
      simpa [clearable, hmatch, dist] using ⟨⟨hgates, hlink⟩, hwindow⟩
    obtain ⟨listed, purpose, latch, planless⟩ := announceMinute_releases hentries hbay hstate due (dist ▸ hearly) clear hplans
    obtain ⟨t, ht, departures, marked, -⟩ := exec_minuteEvent ha hq rfl (.inl planless)
    exact ⟨t, ht, departures.trans listed, (congrArg BtbPart.purpose (marked b).btb).trans purpose,
      (congrArg Actuators.latch (marked b).desired).trans latch⟩

end Sys2Proof.Machine

/-! # The walking order of a window (R72, R81) -/
namespace Sys2Proof.Machine

variable {e : Env} {b : Bay} {l l' : Live} {p q : Nat × Nat} {w : SweepWindow} {o : SweepOrder}

/-! ## One axis -/

/-- On an axis `x` is walked before `y`. -/
def ahead (reverse : Bool) (x y : Nat) : Prop := x ≠ y ∧ (x < y ↔ reverse = false)

theorem mem_span {a c x : Nat} : x ∈ span a c ↔ a ≤ x ∧ x ≤ c := by
  simp only [span, List.mem_map, List.mem_range]
  exact ⟨fun ⟨i, hi, hx⟩ => by omega, fun ⟨ha, hc⟩ => ⟨x - a, by omega, by omega⟩⟩

theorem span_ascends (a c : Nat) : (span a c).Pairwise (· < ·) :=
  List.pairwise_lt_range.map _ fun _ _ h => Nat.add_lt_add_right h a

theorem mem_axis {first last x : Nat} {reverse : Bool} : x ∈ axis first last reverse ↔ first ≤ x ∧ x ≤ last := by
  cases reverse <;> simp [axis, mem_span]

theorem axis_ahead (first last : Nat) (reverse : Bool) : (axis first last reverse).Pairwise (ahead reverse) := by
  cases reverse with
  | false => exact (span_ascends first last).imp fun h => ⟨Nat.ne_of_lt h, by simp [h]⟩
  | true =>
    refine List.pairwise_reverse.mpr ((span_ascends first last).imp fun h => ⟨Nat.ne_of_gt h, ?_⟩)
    simp [Nat.le_of_lt h]

/-! ## Both axes -/

/-- `p` is walked before `q`: by the major axis, and by the minor one where the major one is the same. -/
def walkedBefore (o : SweepOrder) (p q : Nat × Nat) : Prop :=
  if o.positionMajor = true then ahead o.reversePosition p.2 q.2 ∨ (p.2 = q.2 ∧ ahead o.reverseGroup p.1 q.1)
  else ahead o.reverseGroup p.1 q.1 ∨ (p.1 = q.1 ∧ ahead o.reversePosition p.2 q.2)

theorem mem_walkOrder : p ∈ walkOrder w o ↔
    w.groupFirst ≤ p.1 ∧ p.1 ≤ w.groupLast ∧ w.positionFirst ≤ p.2 ∧ p.2 ≤ w.positionLast := by
  obtain ⟨g, q⟩ := p
  by_cases hmajor : o.positionMajor = true
  · have byPosition : (g, q) ∈ walkOrder w o ↔
        (w.positionFirst ≤ q ∧ q ≤ w.positionLast) ∧ w.groupFirst ≤ g ∧ g ≤ w.groupLast := by
      simp [walkOrder, hmajor, mem_axis]
    rw [byPosition]
    tauto
  · simp [walkOrder, hmajor, mem_axis, and_assoc]

/-- The lists of an outer axis behind one another keep the order that holds inside each and between two of them. -/
theorem pairwise_flatMap_axes {α : Type} {R : α → α → Prop} {outer inner : Nat → Nat → Prop} {xs ys : List Nat}
    {f : Nat → Nat → α} (hxs : xs.Pairwise outer) (hys : ys.Pairwise inner) (hsame : ∀ x y y', inner y y' → R (f x y) (f x y'))
    (hother : ∀ x x' y y', outer x x' → R (f x y) (f x' y')) : (xs.flatMap fun x => ys.map (f x)).Pairwise R := by
  refine List.pairwise_flatMap.mpr ⟨fun x _ => hys.map _ (hsame x), hxs.imp fun hx u hu v hv => ?_⟩
  obtain ⟨y, -, rfl⟩ := List.mem_map.mp hu
  obtain ⟨y', -, rfl⟩ := List.mem_map.mp hv
  exact hother _ _ _ _ hx

theorem walkOrder_walkedBefore (w : SweepWindow) (o : SweepOrder) : (walkOrder w o).Pairwise (walkedBefore o) := by
  have groups := axis_ahead w.groupFirst w.groupLast o.reverseGroup
  have positions := axis_ahead w.positionFirst w.positionLast o.reversePosition
  by_cases hmajor : o.positionMajor = true
  · simp only [walkOrder, hmajor, if_true]
    exact pairwise_flatMap_axes positions groups (fun _ _ _ h => by simpa [walkedBefore, hmajor] using .inr h)
      fun _ _ _ _ h => by simpa [walkedBefore, hmajor] using .inl h
  · simp only [walkOrder, hmajor]
    exact pairwise_flatMap_axes groups positions (fun _ _ _ h => by simpa [walkedBefore, hmajor] using .inr h)
      fun _ _ _ _ h => by simpa [walkedBefore, hmajor] using .inl h

theorem not_walkedBefore_self : ¬ walkedBefore o p p := by simp [walkedBefore, ahead]

/-! ## The lamps that are stepped -/

theorem steppable_iff : steppable e l b p = true ↔ p.1 ≤ (profileOf e l b).groups ∧ p.2 ≤ (profileOf e l b).positions ∧
    (lampEntry e (l.bay b).btb.profile p.1 p.2).present = true := by
  simp [steppable, inGrid, and_assoc]

theorem steppable_congr (hbtb : (l'.bay b).btb = (l.bay b).btb) : steppable e l' b = steppable e l b := by
  funext x
  simp only [steppable, profileOf, hbtb]

/-- Each lamp stands once in the walking order, so what is behind it there is what is stepped next. -/
theorem lampAfter_of_split {front back : List (Nat × Nat)}
    (h : walkOrder (l.bay b).lsw.window (l.bay b).lsw.order = front ++ p :: back) :
    lampAfter e l b p = back.find? (steppable e l b) := by
  have once : ∀ x ∈ front, (x != p) = true := fun x hx => by
    have order := h ▸ walkOrder_walkedBefore (l.bay b).lsw.window (l.bay b).lsw.order
    have before : walkedBefore (l.bay b).lsw.order x p := (List.pairwise_append.mp order).2.2 x hx p (by simp)
    exact bne_iff_ne.mpr fun hxp => not_walkedBefore_self (hxp ▸ before)
  simp only [lampAfter, h, List.dropWhile_append_of_pos once]
  simp

end Sys2Proof.Machine

/-! # LAMP CHECK (R75 to R77, R79, R82, R118) -/
namespace Sys2Proof.Machine

variable {e : Env} {b : Bay} {l l' : Live} {p : Nat × Nat} {w : SweepWindow} {o : SweepOrder} {n : Nat}

/-! ## The lamp share of a bay (R117, R118, R122) -/

/-- A bay whose lamp share is written. -/
def BayRec.lampShare (x : Share) (r : BayRec) : BayRec := { r with fal := { r.fal with lamp := x } }

theorem setLamp_eq (l : Live) (b : Bay) (x : Share) : (l.modFal b fun f => f.setShare .lamp x) = l.modBay b (·.lampShare x) := rfl

/-- The committed load follows the load of one changed record. -/
theorem committed_modBay (l : Live) (b : Bay) (f : BayRec → BayRec) :
    committed (l.modBay b f) + (l.bay b).fal.load = committed l + (f (l.bay b)).fal.load := by
  have parted (k : Live) : committed k = (k.bay b).fal.load + ∑ c ∈ Finset.univ.erase b, (k.bay c).fal.load := by
    rw [Finset.add_sum_erase _ (fun c => (k.bay c).fal.load) (Finset.mem_univ b), committed, allBays, Fin.sum_univ_def]
  have others : ∑ c ∈ Finset.univ.erase b, ((l.modBay b f).bay c).fal.load =
      ∑ c ∈ Finset.univ.erase b, (l.bay c).fal.load :=
    Finset.sum_congr rfl fun c hc => by rw [bay_modBay_ne f (Finset.ne_of_mem_erase hc)]
  rw [parted, parted l, others, bay_modBay_self]
  omega

/-- The committed load changes by what the lamp share adds to it. -/
theorem committed_lampShare (l : Live) (b : Bay) (x : Share) :
    committed (l.modBay b (·.lampShare x)) + (l.bay b).fal.lamp.load = committed l + x.load := by
  have h := committed_modBay l b (·.lampShare x)
  simp only [BayRec.lampShare, FalPart.load] at h ⊢
  omega

/-- A live state after FAL has given out a sequence number. -/
def Live.numbered (l : Live) : Live := { l with fal := { l.fal with sequence := l.fal.sequence + 1 } }

theorem numbered_bay (l : Live) (b : Bay) : l.numbered.bay b = l.bay b := rfl

theorem committed_numbered (l : Live) : committed l.numbered = committed l := by simp only [committed, numbered_bay]

theorem numbered_modBay (l : Live) (f : BayRec → BayRec) : (l.modBay b f).numbered = l.numbered.modBay b f := rfl

/-- R118: the request waits for the base share. -/
theorem requestLamp_held (hbase : (l.bay b).fal.base.state ≠ .admitted) (hlamp : (l.bay b).fal.lamp.state = .none) :
    requestShare e b .lamp n l = l.numbered.modBay b (·.lampShare ⟨.held, n, l.fal.sequence⟩) := by
  have unasked : (shareOf l b .lamp).state = .none := hlamp
  have indirect : ((shareOf l b .base).state == .admitted) = false := by simpa [shareOf, FalPart.share] using hbase
  simp only [requestShare, unasked, if_true, indirect]
  rfl

/-- A LAMP request alone in the queue is admitted as it comes out of it. -/
theorem grantShare_lamp (h : l.fal.queue = [(b, .lamp)]) : grantShare e (b, .lamp) l =
    { l with fal := { l.fal with queue := [] } }.modBay b (fun r => r.lampShare { r.fal.lamp with state := .admitted }) := by
  have emptied : dequeue (b, .lamp) l = { l with fal := { l.fal with queue := [] } } := by simp [dequeue, h]
  simp only [grantShare, emptied]
  rfl

/-- R122: a pass over one LAMP request that fits admits it, and a second round finds none. -/
theorem admissionPass_lamp (hqueue : l.fal.queue = [(b, .lamp)]) (hover : l.fal.overcommit = false)
    (hfits : fits e l (b, .lamp) = true) : admissionPass e l = (grantShare e (b, .lamp) l, [(b, .lamp)]) := by
  have left : (grantShare e (b, .lamp) l).fal.queue = [] := by rw [grantShare_lamp hqueue]; rfl
  have firstRound : passRound e l = (grantShare e (b, .lamp) l, [(b, .lamp)]) := by
    simp [passRound, requestBound, admitHeads, hqueue, hfits, left, passLamps]
  have secondRound : passRound e (grantShare e (b, .lamp) l) = (grantShare e (b, .lamp) l, []) := by
    simp [passRound, requestBound, admitHeads, left, passLamps]
  simp [admissionPass, hover, requestBound, hqueue, passRounds, firstRound, secondRound]

/-- R123: LSW is told of its admission, and drives a lamp on it. -/
theorem finishPass_lamp (h : lampAdmitted e b l = (l', false)) : finishPass e (l, [(b, .lamp)]) = l' := by
  have bound : noticeBound l [(b, .lamp)] = (l.fal.queue.length + 32) + 1 + 1 := by
    simp only [noticeBound, requestBound, List.length_cons, List.length_nil]
    omega
  rw [finishPass, bound, tellOwners, h]
  rfl

/-- R122, R123: a LAMP request that joins an empty queue and fits is admitted at once. -/
theorem runPass_lamp (hqueue : l.fal.queue = []) (hover : l.fal.overcommit = false)
    (hfits : committed l + (l.bay b).fal.lamp.amount ≤ e.params.feederLimit)
    (hadmitted : lampAdmitted e b (l.modBay b fun r => r.lampShare { r.fal.lamp with state := .admitted }) = (l', false)) :
    runPass e (enqueue e (b, .lamp) l) = l' := by
  have queue : (enqueue e (b, .lamp) l).fal.queue = [(b, .lamp)] := by simp [enqueue, hqueue, insertBefore]
  have fit : fits e (enqueue e (b, .lamp) l) (b, .lamp) = true := decide_eq_true hfits
  have emptied : ({ enqueue e (b, .lamp) l with fal := { (enqueue e (b, .lamp) l).fal with queue := [] } } : Live) = l := by
    simp only [enqueue]
    rw [← hqueue]
  rw [runPass, admissionPass_lamp queue hover fit, grantShare_lamp queue, emptied, finishPass_lamp hadmitted]

/-- R118: with the base share ADMITTED, nothing else waiting and room below the limit the request is admitted at once. -/
theorem requestLamp_admitted (hbase : (l.bay b).fal.base.state = .admitted) (hlamp : (l.bay b).fal.lamp.state = .none)
    (hqueue : l.fal.queue = []) (hover : l.fal.overcommit = false) (hfits : committed l + n ≤ e.params.feederLimit)
    (hadmitted : lampAdmitted e b (l.numbered.modBay b (·.lampShare ⟨.admitted, n, l.fal.sequence⟩)) = (l', false)) :
    requestShare e b .lamp n l = l' := by
  have unasked : (shareOf l b .lamp).state = .none := hlamp
  have direct : ((shareOf l b .base).state == .admitted) = true := by simp [shareOf, FalPart.share, hbase]
  have sameLoad : committed (l.numbered.modBay b (·.lampShare ⟨.queued, n, l.fal.sequence⟩)) = committed l := by
    have load := committed_lampShare l.numbered b ⟨.queued, n, l.fal.sequence⟩
    have unloaded : (l.numbered.bay b).fal.lamp.load = 0 := if_neg (by rw [numbered_bay, hlamp]; decide)
    have waiting : Share.load ⟨.queued, n, l.fal.sequence⟩ = 0 := if_neg nofun
    rw [committed_numbered] at load
    omega
  simp only [requestShare, unasked, if_true, direct, Bool.or_true]
  show runPass e (enqueue e (b, .lamp) (l.numbered.modBay b (·.lampShare ⟨.queued, n, l.fal.sequence⟩))) = l'
  refine runPass_lamp hqueue hover ?_ ?_
  · rw [sameLoad, bay_modBay_self]
    exact hfits
  · rw [modBay_modBay]
    exact hadmitted

/-! ## A sweep asked for (R76, R77, R79) -/

/-- LSW's part with the window and order of an accepted LAMP CHECK, its counts cleared. -/
def LswPart.asked (w : SweepWindow) (o : SweepOrder) (x : LswPart) : LswPart :=
  { x with window := w, order := o, counts := .zero }

/-- A bay whose sweep of a window has started (R76). -/
def BayRec.sweepStarted (w : SweepWindow) (o : SweepOrder) (r : BayRec) : BayRec :=
  { r with lsw := { r.lsw.asked w o with pointer := none, tries := 0, visits := 0, sweep := .waitPower } }

/-- A bay whose sweep has started with its lamp share written (R76, R118). -/
def BayRec.sweepSharing (w : SweepWindow) (o : SweepOrder) (x : Share) (r : BayRec) : BayRec := (r.sweepStarted w o).lampShare x

/-- The first lamp of a window is that of the bay's coach. -/
theorem firstLamp_eq (hbtb : (l'.bay b).btb = (l.bay b).btb) : firstLamp e l' b =
    (walkOrder (l'.bay b).lsw.window (l'.bay b).lsw.order).find? (steppable e l b) := by
  rw [firstLamp, steppable_congr hbtb]

/-- R79, R82: the sweep runs on its share, and its first lamp is driven. -/
theorem lampAdmitted_lamp (hsweep : (l.bay b).lsw.sweep = .waitPower) (hsupply : (profileOf e l b).sharedSupply = false)
    (hfirst : firstLamp e l b = some p) : lampAdmitted e b l = (l.modBay b fun r =>
      driven (lampEntry e (l.bay b).btb.profile p.1 p.2) p 1 { r with lsw := { r.lsw with sweep := .running } }, false) := by
  have runs : firstLamp e (l.modLsw b fun s => { s with sweep := .running }) b = some p := by
    rw [firstLamp_eq (l := l) (by rw [bay_modLsw_self]), bay_modLsw_self]
    exact hfirst
  have pointed (k : Live) : pointAt e b (some p) k = (stepTo e b (some p) k, false) := rfl
  simp only [lampAdmitted, hsweep, hsupply, if_true, Bool.false_eq_true, if_false, runs, pointed, stepTo_lamp, bay_modLsw_self]
  rw [modLsw_eq, modBay_modBay]
  rfl

/-- R79, R82: a sweep that has just started runs, and the first lamp of its window is driven. -/
theorem lampAdmitted_started {x : Share} (hsupply : (profileOf e l b).sharedSupply = false)
    (hfirst : (walkOrder w o).find? (steppable e l b) = some p) : lampAdmitted e b (l.modBay b (·.sweepSharing w o x)) =
      (l.modBay b fun r => driven (lampEntry e (l.bay b).btb.profile p.1 p.2) p 1
        (BayRec.lampShare x { r with lsw := { r.lsw.asked w o with sweep := .running } }), false) := by
  have bay : (l.modBay b (·.sweepSharing w o x)).bay b = (l.bay b).sweepSharing w o x := bay_modBay_self _
  have coach : ((l.modBay b (·.sweepSharing w o x)).bay b).btb = (l.bay b).btb := by rw [bay]; rfl
  have lamp : firstLamp e (l.modBay b (·.sweepSharing w o x)) b = some p := by
    rw [firstLamp_eq coach, bay]
    exact hfirst
  rw [lampAdmitted_lamp (by rw [bay]; rfl) (by simpa only [profileOf, coach] using hsupply) lamp, coach, modBay_modBay]
  rfl

/-- R76: a bay without a sweep asks for the lamp share. -/
theorem startSweep_eq (e : Env) (b : Bay) (w : SweepWindow) (o : SweepOrder) (l : Live) : startSweep e b w o l =
    requestShare e b .lamp (profileOf e l b).lampLoad (l.modBay b (·.sweepStarted w o)) := rfl

/-- R76, R118: the sweep waits for power, its request for the base share. -/
theorem startSweep_held (hbase : (l.bay b).fal.base.state ≠ .admitted) (hlamp : (l.bay b).fal.lamp.state = .none) :
    startSweep e b w o l = Live.numbered (l.modBay b fun r =>
      (r.sweepStarted w o).lampShare ⟨.held, (profileOf e l b).lampLoad, l.fal.sequence⟩) := by
  rw [startSweep_eq, requestLamp_held (by rw [bay_modBay_self]; exact hbase) (by rw [bay_modBay_self]; exact hlamp),
    numbered_modBay, modBay_modBay]
  rfl

/-- R76, R79, R82: the share is admitted at once, and the first lamp of the window is driven. -/
theorem startSweep_runs (hbase : (l.bay b).fal.base.state = .admitted) (hlamp : (l.bay b).fal.lamp.state = .none)
    (hqueue : l.fal.queue = []) (hover : l.fal.overcommit = false)
    (hfits : committed l + (profileOf e l b).lampLoad ≤ e.params.feederLimit) (hsupply : (profileOf e l b).sharedSupply = false)
    (hfirst : (walkOrder w o).find? (steppable e l b) = some p) : startSweep e b w o l = Live.numbered (l.modBay b fun r =>
      driven (lampEntry e (l.bay b).btb.profile p.1 p.2) p 1
        (BayRec.lampShare ⟨.admitted, (profileOf e l b).lampLoad, l.fal.sequence⟩
          { r with lsw := { r.lsw.asked w o with sweep := .running } })) := by
  have sameLoad : committed (l.modBay b (·.sweepStarted w o)) = committed l :=
    Nat.add_right_cancel (committed_modBay l b (·.sweepStarted w o))
  rw [startSweep_eq]
  refine requestLamp_admitted (by rw [bay_modBay_self]; exact hbase) (by rw [bay_modBay_self]; exact hlamp) hqueue hover
    (by rw [sameLoad]; exact hfits) ?_
  rw [numbered_modBay, modBay_modBay]
  exact lampAdmitted_started (l := l.numbered) hsupply hfirst

/-- R77: in WAIT_POWER the request of the sweep in progress stands. -/
theorem restartSweep_waits (h : (l.bay b).lsw.sweep = .waitPower) :
    restartSweep e b w o l = l.modLsw b (·.asked w o) := by
  simp only [restartSweep, h]
  rfl

/-- R77: in RUNNING the first lamp of the new window is driven. -/
theorem restartSweep_runs (h : (l.bay b).lsw.sweep = .running) (hfirst : (walkOrder w o).find? (steppable e l b) = some p) :
    restartSweep e b w o l = l.modBay b fun r =>
      driven (lampEntry e (l.bay b).btb.profile p.1 p.2) p 1 { r with lsw := r.lsw.asked w o } := by
  have lamp : firstLamp e (l.modLsw b (·.asked w o)) b = some p := by
    rw [firstLamp_eq (l := l) (by rw [bay_modLsw_self]), bay_modLsw_self]
    exact hfirst
  simp only [restartSweep, h, if_true]
  show stepTo e b (firstLamp e (l.modLsw b (·.asked w o)) b) (l.modLsw b (·.asked w o)) = _
  rw [lamp, stepTo_lamp, bay_modLsw_self, modLsw_eq, modBay_modBay]
  rfl

/-! ## The operation (R75) -/

/-- R75: the window ends within the grid. -/
def SweepWindow.clamped (h : ProfileHeader) (w : SweepWindow) : SweepWindow :=
  { w with groupLast := min w.groupLast h.groups, positionLast := min w.positionLast h.positions }

theorem lampCheck_state (h : (l.bay b).btb.occupancy ≠ .occupied ∨ (l.bay b).btb.profileMissing = true ∨
    entryCleared l b = true) : lampCheck e b w o l = (.state, l) := by
  simp only [lampCheck]
  split
  · rfl
  · next hocc =>
    split
    · rfl
    · next hmissing =>
      rcases h with h | h | h
      · exact absurd h hocc
      · exact absurd h hmissing
      · rw [if_pos h]

section

variable (hocc : (l.bay b).btb.occupancy = .occupied) (hmissing : (l.bay b).btb.profileMissing = false)
  (hcleared : entryCleared l b = false)

include hocc hmissing hcleared in
theorem lampCheck_range (h : w.groupFirst = 0 ∨ (profileOf e l b).groups < w.groupFirst ∨ w.positionFirst = 0 ∨
      (profileOf e l b).positions < w.positionFirst ∨ w.groupLast < w.groupFirst ∨ w.positionLast < w.positionFirst) :
    lampCheck e b w o l = (.range, l) := by
  simp only [lampCheck, hocc, hmissing, hcleared, ne_eq, not_true, if_false, Bool.false_eq_true]
  split
  · rfl
  · exact if_pos (by omega)

include hocc hmissing hcleared in
theorem lampCheck_done (hgroup : 1 ≤ w.groupFirst) (hgroups : w.groupFirst ≤ (profileOf e l b).groups)
    (hposition : 1 ≤ w.positionFirst) (hpositions : w.positionFirst ≤ (profileOf e l b).positions)
    (hgrouped : w.groupFirst ≤ w.groupLast) (hpositioned : w.positionFirst ≤ w.positionLast) :
    lampCheck e b w o l = (.done, if (l.bay b).lsw.sweep.inProgress = true then
      restartSweep e b (w.clamped (profileOf e l b)) o l else startSweep e b (w.clamped (profileOf e l b)) o l) := by
  have inside : ¬ (w.groupFirst = 0 ∨ (profileOf e l b).groups < w.groupFirst ∨ w.positionFirst = 0 ∨
      (profileOf e l b).positions < w.positionFirst) := by omega
  have filled : ¬ (min w.groupLast (profileOf e l b).groups < w.groupFirst ∨
      min w.positionLast (profileOf e l b).positions < w.positionFirst) := by omega
  simp only [lampCheck, hocc, hmissing, hcleared, ne_eq, not_true, if_false, Bool.false_eq_true, inside, filled]
  split <;> rfl

end

/-- An operation on a bay, submitted to a ready part, is answered with what it makes of that bay. -/
theorem submit_onBay {s : State} {m : MgmtOp} {f : Env → Bay → Live → Status × Live} {status : Status} {bay : Byte}
    (tag : Byte) (hr : ready s = true) (hb : bay.toNat = bayNumber b) (hp : parseOperation m.code m.params = some m)
    (hm : m.run s.dev = onBay bay f s.dev) (hf : f s.dev.env b s.live = (status, l)) :
    submit (m.payload tag) s = s.answers tag m.code status l :=
  submit_answers tag hr hp (by
    rw [hm, onBay_of_number bay b hb]
    exact congrArg (fun x : Status × Live => (x.1, [], { s.dev with live := x.2 })) hf)

theorem exec_lampCheck {s : State} {status : Status} {bay gf gl pf pl order : Byte} (tag : Byte) (hr : ready s = true)
    (hb : bay.toNat = bayNumber b) (h : lampCheck s.dev.env b (windowOf gf gl pf pl) (orderOf order) s.live = (status, l)) :
    exec (.lampCheck tag bay gf gl pf pl order) s = .next (s.answers tag 0x11 status l) :=
  congrArg Host.Outcome.next (submit_onBay (m := .lampCheck bay gf gl pf pl order)
    (f := fun e b => lampCheck e b (windowOf gf gl pf pl) (orderOf order)) tag hr hb rfl rfl h)

/-- Settles O39: the checks of R75, then the sweep started or restarted by its state, and the walking order axis by axis. -/
theorem lampCheckAsksForPower : Obligations.LampCheckAsksForPower := by
  refine ⟨fun s tag bay gf gl pf pl order b hr hb => ⟨fun hrefused => ?_, fun hocc hmissing hcleared => ⟨fun hrange => ?_,
    fun hgroup hgroups hposition hpositions hgrouped hpositioned => ?_⟩⟩,
    fun e l b p => ⟨steppable_iff, fun front back => lampAfter_of_split⟩,
    fun w o => ⟨fun p => mem_walkOrder, walkOrder_walkedBefore w o⟩⟩
  · exact exec_lampCheck tag hr hb (lampCheck_state hrefused)
  · exact exec_lampCheck tag hr hb (lampCheck_range hocc hmissing hcleared hrange)
  · have accepted : lampCheck s.dev.env b (windowOf gf gl pf pl) (orderOf order) s.live = (.done, _) :=
      lampCheck_done hocc hmissing hcleared hgroup hgroups hposition hpositions hgrouped hpositioned
    have starts {k : Live} (hsweep : (s.bay b).lsw.sweep.inProgress = false) (h : startSweep s.dev.env b
        ((windowOf gf gl pf pl).clamped (profileOf s.dev.env s.live b)) (orderOf order) s.live = k) :
        exec (.lampCheck tag bay gf gl pf pl order) s = .next (s.answers tag 0x11 .done k) :=
      exec_lampCheck tag hr hb (accepted.trans (congrArg _ ((if_neg (Bool.eq_false_iff.mp hsweep)).trans h)))
    have restarts {k : Live} (hsweep : (s.bay b).lsw.sweep.inProgress = true) (h : restartSweep s.dev.env b
        ((windowOf gf gl pf pl).clamped (profileOf s.dev.env s.live b)) (orderOf order) s.live = k) :
        exec (.lampCheck tag bay gf gl pf pl order) s = .next (s.answers tag 0x11 .done k) :=
      exec_lampCheck tag hr hb (accepted.trans (congrArg _ ((if_pos hsweep).trans h)))
    refine ⟨fun hsweep hbase hlamp => starts hsweep ?_,
      fun p hsweep hbase hlamp hqueue hover hfits hsupply hfirst => starts hsweep ?_,
      fun hsweep => restarts (congrArg _ hsweep) ?_, fun p hsweep hfirst => restarts (congrArg _ hsweep) ?_⟩
    · exact (startSweep_held (l := s.live) hbase hlamp).trans (congrArg Live.numbered (modBay_congr _ _ _ _ rfl))
    · exact (startSweep_runs (l := s.live) hbase hlamp hqueue hover hfits hsupply hfirst).trans
        (congrArg Live.numbered (modBay_congr _ _ _ _ rfl))
    · exact (restartSweep_waits (l := s.live) hsweep).trans (modBay_congr _ _ _ _ rfl)
    · exact (restartSweep_runs (l := s.live) hsweep hfirst).trans (modBay_congr _ _ _ _ rfl)

end Sys2Proof.Machine

/-! # LAMP STOP (R78, R88, R123, R124, R126) -/
namespace Sys2Proof.Machine

variable {e : Env} {b : Bay} {l : Live} {judging : Bool}

/-! ## The lamp share given back -/

/-- R123: a HELD request is in no queue, so its withdrawal sets off no pass. -/
theorem withdrawLamp_held (h : (l.bay b).fal.lamp.state = .held) : withdrawShare e b .lamp l = l.modBay b (·.lampShare .none) := by
  have held : (shareOf l b .lamp).state = .held := h
  rw [withdrawShare, dropRequest_eq, held, if_neg nofun, if_neg nofun, if_pos rfl, setLamp_eq]

/-- R124, R126: while the committed load stays above the limit a release sets off no pass. -/
theorem releaseLamp_overcommitted (h : (l.bay b).fal.lamp.state = .admitted) (hover : l.fal.overcommit = true)
    (habove : e.params.feederLimit + (l.bay b).fal.lamp.amount < committed l) :
    releaseShare e b .lamp l = l.modBay b (·.lampShare .none) := by
  have admitted : (shareOf l b .lamp).state = .admitted := h
  have freed : dropShare b .lamp l = l.modBay b (·.lampShare .none) := setLamp_eq l b .none
  have stays : e.params.feederLimit < committed (l.modBay b (·.lampShare .none)) := by
    have load := committed_lampShare l b .none
    have released : (l.bay b).fal.lamp.load = (l.bay b).fal.lamp.amount := if_pos h
    have nothing : Share.none.load = 0 := rfl
    omega
  rw [releaseShare, freeShare, if_pos admitted, freed, judgeOvercommit, if_pos ⟨hover, stays⟩, finishPass_nil]

/-! ## The abort (R88) -/

/-- A bay whose sweep is aborted: LSW's frame and claim are withdrawn. -/
def BayRec.sweepAborted (r : BayRec) : BayRec :=
  { r with
    blm := r.blm.withdraw .lsw
    lsw := { r.lsw with sweep := .aborted, pointer := none, tries := 0, visits := 0 } }

/-- R88: with no heater pause to end, the abort is the record's, the share's and the report's. -/
theorem abortWith_eq {settleShare : Live → Live} (hmarker : (l.bay b).lsw.pauseMarker = false) :
    abortWith e judging false b settleShare l = reportSweep e judging b (settleShare (l.modBay b (·.sweepAborted))) := by
  have unpaused : endPause e b (l.modBay b (·.sweepAborted)) = l.modBay b (·.sweepAborted) := by
    rw [endPause, bay_modBay_self]
    exact if_neg (Bool.eq_false_iff.mp hmarker)
  have aborted : ((withdrawJob b .lsw l).modLsw b fun t =>
      { t with sweep := .aborted, pointer := none, tries := 0, visits := 0 }) =
      l.modBay b (·.sweepAborted) := by
    rw [withdrawJob, modBlm_eq, modLsw_eq, modBay_modBay]
    rfl
  simp only [abortWith, Bool.false_eq_true, false_and, if_false]
  split <;> rw [aborted, unpaused]

/-- R92: a gate that is what it was is not told. -/
theorem reportSweep_gated (h : (l.bay b).lsw.gate = lampGateNow e l b) :
    reportSweep e judging b l = addBayReason e b .lampDone l := by
  rw [reportSweep, evalLampGate, if_pos h]

/-- R88: the abort where the share is given back without a pass and the lamp gate stands. -/
theorem abortSweep_eq (hmarker : (l.bay b).lsw.pauseMarker = false) (hgate : (l.bay b).lsw.gate = lampGateNow e l b)
    (hsettled : (if (l.bay b).lsw.sweep = .waitPower then withdrawShare e b .lamp else releaseShare e b .lamp)
      (l.modBay b (·.sweepAborted)) = (l.modBay b (·.sweepAborted)).modBay b (·.lampShare .none)) :
    abortSweep e judging false b l =
      addBayReason e b .lampDone (l.modBay b fun r => r.sweepAborted.lampShare .none) := by
  have gate : ((l.modBay b fun r => r.sweepAborted.lampShare .none).bay b).lsw.gate =
      lampGateNow e (l.modBay b fun r => r.sweepAborted.lampShare .none) b := by
    rw [lampGateNow_congr (l := l) (by rw [bay_modBay_self]; rfl) ⟨_, by rw [bay_modBay_self]; rfl⟩, bay_modBay_self]
    exact hgate
  rw [abortSweep, abortWith_eq hmarker, hsettled, modBay_modBay]
  exact reportSweep_gated gate

/-! ## The operation (R78) -/

theorem lampStop_refused (h : (l.bay b).btb.occupancy ≠ .occupied) : lampStop e b l = (.state, l) := if_pos h

theorem lampStop_occupied (h : (l.bay b).btb.occupancy = .occupied) : lampStop e b l = (.done, stopSweep e true false b l) :=
  if_neg (not_not_intro h)

theorem lampStop_unswept (hocc : (l.bay b).btb.occupancy = .occupied) (hsweep : (l.bay b).lsw.sweep.inProgress = false) :
    lampStop e b l = (.done, l) := by
  rw [lampStop_occupied hocc, stopSweep, if_neg (Bool.eq_false_iff.mp hsweep)]

/-- R78, R88: the sweep in WAIT_POWER withdraws its HELD request, the RUNNING one releases its share and sets off no pass. -/
theorem lampStop_aborts (hocc : (l.bay b).btb.occupancy = .occupied)
    (hshare : ((l.bay b).lsw.sweep = .waitPower ∧ (l.bay b).fal.lamp.state = .held) ∨
      ((l.bay b).lsw.sweep = .running ∧ (l.bay b).fal.lamp.state = .admitted ∧ l.fal.overcommit = true ∧
        e.params.feederLimit + (l.bay b).fal.lamp.amount < committed l))
    (hmarker : (l.bay b).lsw.pauseMarker = false) (hgate : (l.bay b).lsw.gate = lampGateNow e l b) :
    lampStop e b l = (.done, addBayReason e b .lampDone (l.modBay b fun r => r.sweepAborted.lampShare .none)) := by
  have bay : (l.modBay b (·.sweepAborted)).bay b = (l.bay b).sweepAborted := bay_modBay_self _
  have progress : (l.bay b).lsw.sweep.inProgress = true := by
    obtain ⟨hsweep, -⟩ | ⟨hsweep, -⟩ := hshare <;> rw [hsweep] <;> rfl
  rw [lampStop_occupied hocc, stopSweep, if_pos progress, abortSweep_eq hmarker hgate]
  obtain ⟨hsweep, hheld⟩ | ⟨hsweep, hadmitted, hover, habove⟩ := hshare
  · rw [if_pos hsweep]
    exact withdrawLamp_held (by rw [bay]; exact hheld)
  · have running : ¬ (l.bay b).lsw.sweep = .waitPower := by rw [hsweep]; exact nofun
    have sameLoad : committed (l.modBay b (·.sweepAborted)) = committed l :=
      Nat.add_right_cancel (committed_modBay l b (·.sweepAborted))
    rw [if_neg running]
    exact releaseLamp_overcommitted (by rw [bay]; exact hadmitted) hover (by rw [bay, sameLoad]; exact habove)

theorem exec_lampStop {s : State} {status : Status} {bay : Byte} (tag : Byte) (hr : ready s = true)
    (hb : bay.toNat = bayNumber b) (h : lampStop s.dev.env b s.live = (status, l)) :
    exec (.lampStop tag bay) s = .next (s.answers tag 0x12 status l) :=
  congrArg Host.Outcome.next (submit_onBay (m := .lampStop bay) tag hr hb rfl rfl h)

/-- Settles O40: the operation by the bay's occupancy, then by what its sweep waits for or holds. -/
theorem lampStopAbortsTheSweep : Obligations.LampStopAbortsTheSweep := by
  intro s tag bay b hr hb
  exact ⟨fun hocc => exec_lampStop tag hr hb (lampStop_refused hocc),
    fun hocc hsweep => exec_lampStop tag hr hb (lampStop_unswept hocc hsweep),
    fun hocc hshare hmarker hgate => exec_lampStop tag hr hb (lampStop_aborts hocc hshare hmarker hgate)⟩

end Sys2Proof.Machine

/-! # A second of the timebase (R96, R145) -/
namespace Sys2Proof.Machine

variable {l : Live} {e : Env} {b : Bay}

/-- An action that leaves the part as it stands at each bay of a list leaves it so at all of them. -/
theorem forBays_idle_of_mem {g : Bay → Live → Live} {bays : List Bay} (h : ∀ c ∈ bays, g c l = l) : forBays bays g l = l := by
  induction bays with
  | nil => rfl
  | cons c bays ih =>
    obtain ⟨hc, hbays⟩ := List.forall_mem_cons.mp h
    exact (congrArg (forBays bays g) hc).trans (ih hbays)

/-- An action that is idle at every bay but one, before it has acted there and behind that, is its action there. -/
theorem forBays_single {g : Bay → Live → Live} {bays : List Bay} (honce : bays.Nodup) (hb : b ∈ bays)
    (before : ∀ c, c ≠ b → g c l = l) (behind : ∀ c, c ≠ b → g c (g b l) = g b l) : forBays bays g l = g b l := by
  induction bays with
  | nil => exact absurd hb List.not_mem_nil
  | cons c bays ih =>
    obtain ⟨hc, honce⟩ := List.nodup_cons.mp honce
    by_cases hcb : c = b
    · subst hcb
      exact forBays_idle_of_mem fun a ha => behind a fun h => hc (h ▸ ha)
    · exact (congrArg (forBays bays g) (before c hcb)).trans (ih honce ((List.mem_cons.mp hb).resolve_left (Ne.symm hcb)))

theorem frdTickBay_idle (h : (l.bay b).frd.status ≠ .clearing) : frdTickBay e b l = l := if_neg h

/-- R145: FRD's part a second later, its clear timer above 1 while it is CLEARING. -/
def FrdPart.ticked (c : FrdPart) : FrdPart :=
  { c with clearTimer := if c.status = .clearing then c.clearTimer - 1 else c.clearTimer }

theorem frdTickBay_counts (h : (l.bay b).frd.status = .clearing → 1 < (l.bay b).frd.clearTimer) :
    frdTickBay e b l = l.modFrd b FrdPart.ticked := by
  by_cases hclear : (l.bay b).frd.status = .clearing
  · have above : ¬ (l.bay b).frd.clearTimer ≤ 1 := Nat.not_le.mpr (h hclear)
    simp only [frdTickBay, hclear, if_true, above, if_false]
    exact modBay_congr l b _ _ (by simp [FrdPart.ticked, hclear])
  · rw [frdTickBay_idle hclear]
    exact (modBay_id l b _ (by simp [FrdPart.ticked, hclear])).symm

/-- R145 where one bay at most is CLEARING. -/
theorem frdTick_counts (hothers : ∀ c, c ≠ b → (l.bay c).frd.status ≠ .clearing)
    (h : (l.bay b).frd.status = .clearing → 1 < (l.bay b).frd.clearTimer) : frdTick e l = l.modFrd b FrdPart.ticked := by
  rw [← frdTickBay_counts (e := e) h]
  refine forBays_single (List.nodup_finRange 16) (List.mem_finRange b) (fun c hc => frdTickBay_idle (hothers c hc)) fun c hc => ?_
  rw [frdTickBay_counts h]
  exact frdTickBay_idle (by rw [bay_modFrd_ne _ hc]; exact hothers c hc)

/-- R96: below second 59 a tick is FRD's, and the second counts on. -/
theorem secondTick_counts {d : Dev} (ha : d.env.straps.addressed = true) (hsecond : d.env.clock.second < 59) :
    secondTick d =
      { env := { d.env with clock := { d.env.clock with second := d.env.clock.second + 1 } }
        live := frdTick d.env d.live } := by
  have ticked : event frdTick d = d.act frdTick := if_pos ha
  simp only [secondTick, ticked, Dev.act, Dev.modClock, hsecond, if_true]

theorem exec_secondTick (s : State) : exec .secondTick s = .next (s.becomes (secondTick s.dev)) := rfl

/-- Settles O31: FRD's tick acts at the one bay that may be CLEARING, and the clock counts on. -/
theorem secondTicksCountTheClockAndTheClearTimer : Obligations.SecondTicksCountTheClockAndTheClearTimer := by
  intro s b ha hsecond hothers htimer
  rw [exec_secondTick, secondTick_counts ha hsecond, frdTick_counts (l := s.dev.live) hothers htimer]
  rfl

end Sys2Proof.Machine

/-! # The departure list and the admission queue in their order (R97, R119, R121, R152) -/
namespace Sys2Proof.Machine

variable {e : Env} {b : Bay} {l : Live}

/-! ## Signed minute distance (R97) -/

theorem distance_range (a b : Nat) : -5040 ≤ distance a b ∧ distance a b ≤ 5039 := by
  unfold distance
  omega

/-- The reduction takes away whole weeks. -/
theorem distance_weeks (a b : Nat) : ∃ k : Int, distance a b = (a : Int) - (b : Int) + k * 10080 := by
  refine ⟨-(((a : Int) - b + 5040) / 10080), ?_⟩
  unfold distance
  omega

/-! ## The ordered list (R152) -/

/-- An entry stands behind the last of the list that may stand before it, and before the rest. -/
theorem insertAfter_split (upTo : DepEntry → Bool) (x : DepEntry) (list : List DepEntry) :
    ∃ front back, list = front ++ back ∧ insertAfter upTo x list = front ++ x :: back ∧ (∀ y ∈ back, upTo y = false) ∧
      ∀ y ∈ front.getLast?, upTo y = true := by
  induction list with
  | nil => exact ⟨[], [], rfl, rfl, by simp, by simp⟩
  | cons y rest ih =>
    by_cases h : (upTo y || rest.any upTo) = true
    · obtain ⟨front, back, hrest, hinsert, hback, hlast⟩ := ih
      have inserted : insertAfter upTo x (y :: rest) = y :: insertAfter upTo x rest := by rw [insertAfter, if_pos h]
      refine ⟨y :: front, back, by rw [hrest]; rfl, by rw [inserted, hinsert]; rfl, hback, fun z hz => ?_⟩
      cases front with
      | nil =>
        have behind : rest.any upTo = false := by simpa [hrest] using hback
        obtain rfl : y = z := by simpa using hz
        simpa [behind] using h
      | cons a front => exact hlast z (by simpa [List.getLast?_cons_cons] using hz)
    · refine ⟨[], y :: rest, rfl, by rw [insertAfter, if_neg h]; rfl, fun z hz => ?_, by simp⟩
      simp only [Bool.or_eq_true, List.any_eq_true, not_or, not_exists, not_and, Bool.not_eq_true] at h
      exact (List.mem_cons.mp hz).elim (fun heq => heq ▸ h.1) (h.2 z)

/-- R152: the place of an entry by its distance. -/
theorem insertEntry_split (e : Env) (x : DepEntry) (list : List DepEntry) :
    ∃ front back, list = front ++ back ∧ insertEntry e x list = front ++ x :: back ∧
      (∀ y ∈ back, x.distance e < y.distance e) ∧ ∀ y ∈ front.getLast?, y.distance e ≤ x.distance e := by
  simpa [insertEntry] using insertAfter_split (fun y => decide (y.distance e ≤ x.distance e)) x list

theorem ascending_iff (e : Env) (list : List DepEntry) :
    ascending e list = true ↔ list.IsChain fun x y => x.distance e ≤ y.distance e := by
  induction list with
  | nil => simp [ascending]
  | cons x rest ih =>
    cases rest with
    | nil => simp [ascending]
    | cons y rest => simp [ascending, ih]

theorem insertEntry_ascending {x : DepEntry} {list : List DepEntry} (h : ascending e list = true) :
    ascending e (insertEntry e x list) = true := by
  obtain ⟨front, back, hlist, hinsert, hback, hlast⟩ := insertEntry_split e x list
  rw [hlist, ascending_iff, List.isChain_append] at h
  obtain ⟨hfront, hchain, -⟩ := h
  rw [hinsert, ascending_iff, List.isChain_append, List.isChain_cons]
  exact ⟨hfront, ⟨fun y hy => (hback y (List.mem_of_head? hy)).le, hchain⟩, fun y hy z hz => by
    obtain rfl : x = z := by simpa using hz
    exact hlast y hy⟩

/-! ## The admission queue (R119) -/

/-- A request stands before the first that it has to precede. -/
theorem insertBefore_split (after : Bay × ShareKind → Bool) (x : Bay × ShareKind) (queue : List (Bay × ShareKind)) :
    ∃ front back, queue = front ++ back ∧ insertBefore after x queue = front ++ x :: back ∧ (∀ y ∈ front, after y = false) ∧
      ∀ y ∈ back.head?, after y = true := by
  induction queue with
  | nil => exact ⟨[], [], rfl, rfl, by simp, by simp⟩
  | cons y rest ih =>
    by_cases h : after y = true
    · exact ⟨[], y :: rest, rfl, by simp [insertBefore, h], nofun, by simpa using h⟩
    · obtain ⟨front, back, hrest, hinsert, hfront, hhead⟩ := ih
      exact ⟨y :: front, back, by rw [hrest]; rfl, by simp [insertBefore, h, hinsert],
        List.forall_mem_cons.mpr ⟨Bool.eq_false_iff.mpr h, hfront⟩, hhead⟩

theorem enqueue_split (e : Env) (x : Bay × ShareKind) (l : Live) :
    ∃ front back, l.fal.queue = front ++ back ∧
      enqueue e x l = { l with fal := { l.fal with queue := front ++ x :: back } } ∧
      (∀ y ∈ front, sortsBefore e l x y = false) ∧ ∀ y ∈ back.head?, sortsBefore e l x y = true := by
  obtain ⟨front, back, hqueue, hinsert, hfront, hhead⟩ := insertBefore_split (fun y => sortsBefore e l x y) x l.fal.queue
  exact ⟨front, back, hqueue, by rw [enqueue, hinsert], hfront, hhead⟩

/-- R119 steps 2 and 3 as one condition. -/
theorem beforeByKind_eq (kx ky : ShareKind) (sx sy : Quad) :
    beforeByKind kx ky sx sy = (decide (kx.rank < ky.rank) || (kx.rank == ky.rank && decide ((sx - sy).toInt < 0))) := by
  unfold beforeByKind earlierSequence
  rcases Nat.lt_trichotomy kx.rank ky.rank with h | h | h
  · simp [h]
  · simp [h]
  · simp [h, h.not_gt, h.ne']

/-- R119 step 1 as one condition, for two bays that have a key. -/
theorem before_by_distance (dx dy : Int) (inner : Bool) :
    (if dx < dy then true else if dy < dx then false else inner) = (decide (dx < dy) || (dx == dy && inner)) := by
  rcases lt_trichotomy dx dy with h | h | h
  · simp [h]
  · simp [h]
  · simp [h, h.not_gt, h.ne']

/-! ## A new key (R121) -/

theorem isQueued_iff {k : ShareKind} : isQueued l b k = true ↔ (shareOf l b k).state = .queued := beq_iff_eq

theorem not_isQueued {k : ShareKind} (h : ∀ k, (shareOf l b k).state ≠ .queued) : isQueued l b k = false :=
  Bool.eq_false_iff.mpr fun hq => h k (isQueued_iff.mp hq)

/-- Whether some request of a bay waits, as FAL asks it. -/
theorem anyQueued_iff : (isQueued l b .base || isQueued l b .lamp || isQueued l b .heat) = true ↔
    ∃ k, (shareOf l b k).state = .queued := by
  simp only [Bool.or_eq_true, isQueued_iff]
  constructor
  · rintro ((h | h) | h)
    · exact ⟨_, h⟩
    · exact ⟨_, h⟩
    · exact ⟨_, h⟩
  · rintro ⟨k, h⟩
    cases k with
    | base => exact .inl (.inl h)
    | lamp => exact .inl (.inr h)
    | heat => exact .inr h

/-- OVERCOMMIT keeps a pass from running. -/
theorem runPass_overcommitted (h : l.fal.overcommit = true) : runPass e l = l := by
  rw [runPass, admissionPass, if_pos h, finishPass_nil]

theorem setKey_same {key : Option Nat} (h : (l.bay b).fal.key = key) : setKey e b key l = l := if_pos h

theorem setKey_unqueued {key : Option Nat} (h : (l.bay b).fal.key ≠ key) (hnone : ∀ k, (shareOf l b k).state ≠ .queued) :
    setKey e b key l = l.modFal b fun f => { f with key := key } := by
  simp only [setKey, h, if_false, not_isQueued hnone, Bool.or_self]
  rfl

/-- The requests of a bay that wait are those that waited when its row has a new key and the queue has changed. -/
theorem isQueued_keyed {k : ShareKind} {key : Option Nat} {f : FalState} :
    isQueued { (l.modFal b fun f => { f with key := key }) with fal := f } b k = isQueued l b k := by
  have share : shareOf (l.modFal b fun f => { f with key := key }) b k = shareOf l b k := by
    rw [shareOf, bay_modFal_self]
    cases k <;> rfl
  exact congrArg (fun x : Share => x.state == .queued) share

theorem isQueued_requeue {k k' : ShareKind} : isQueued (requeue e b k l) b k' = isQueued l b k' := by
  unfold requeue
  split <;> rfl

theorem requeue_overcommit {k : ShareKind} : (requeue e b k l).fal.overcommit = l.fal.overcommit := by
  unfold requeue
  split <;> rfl

/-- A request placed again, told by whether it waited at first. -/
theorem requeue_eq {k : ShareKind} {l' : Live} (h : isQueued l' b k = isQueued l b k) :
    requeue e b k l' = if (shareOf l b k).state = .queued then enqueue e (b, k) l' else l' := by
  simp only [requeue, h, isQueued_iff]

/-- R121 with no pass behind it: the requests of the bay leave the queue and are placed afresh. -/
theorem setKey_requeues {key : Option Nat} (h : (l.bay b).fal.key ≠ key) (hover : l.fal.overcommit = true)
    (hqueued : ∃ k, (shareOf l b k).state = .queued) :
    setKey e b key l = requeue e b .heat (requeue e b .lamp (requeue e b .base
      { (l.modFal b fun f => { f with key := key }) with
        fal := { l.fal with queue := l.fal.queue.filter fun x => x.1 != b } })) := by
  simp only [setKey, h, if_false, anyQueued_iff.mpr hqueued, if_true]
  exact runPass_overcommitted (by simp only [requeue_overcommit]; exact hover)

/-- Settles O44: each list by how it parts at the place of what joins it, the order of requests by their keys, and the new key of
a bay by whether requests of it wait. -/
theorem entriesAreInsertedByDistance : Obligations.EntriesAreInsertedByDistance := by
  refine ⟨fun a b => ⟨(distance_range a b).1, (distance_range a b).2, distance_weeks a b⟩,
    fun e x list => ⟨insertEntry_split e x list, insertEntry_ascending⟩, enqueue_split, ?_,
    fun e b key l => ⟨setKey_same, setKey_unqueued, fun hkey hover => ?_⟩⟩
  · intro e l x y rank inner
    have hrank (z : Bay × ShareKind) : rank z = z.2.rank := by
      obtain ⟨c, k⟩ := z
      cases k <;> rfl
    have hinner : beforeByKind x.2 y.2 (shareOf l x.1 x.2).sequence (shareOf l y.1 y.2).sequence = inner := by
      rw [beforeByKind_eq, ← hrank, ← hrank]
    cases hx : (l.bay x.1).fal.key with
    | none =>
      cases hy : (l.bay y.1).fal.key with
      | none => simp only [sortsBefore, hx, hy, hinner]
      | some c => simp only [sortsBefore, hx, hy]
    | some a =>
      cases hy : (l.bay y.1).fal.key with
      | none => simp only [sortsBefore, hx, hy]
      | some c => simp only [sortsBefore, hx, hy, hinner, before_by_distance]
  · intro place hqueued
    rw [setKey_requeues hkey hover hqueued,
      requeue_eq (l := l) (k := .heat) (by rw [isQueued_requeue, isQueued_requeue, isQueued_keyed]),
      requeue_eq (l := l) (k := .lamp) (by rw [isQueued_requeue, isQueued_keyed]),
      requeue_eq (l := l) (k := .base) isQueued_keyed]

end Sys2Proof.Machine

/-! # The lead of a cabin (R65, R102 to R104) -/
namespace Sys2Proof.Machine

variable {e : Env} {b : Bay} {l : Live} {h : ProfileHeader} {target cabin outside : Int}

/-! ## The stages (R103) -/

/-- A quotient that covers `a` and does not cover it by a whole divisor more is `a` divided and rounded up. -/
theorem ceilDiv_eq {a d q : Nat} (hcovers : a ≤ q * d) (hleast : q * d < a + d) : ceilDiv a d = q := by
  rw [ceilDiv, Nat.div_eq_iff (by omega)]
  omega

/-- Stage 3: below a sum of 0 the loss is 0. -/
theorem heatLoss_eq (h : ProfileHeader) (target cabin outside : Int) :
    heatLoss h target cabin outside = h.lossFactor * (target + cabin - 2 * outside).toNat / 4 := by
  simp only [heatLoss]
  split
  · rename_i hsum
    simp [Int.toNat_of_nonpos hsum]
  · rfl

theorem computeLead_warm (hwarm : target ≤ cabin) : computeLead h target cabin outside = ⟨0, false, false⟩ :=
  if_pos (Int.sub_nonpos_of_le hwarm)

theorem computeLead_unreachable (hcold : cabin < target)
    (hloss : h.heaterPower * 100 - h.heaterPower * 100 / 8 ≤ heatLoss h target cabin outside) :
    computeLead h target cabin outside = ⟨240, true, false⟩ := by
  have heats : ¬ target - cabin ≤ 0 := by omega
  simp only [computeLead, heats, if_false, hloss, if_true, Config.leadMax]

/-- Stages 4 to 6: `seconds` and `minutes` are the heating time at the power that is left, each rounded up. -/
theorem computeLead_heats (hcold : cabin < target)
    (hloss : heatLoss h target cabin outside < h.heaterPower * 100 - h.heaterPower * 100 / 8) {seconds minutes : Nat}
    (hseconds : ceilDiv (h.heatCapacity * 500 * (target - cabin).toNat)
      (h.heaterPower * 100 - heatLoss h target cabin outside) = seconds) (hminutes : ceilDiv seconds 60 = minutes) :
    computeLead h target cabin outside =
      if 240 < minutes + h.margin then ⟨240, false, true⟩ else ⟨minutes + h.margin, false, false⟩ := by
  have heats : ¬ target - cabin ≤ 0 := by omega
  simp only [computeLead, heats, if_false, Nat.not_le.mpr hloss, hseconds, hminutes, Config.leadMax]

/-- What a lead can be. -/
structure LeadResult.Sound (x : LeadResult) : Prop where
  lead : x.lead ≤ 240
  unreachable : x.unreachable = true → x.lead = 240 ∧ x.capped = false
  capped : x.capped = true → x.lead = 240

theorem computeLead_sound (h : ProfileHeader) (target cabin outside : Int) : (computeLead h target cabin outside).Sound := by
  rcases lt_or_ge cabin target with hcold | hwarm
  · by_cases hloss : h.heaterPower * 100 - h.heaterPower * 100 / 8 ≤ heatLoss h target cabin outside
    · rw [computeLead_unreachable hcold hloss]
      exact ⟨Nat.le_refl 240, fun _ => ⟨rfl, rfl⟩, nofun⟩
    · rw [computeLead_heats hcold (Nat.not_le.mp hloss) rfl rfl]
      split
      · exact ⟨Nat.le_refl 240, nofun, fun _ => rfl⟩
      · rename_i hmargin
        exact ⟨Nat.not_lt.mp hmargin, nofun, nofun⟩
  · rw [computeLead_warm hwarm]
    exact ⟨Nat.zero_le 240, nofun, nofun⟩

/-! ## What of it a bay keeps (R65, R102, R104) -/

/-- The lead of a bay as PHP computes it now. -/
def bayLead (e : Env) (b : Bay) (l : Live) : LeadResult :=
  computeLead (profileOf e l b) (l.bay b).php.target (planningCabin e (l.bay b).scv) e.clock.outside

theorem computeBayLead_php : ((computeBayLead e b l).bay b).php =
    { (l.bay b).php with
      lead := (bayLead e b l).lead
      unreachable := (bayLead e b l).unreachable
      capped := (bayLead e b l).capped
      staleCabin := cabinStale (l.bay b).scv } := by
  simp only [computeBayLead, bayLead]
  split
  · rw [addBayReason, addReason_bay, bay_modPhp_self]
  · rw [bay_modPhp_self]

theorem computeBayLead_reports : (computeBayLead e b l).reports =
    if (bayLead e b l).unreachable = true ∧ (l.bay b).php.unreachable = false then
      l.reports.add e.params.reportMask (.bay b) .heat
    else l.reports := apply_ite Live.reports _ _ _

/-- Settles O54: the stages each by the lemma that says them, and the bay by what it keeps. -/
theorem leadsStayWithinFourHours : Obligations.LeadsStayWithinFourHours := by
  refine ⟨fun h target cabin outside => ?_, fun e b l => ⟨computeBayLead_php, computeBayLead_reports⟩⟩
  obtain ⟨hlead, hunreachable, hcapped⟩ := computeLead_sound h target cabin outside
  rw [← heatLoss_eq]
  refine ⟨hlead, hunreachable, hcapped, computeLead_warm, computeLead_unreachable,
    fun hcold hloss net seconds minutes hnet hcovers hleast hminutes hround => ?_⟩
  have left : h.heaterPower * 100 - heatLoss h target cabin outside = net := by omega
  have heated : ceilDiv (h.heatCapacity * 500 * (target - cabin).toNat)
      (h.heaterPower * 100 - heatLoss h target cabin outside) = seconds := by
    rw [left]
    exact ceilDiv_eq hcovers hleast
  have rounded : ceilDiv seconds 60 = minutes := ceilDiv_eq (by omega) (by omega)
  exact computeLead_heats hcold hloss heated rounded

end Sys2Proof.Machine

/-! # A plan that outlives its coach (R101, R112, R152, R161)

The laws of the shares are no step lemma without R152's rule that a bay has one entry at most: where two entries are bound to a bay,
step 6 of a teardown ends the first, and PHP, told of it while the bay still reads OCCUPIED, plans the bay for the second. -/
namespace Sys2Proof.Machine

/-- A PREPARING entry with a target that is bound to bay 1 and departs at minute 1,000. -/
def plannedDeparture (id : Nat) : DepEntry :=
  { id := id, minute := 1000, bay := some 0, coach := none, target := some 20, gates := ⟨false, false, false⟩,
    state := .preparing, clamped := false, mismatch := false, late := false, held := false }

/-- Bay 1 is OCCUPIED with two entries bound to it, and the reply that comes to its POLL shows the plug OUT. -/
def twiceBound : State :=
  { dev :=
      { env := .reset .initial
        live :=
          { Live.reset.modBtb 0 fun r => { r with occupancy := .occupied } with
            walk := { Walk.reset with slot := some ⟨.exchange 0 .poll, 4, .counts⟩ }
            departures := [plannedDeparture 1, plannedDeparture 2] } }
    pending := [.exchangeReply (replyBytes 0 0x00 0x00 [])] }

theorem twiceBound_lawful : (∀ b : Bay, ownerLaw (twiceBound.bay b) = true) ∧ queueLaw twiceBound.live = true ∧
    overcommitLaw twiceBound.dev.env twiceBound.live = true ∧ feederLaw twiceBound.dev.env twiceBound.live = true := by
  decide +kernel

/-- The bay that the reply leaves is VACANT and has a plan. -/
theorem twiceBound_step : ∃ t, step twiceBound = .next t ∧ (t.bay 0).btb.occupancy = .vacant ∧ (t.bay 0).php.state = .planned :=
  ⟨_, rfl, by decide +kernel⟩

/-- R101: only the plan of an OCCUPIED bay agrees with the rest of its record. -/
theorem occupied_of_plan {r : BayRec} (h : ownerLaw r = true) (hplan : r.php.state ≠ .none) : r.btb.occupancy = .occupied := by
  simp only [ownerLaw, Bool.and_eq_true] at h
  obtain ⟨⟨⟨-, hvacancy⟩, -⟩, -⟩ := h
  simp only [vacancyLaw, Bool.and_eq_true, Bool.or_eq_true, beq_iff_eq] at hvacancy
  exact hvacancy.1.resolve_right fun hnone => hplan hnone.2

/-- Refutes O55: its premises do not say that a bay has one entry at most (R152), and with two a teardown leaves a VACANT bay with
a plan, against `vacancyLaw`. -/
theorem not_anAdmittedHeatShareHeatsTheBay : ¬ Obligations.AnAdmittedHeatShareHeatsTheBay := by
  rintro ⟨-, -, keeps⟩
  obtain ⟨howner, hqueue, hover, hfeeder⟩ := twiceBound_lawful
  obtain ⟨t, hstep, hvacant, hplan⟩ := twiceBound_step
  obtain ⟨howner', -, -, -⟩ := keeps twiceBound t howner hqueue hover hfeeder hstep
  have hoccupied : (t.bay 0).btb.occupancy = .occupied := occupied_of_plan (howner' 0) (by rw [hplan]; exact nofun)
  exact absurd (hvacant.symm.trans hoccupied) nofun

end Sys2Proof.Machine

/-! # What an admission pass does (R117, R118, R122, R126)

A pass is a chain of grants, each of which fitted when it was made. What it does to the shares, the load and the queue is an induction
over that chain; that it leaves nothing it would admit is a matter of its rounds alone. -/
namespace Sys2Proof.Machine

variable {e : Env} {b c : Bay} {j k : ShareKind} {l l' l'' : Live} {x y : Bay × ShareKind} {told more : List (Bay × ShareKind)}
  {st : ShareState}

/-! ## Shares and the load (R117) -/

theorem share_setShare (f : FalPart) (s : Share) : (f.setShare k s).share j = if j = k then s else f.share j := by
  cases j <;> cases k <;> rfl

theorem load_setShare (f : FalPart) (s : Share) : (f.setShare k s).load + (f.share k).load = f.load + s.load := by
  cases k <;> simp only [FalPart.load, FalPart.setShare, FalPart.share] <;> omega

/-- One share is written, and the others stand. -/
theorem shareOf_setShare (g : FalPart → Share) : shareOf (l.modFal b fun f => f.setShare k (g f)) c j =
    if (c, j) = (b, k) then g (l.bay b).fal else shareOf l c j := by
  by_cases hc : c = b
  · subst hc
    simp [shareOf, share_setShare]
  · simp [shareOf, hc]

/-- The load follows the share written. -/
theorem committed_setShare (g : FalPart → Share) : committed (l.modFal b fun f => f.setShare k (g f)) + (shareOf l b k).load =
    committed l + (g (l.bay b).fal).load := by
  have record := committed_modBay l b fun r => { r with fal := r.fal.setShare k (g r.fal) }
  have share := load_setShare (k := k) (l.bay b).fal (g (l.bay b).fal)
  rw [modFal_eq, shareOf]
  dsimp only at record
  omega

theorem load_admitted {s : Share} (h : s.state = .admitted) : s.load = s.amount := if_pos h

theorem load_unadmitted {s : Share} (h : s.state ≠ .admitted) : s.load = 0 := if_neg h

/-! ## One grant (R118, R122) -/

/-- A share in another state: its amount and sequence stand. -/
def Share.to (st : ShareState) (s : Share) : Share := { s with state := st }

@[simp] theorem to_state (s : Share) : (s.to st).state = st := rfl

@[simp] theorem to_self (s : Share) : s.to s.state = s := rfl

/-- The state of a share behind a pass that has admitted the requests told: that of its own request is ADMITTED, and a HELD share has
joined the queue behind the base share. -/
def passedState (told : List (Bay × ShareKind)) (b : Bay) (k : ShareKind) (st : ShareState) : ShareState :=
  if (b, k) ∈ told then .admitted else if st = .held ∧ k ≠ .base ∧ (b, .base) ∈ told then .queued else st

/-- A share behind a pass: its amount and sequence stand. -/
def Share.passed (told : List (Bay × ShareKind)) (b : Bay) (k : ShareKind) (s : Share) : Share :=
  s.to (passedState told b k s.state)

theorem passedState_nil : passedState [] b k st = st := by simp [passedState]

/-- What was admitted first and what came behind it is one pass. -/
theorem passedState_cons : passedState (x :: told) b k st = passedState told b k (passedState [x] b k st) := by
  by_cases hx : (b, k) = x
  · simp [passedState, hx]
  · by_cases hk : k = .base
    · subst hk
      by_cases hmem : (b, ShareKind.base) ∈ told <;> simp [passedState, hx, hmem]
    · by_cases hheld : st = .held <;> by_cases hbase : (b, ShareKind.base) = x <;> simp [passedState, hx, hk, hheld, hbase]

theorem shareOf_setShareState : shareOf (setShareState b k st l) c j =
    if (c, j) = (b, k) then (shareOf l b k).to st else shareOf l c j :=
  shareOf_setShare fun f => (f.share k).to st

theorem committed_setShareState : committed (setShareState b k st l) + (shareOf l b k).load =
    committed l + ((shareOf l b k).to st).load := committed_setShare fun f => (f.share k).to st

theorem shareOf_releaseHeld : shareOf (releaseHeld e b k l) c j =
    if (c, j) = (b, k) ∧ (shareOf l c j).state = .held then (shareOf l c j).to .queued else shareOf l c j := by
  have queued : shareOf (enqueue e (b, k) (setShareState b k .queued l)) c j = _ := shareOf_setShareState
  unfold releaseHeld
  by_cases hx : (c, j) = (b, k)
  · obtain ⟨rfl, rfl⟩ := Prod.mk.inj hx
    split <;> simp [*]
  · split <;> simp [*]

/-- A grant is a pass of one request. -/
theorem shareOf_grantShare : shareOf (grantShare e x l) b k = (shareOf l b k).passed [x] b k := by
  obtain ⟨c, j⟩ := x
  have admitted (i : ShareKind) : shareOf (setShareState c j .admitted (dequeue (c, j) l)) b i =
      if (b, i) = (c, j) then (shareOf l c j).to .admitted else shareOf l b i := shareOf_setShareState
  by_cases hb : b = c
  · subst hb
    cases j <;> cases k <;> simp [grantShare, shareOf_releaseHeld, admitted, Share.passed, passedState]
    case base.lamp => split <;> rfl
    case base.heat => split <;> rfl
  · cases j <;> simp [grantShare, shareOf_releaseHeld, admitted, Share.passed, passedState, hb]

theorem committed_enqueue : committed (enqueue e x l) = committed l := rfl

theorem committed_releaseHeld : committed (releaseHeld e b k l) = committed l := by
  unfold releaseHeld
  split
  · next h =>
    have load := committed_setShareState (l := l) (b := b) (k := k) (st := .queued)
    rw [load_unadmitted (by simp [h]), load_unadmitted (by simp)] at load
    rw [committed_enqueue]
    exact Nat.add_right_cancel load
  · rfl

/-- The load grows by the amount of the request, unless it was in the load before. -/
theorem committed_grantShare : committed (grantShare e x l) + (shareOf l x.1 x.2).load =
    committed l + (shareOf l x.1 x.2).amount := by
  have load := committed_setShareState (l := dequeue x l) (b := x.1) (k := x.2) (st := .admitted)
  rw [load_admitted (to_state _)] at load
  have released : committed (grantShare e x l) = committed (setShareState x.1 x.2 .admitted (dequeue x l)) := by
    simp only [grantShare]
    split
    · rw [committed_releaseHeld, committed_releaseHeld]
    · rfl
  rw [released]
  exact load

theorem committed_grantShare_le (h : fits e l x = true) : committed (grantShare e x l) ≤ e.params.feederLimit := by
  have load := committed_grantShare (e := e) (l := l) (x := x)
  have fit : committed l + (shareOf l x.1 x.2).amount ≤ e.params.feederLimit := of_decide_eq_true h
  omega

theorem releaseHeld_overcommit : (releaseHeld e b k l).fal.overcommit = l.fal.overcommit := by
  unfold releaseHeld
  split <;> rfl

theorem grantShare_overcommit : (grantShare e x l).fal.overcommit = l.fal.overcommit := by
  simp only [grantShare]
  split
  · rw [releaseHeld_overcommit, releaseHeld_overcommit]
    rfl
  · rfl

/-! ## The queue (R119, R123) -/

theorem queueLaw_iff : queueLaw l = true ↔ ∀ x ∈ l.fal.queue, (shareOf l x.1 x.2).state = .queued := by simp [queueLaw]

theorem mem_enqueue : y ∈ (enqueue e x l).fal.queue ↔ y = x ∨ y ∈ l.fal.queue := by
  obtain ⟨front, back, hqueue, henqueue, -⟩ := enqueue_split e x l
  rw [henqueue, hqueue]
  simp [or_left_comm]

theorem mem_dequeue : y ∈ (dequeue x l).fal.queue ↔ y ∈ l.fal.queue ∧ y ≠ x := by simp [dequeue]

theorem length_enqueue : (enqueue e x l).fal.queue.length = l.fal.queue.length + 1 := by
  obtain ⟨front, back, hqueue, henqueue, -⟩ := enqueue_split e x l
  rw [henqueue, hqueue]
  simp
  omega

/-- A QUEUED share joins the queue. -/
theorem queueLaw_enqueue (h : queueLaw l = true) (hx : (shareOf l x.1 x.2).state = .queued) : queueLaw (enqueue e x l) = true := by
  rw [queueLaw_iff] at h ⊢
  intro y hy
  obtain rfl | hy := mem_enqueue.mp hy
  · exact hx
  · exact h y hy

/-- Requests leave the queue. -/
theorem queueLaw_filter (h : queueLaw l = true) (p : Bay × ShareKind → Bool) :
    queueLaw { l with fal := { l.fal with queue := l.fal.queue.filter p } } = true := by
  rw [queueLaw_iff] at h ⊢
  exact fun y hy => h y (List.mem_filter.mp hy).1

/-- A share is written whose request does not wait, or which is QUEUED afterwards. -/
theorem queueLaw_setShare {g : FalPart → Share} (h : queueLaw l = true)
    (hk : (b, k) ∉ l.fal.queue ∨ (g (l.bay b).fal).state = .queued) :
    queueLaw (l.modFal b fun f => f.setShare k (g f)) = true := by
  rw [queueLaw_iff] at h ⊢
  intro y hy
  rw [shareOf_setShare]
  split
  · next hbk => exact hk.resolve_left fun hout => hout (hbk ▸ hy)
  · exact h y hy

/-- A share that is not QUEUED has no request in the queue. -/
theorem not_mem_queue (h : queueLaw l = true) (hk : (shareOf l b k).state ≠ .queued) : (b, k) ∉ l.fal.queue :=
  fun hmem => hk (queueLaw_iff.mp h _ hmem)

theorem queueLaw_releaseHeld (h : queueLaw l = true) : queueLaw (releaseHeld e b k l) = true := by
  unfold releaseHeld
  split
  · refine queueLaw_enqueue (queueLaw_setShare h (.inr rfl)) ?_
    exact congrArg Share.state (shareOf_setShareState.trans (if_pos rfl))
  · exact h

theorem queueLaw_grantShare (h : queueLaw l = true) : queueLaw (grantShare e x l) = true := by
  have admitted : queueLaw (setShareState x.1 x.2 .admitted (dequeue x l)) = true :=
    queueLaw_setShare (queueLaw_filter h _) (.inl fun hmem => (mem_dequeue.mp hmem).2 rfl)
  simp only [grantShare]
  split
  · exact queueLaw_releaseHeld (queueLaw_releaseHeld admitted)
  · exact admitted

/-! ## The requests still to be granted -/

/-- The HELD requests of a bay's row. -/
def FalPart.heldCount (f : FalPart) : Nat := (f.lamp.state == .held).toNat + (f.heat.state == .held).toNat

/-- The requests that a pass may still grant: those that wait, and those that a base share brings into the queue. -/
def openRequests (l : Live) : Nat := l.fal.queue.length + (allBays.map fun b => (l.bay b).fal.heldCount).sum

/-- A sum over the bays follows what it takes of one changed record. -/
theorem sum_modBay (g : BayRec → Nat) (f : BayRec → BayRec) : (allBays.map fun c => g ((l.modBay b f).bay c)).sum + g (l.bay b) =
    (allBays.map fun c => g (l.bay c)).sum + g (f (l.bay b)) := by
  have parted (k : Live) : (allBays.map fun c => g (k.bay c)).sum = g (k.bay b) + ∑ c ∈ Finset.univ.erase b, g (k.bay c) := by
    rw [Finset.add_sum_erase _ (fun c => g (k.bay c)) (Finset.mem_univ b), allBays, Fin.sum_univ_def]
  have others : ∑ c ∈ Finset.univ.erase b, g ((l.modBay b f).bay c) = ∑ c ∈ Finset.univ.erase b, g (l.bay c) :=
    Finset.sum_congr rfl fun c hc => by rw [bay_modBay_ne f (Finset.ne_of_mem_erase hc)]
  rw [parted, parted l, others, bay_modBay_self]
  omega

theorem openRequests_setShareState : openRequests (setShareState b k st l) + (l.bay b).fal.heldCount =
    openRequests l + ((l.bay b).fal.setShare k ((shareOf l b k).to st)).heldCount := by
  have sum : (allBays.map fun c => ((setShareState b k st l).bay c).fal.heldCount).sum + (l.bay b).fal.heldCount =
      (allBays.map fun c => (l.bay c).fal.heldCount).sum +
        ((l.bay b).fal.setShare k ((shareOf l b k).to st)).heldCount := sum_modBay (fun r => r.fal.heldCount) _
  have queue : (setShareState b k st l).fal.queue = l.fal.queue := rfl
  simp only [openRequests, queue]
  omega

/-- An admission holds no more than before. -/
theorem heldCount_admitted (f : FalPart) (s : Share) (hs : s.state ≠ .held) : (f.setShare k s).heldCount ≤ f.heldCount := by
  have none : (s.state == .held) = false := by simpa using hs
  cases k <;> simp [FalPart.heldCount, FalPart.setShare, none]

/-- A HELD request that joins the queue is still one to be granted. -/
theorem openRequests_releaseHeld (hk : k ≠ .base) : openRequests (releaseHeld e b k l) = openRequests l := by
  unfold releaseHeld
  split
  · next h =>
    have counted := openRequests_setShareState (l := l) (b := b) (k := k) (st := .queued)
    have joined : openRequests (enqueue e (b, k) (setShareState b k .queued l)) = openRequests (setShareState b k .queued l) + 1 := by
      simp only [openRequests, length_enqueue]
      simp only [enqueue, Live.bay]
      omega
    have left : ((l.bay b).fal.setShare k ((shareOf l b k).to .queued)).heldCount + 1 = (l.bay b).fal.heldCount := by
      cases k with
      | base => exact absurd rfl hk
      | lamp =>
        have held : (l.bay b).fal.lamp.state = .held := h
        simp [FalPart.heldCount, FalPart.setShare, held, Nat.add_comm]
      | heat =>
        have held : (l.bay b).fal.heat.state = .held := h
        simp [FalPart.heldCount, FalPart.setShare, held]
    omega
  · rfl

theorem openRequests_grantShare : openRequests (grantShare e x l) ≤ openRequests (dequeue x l) := by
  have counted := openRequests_setShareState (l := dequeue x l) (b := x.1) (k := x.2) (st := .admitted)
  have fewer := heldCount_admitted (k := x.2) ((dequeue x l).bay x.1).fal
    ((shareOf (dequeue x l) x.1 x.2).to .admitted) (by simp)
  simp only [grantShare]
  split
  · rw [openRequests_releaseHeld (by simp), openRequests_releaseHeld (by simp)]
    omega
  · omega

theorem openRequests_dequeue_le : openRequests (dequeue x l) ≤ openRequests l :=
  Nat.add_le_add_right (List.length_filter_le _ _) _

theorem openRequests_dequeue_lt (h : x ∈ l.fal.queue) : openRequests (dequeue x l) < openRequests l :=
  Nat.add_lt_add_right (List.length_filter_lt_length_iff_exists.mpr ⟨x, h, by simp⟩) _

theorem openRequests_lt_requestBound : openRequests l < requestBound l := by
  have two (f : FalPart) : f.heldCount ≤ 2 := Nat.add_le_add (Bool.toNat_le _) (Bool.toNat_le _)
  have all : (allBays.map fun b => (l.bay b).fal.heldCount).sum ≤ (allBays.map fun b => (l.bay b).fal.heldCount).length • 2 :=
    List.sum_le_card_nsmul _ _ fun n hn => by
      obtain ⟨b, -, rfl⟩ := List.mem_map.mp hn
      exact two _
  have sixteen : (allBays.map fun b => (l.bay b).fal.heldCount).length = 16 := by simp [allBays]
  rw [sixteen, smul_eq_mul] at all
  simp only [openRequests, requestBound]
  omega

/-! ## A chain of grants (R122) -/

/-- Requests granted one behind the other, each of which fitted in its turn. -/
inductive Grants (e : Env) : Live → List (Bay × ShareKind) → Live → Prop
  | none (l : Live) : Grants e l [] l
  | grant {l l' : Live} {x : Bay × ShareKind} {told : List (Bay × ShareKind)} (fit : fits e l x = true)
      (rest : Grants e (grantShare e x l) told l') : Grants e l (x :: told) l'

theorem Grants.append (h : Grants e l told l') (h' : Grants e l' more l'') : Grants e l (told ++ more) l'' := by
  induction h with
  | none l => exact h'
  | grant fit _ ih => exact .grant fit (ih h')

theorem Grants.eq_of_nil (h : Grants e l [] l') : l' = l := by cases h; rfl

/-- Each share is behind the chain what a pass makes of it. -/
theorem Grants.share (h : Grants e l told l') (b : Bay) (k : ShareKind) : shareOf l' b k = (shareOf l b k).passed told b k := by
  induction h with
  | none l => simp [Share.passed, passedState_nil]
  | @grant l l' x told fit _ ih =>
    rw [ih, shareOf_grantShare]
    exact congrArg (fun st => (shareOf l b k).to st) passedState_cons.symm

theorem Grants.overcommit (h : Grants e l told l') : l'.fal.overcommit = l.fal.overcommit := by
  induction h with
  | none l => rfl
  | grant fit _ ih => rw [ih, grantShare_overcommit]

/-- No admission carries the load above the limit. -/
theorem Grants.committed_le (h : Grants e l told l') (hl : committed l ≤ e.params.feederLimit) :
    committed l' ≤ e.params.feederLimit := by
  induction h with
  | none l => exact hl
  | grant fit _ ih => exact ih (committed_grantShare_le fit)

theorem Grants.queueLaw (h : Grants e l told l') (hl : queueLaw l = true) : queueLaw l' = true := by
  induction h with
  | none l => exact hl
  | grant fit _ ih => exact ih (queueLaw_grantShare hl)

theorem Grants.openRequests_le (h : Grants e l told l') : openRequests l' ≤ openRequests l := by
  induction h with
  | none l => exact le_rfl
  | grant fit _ ih => exact ih.trans (openRequests_grantShare.trans openRequests_dequeue_le)

/-- A chain that begins with a request that waits leaves fewer. -/
theorem Grants.openRequests_lt (h : Grants e l told l') (hne : told ≠ []) (hfirst : ∀ x ∈ told.head?, x ∈ l.fal.queue) :
    openRequests l' < openRequests l := by
  cases h with
  | none => exact absurd rfl hne
  | grant fit rest =>
    calc openRequests l' ≤ _ := rest.openRequests_le
      _ ≤ _ := openRequests_grantShare
      _ < openRequests l := openRequests_dequeue_lt (hfirst _ rfl)

/-! ## The rounds of a pass (R122) -/

/-- Part of a pass that had told of some admissions: a chain of grants more, the first of a list of candidates. -/
def Admits (e : Env) (candidates : List (Bay × ShareKind)) (s s' : Live × List (Bay × ShareKind)) : Prop :=
  ∃ more, s'.2 = s.2 ++ more ∧ Grants e s.1 more s'.1 ∧ ∀ x ∈ more.head?, x ∈ candidates

theorem Admits.none (candidates : List (Bay × ShareKind)) (s : Live × List (Bay × ShareKind)) : Admits e candidates s s :=
  ⟨[], by simp, .none _, by simp⟩

/-- A candidate that fits is admitted, and more behind it. -/
theorem Admits.grant {candidates others : List (Bay × ShareKind)} {s' : Live × List (Bay × ShareKind)} (hx : x ∈ candidates)
    (fit : fits e l x = true) (h : Admits e others (grantShare e x l, told ++ [x]) s') : Admits e candidates (l, told) s' := by
  obtain ⟨more, htold, hgrants, -⟩ := h
  exact ⟨x :: more, by simpa using htold, .grant fit hgrants, by simpa using hx⟩

/-- Once a candidate has been admitted something more is told. -/
theorem Admits.told_ne {others : List (Bay × ShareKind)} {s' : Live × List (Bay × ShareKind)}
    (h : Admits e others (grantShare e x l, told ++ [x]) s') : s'.2 ≠ told := by
  obtain ⟨more, htold, -, -⟩ := h
  rw [htold]
  simp

theorem admitHeads_admits (n : Nat) (l : Live) (told : List (Bay × ShareKind)) :
    Admits e l.fal.queue (l, told) (admitHeads e n (l, told)) := by
  induction n generalizing l told with
  | zero => exact .none _ _
  | succ n ih =>
    unfold admitHeads
    split
    · exact .none _ _
    · next x rest hqueue =>
      split
      · next fit => exact .grant (by simp [hqueue]) fit (ih _ _)
      · exact .none _ _

/-- Where no head is admitted the head does not fit. -/
theorem admitHeads_idle {n : Nat} (h : (admitHeads e (n + 1) (l, told)).2 = told) :
    ∀ x ∈ l.fal.queue.head?, fits e l x = false := by
  unfold admitHeads at h
  split at h
  · next hqueue => simp [hqueue]
  · next x rest hqueue =>
    split at h
    · exact absurd h (admitHeads_admits _ _ _).told_ne
    · next unfit => simpa [hqueue] using unfit

theorem passLamps_admits (xs : List (Bay × ShareKind)) (l : Live) (told : List (Bay × ShareKind)) :
    Admits e xs (l, told) (passLamps e xs (l, told)) := by
  induction xs generalizing l told with
  | nil => exact .none _ _
  | cons x xs ih =>
    unfold passLamps
    split
    · next fit => exact .grant (by simp) fit.2 (ih _ _)
    · obtain ⟨more, htold, hgrants, hfirst⟩ := ih l told
      exact ⟨more, htold, hgrants, fun y hy => List.mem_cons_of_mem _ (hfirst y hy)⟩

/-- Where no LAMP request is admitted none of them fits. -/
theorem passLamps_idle (xs : List (Bay × ShareKind)) (h : (passLamps e xs (l, told)).2 = told) :
    ∀ x ∈ xs, x.2 = .lamp → fits e l x = false := by
  induction xs with
  | nil => simp
  | cons x xs ih =>
    unfold passLamps at h
    split at h
    · exact absurd h (passLamps_admits _ _ _).told_ne
    · next unfit =>
      refine List.forall_mem_cons.mpr ⟨fun hlamp => ?_, ih h⟩
      exact Bool.eq_false_iff.mpr fun fit => unfit ⟨hlamp, fit⟩

/-- A round admits of the requests that wait, heads first. -/
theorem passRound_admits (l : Live) : Admits e l.fal.queue (l, []) (passRound e l) := by
  obtain ⟨heads, htold, hheads, hfirst⟩ := admitHeads_admits (e := e) (requestBound l) l []
  obtain ⟨lamps, htold', hlamps, hfirst'⟩ := passLamps_admits (e := e) (admitHeads e (requestBound l) (l, [])).1.fal.queue.tail
    (admitHeads e (requestBound l) (l, [])).1 (admitHeads e (requestBound l) (l, [])).2
  refine ⟨heads ++ lamps, htold'.trans (congrArg (· ++ lamps) htold), hheads.append hlamps, fun x hx => ?_⟩
  cases heads with
  | nil =>
    rw [hheads.eq_of_nil] at hfirst'
    exact List.mem_of_mem_tail (hfirst' x hx)
  | cons y heads => exact hfirst x hx

/-- What `servedLaw` says. -/
theorem servedLaw_iff : servedLaw e l = true ↔ l.fal.overcommit = true ∨
    (∀ x ∈ l.fal.queue.head?, fits e l x = false) ∧ ∀ x ∈ l.fal.queue, x.2 = .lamp → fits e l x = false := by
  simp [servedLaw, Option.all_eq_true, ← imp_iff_not_or]

/-- A round that admits nothing leaves the row as it is, and nothing that a pass would admit. -/
theorem passRound_idle (h : (passRound e l).2 = []) : (passRound e l).1 = l ∧ servedLaw e l = true := by
  obtain ⟨heads, htold, hheads, -⟩ := admitHeads_admits (e := e) (requestBound l) l []
  obtain ⟨lamps, htold', hlamps, -⟩ := passLamps_admits (e := e) (admitHeads e (requestBound l) (l, [])).1.fal.queue.tail
    (admitHeads e (requestBound l) (l, [])).1 (admitHeads e (requestBound l) (l, [])).2
  have nothing : heads ++ lamps = [] := (htold'.trans (congrArg (· ++ lamps) htold)).symm.trans h
  obtain ⟨rfl, rfl⟩ := List.append_eq_nil_iff.mp nothing
  have hlast : (passRound e l).1 = _ := hlamps.eq_of_nil
  rw [hheads.eq_of_nil] at hlast
  have unfitHead := admitHeads_idle htold
  have unfitLamp := passLamps_idle _ (htold'.trans (List.append_nil _))
  rw [hheads.eq_of_nil] at unfitLamp
  refine ⟨hlast, servedLaw_iff.mpr (.inr ⟨unfitHead, fun x hx hlamp => ?_⟩)⟩
  cases hqueue : l.fal.queue with
  | nil => simp [hqueue] at hx
  | cons y rest =>
    rw [hqueue] at hx unfitHead unfitLamp
    obtain rfl | hx := List.mem_cons.mp hx
    · exact unfitHead _ rfl
    · exact unfitLamp x hx hlamp

theorem passRounds_grants (n : Nat) (l : Live) (told : List (Bay × ShareKind)) :
    ∃ more, (passRounds e n l told).2 = told ++ more ∧ Grants e l more (passRounds e n l told).1 := by
  induction n generalizing l told with
  | zero => exact ⟨[], by simp [passRounds], .none l⟩
  | succ n ih =>
    obtain ⟨more, htold, hgrants, -⟩ := passRound_admits (e := e) l
    simp only [passRounds]
    split
    · next hidle =>
      rw [(passRound_idle (List.isEmpty_iff.mp hidle)).1]
      exact ⟨[], by simp, .none l⟩
    · obtain ⟨rest, htold', hgrants'⟩ := ih (passRound e l).1 (told ++ (passRound e l).2)
      exact ⟨more ++ rest, by rw [htold', htold]; simp, hgrants.append hgrants'⟩

/-- The rounds come to an end before their bound does, since each but the last leaves fewer requests to be granted. -/
theorem passRounds_served (n : Nat) (l : Live) (told : List (Bay × ShareKind)) (hn : openRequests l < n) :
    servedLaw e (passRounds e n l told).1 = true := by
  induction n generalizing l told with
  | zero => omega
  | succ n ih =>
    obtain ⟨more, htold, hgrants, hfirst⟩ := passRound_admits (e := e) l
    simp only [passRounds]
    split
    · next hidle =>
      obtain ⟨hsame, hserved⟩ := passRound_idle (List.isEmpty_iff.mp hidle)
      rw [hsame]
      exact hserved
    · next hbusy =>
      have fewer := hgrants.openRequests_lt (fun hnil => hbusy (by rw [htold, hnil]; rfl)) hfirst
      exact ih _ _ (Nat.lt_of_lt_of_le fewer (Nat.le_of_lt_succ hn))

/-! ## The pass (R122) -/

theorem admissionPass_overcommitted (h : l.fal.overcommit = true) : admissionPass e l = (l, []) := if_pos h

theorem admissionPass_grants (e : Env) (l : Live) : Grants e l (admissionPass e l).2 (admissionPass e l).1 := by
  unfold admissionPass
  split
  · exact .none l
  · obtain ⟨more, htold, hgrants⟩ := passRounds_grants (e := e) (requestBound l) l []
    rw [htold]
    exact hgrants

theorem admissionPass_served (e : Env) (l : Live) : servedLaw e (admissionPass e l).1 = true := by
  unfold admissionPass
  split
  · next h => exact servedLaw_iff.mpr (.inl h)
  · exact passRounds_served _ _ _ openRequests_lt_requestBound

end Sys2Proof.Machine

/-! # The feeder laws and what keeps them (R115, R122, R123, R126)

OVERCOMMIT, the queue and what a pass would admit are a matter of the limit, FAL's row state and the shares. `FeederKept` says that a
change keeps all three laws; nearly every act of the other blocks keeps them since it leaves what they speak of (`Live.beside`). -/
namespace Sys2Proof.Machine

variable {e : Env} {b c : Bay} {k : ShareKind} {l l' l'' : Live} {d d' d'' : Dev}

/-! ## The laws -/

theorem overcommitLaw_iff : overcommitLaw e l = true ↔ (l.fal.overcommit = true ↔ e.params.feederLimit < committed l) := by
  rw [overcommitLaw, beq_iff_eq, Bool.eq_iff_iff, decide_eq_true_iff]

/-- The load is a matter of the shares. -/
theorem committed_congr (h : ∀ b k, shareOf l' b k = shareOf l b k) : committed l' = committed l := by
  have load (b : Bay) : (l'.bay b).fal.load = (l.bay b).fal.load := by
    have base := h b .base
    have lamp := h b .lamp
    have heat := h b .heat
    simp only [shareOf, FalPart.share] at base lamp heat
    simp only [FalPart.load, base, lamp, heat]
  simp only [committed, load]

/-- A change keeps OVERCOMMIT to its rule, the queue to QUEUED shares, and, both together, leaves no request that a pass would
admit. -/
structure FeederKept (d d' : Dev) : Prop where
  overcommit : overcommitLaw d.env d.live = true → overcommitLaw d'.env d'.live = true
  queue : queueLaw d.live = true → queueLaw d'.live = true
  served : queueLaw d.live = true → servedLaw d.env d.live = true → servedLaw d'.env d'.live = true

/-- The laws are kept by what the blocks do. -/
abbrev Fed (e : Env) (l l' : Live) : Prop := FeederKept ⟨e, l⟩ ⟨e, l'⟩

/-- The laws are kept by what is done about one bay, and the sweeps of the other bays stand but for a pass, which leaves no request that
it would admit. -/
structure FedAt (b : Bay) (e : Env) (l l' : Live) : Prop extends Fed e l l' where
  sweeps : queueLaw l = true → servedLaw e l' = true ∨ ∀ c, c ≠ b → (l'.bay c).lsw.sweep = (l.bay c).lsw.sweep

theorem FeederKept.refl (d : Dev) : FeederKept d d := ⟨id, id, fun _ => id⟩

theorem FeederKept.trans (h : FeederKept d d') (h' : FeederKept d' d'') : FeederKept d d'' :=
  ⟨h'.overcommit ∘ h.overcommit, h'.queue ∘ h.queue, fun hq hs => h'.served (h.queue hq) (h.served hq hs)⟩

/-- The same chain, written with the last operation first, as an application stands. -/
theorem FeederKept.after (h' : FeederKept d' d'') (h : FeederKept d d') : FeederKept d d'' := h.trans h'

theorem FedAt.refl (b : Bay) (e : Env) (l : Live) : FedAt b e l l := ⟨.refl _, fun _ => .inr fun _ _ => rfl⟩

theorem FedAt.trans (h : FedAt b e l l') (h' : FedAt b e l' l'') : FedAt b e l l'' := by
  refine ⟨h.toFeederKept.trans h'.toFeederKept, fun hq => ?_⟩
  obtain hserved | hsweeps := h.sweeps hq
  · exact .inl (h'.served (h.queue hq) hserved)
  · exact (h'.sweeps (h.queue hq)).imp_right fun hsweeps' c hc => (hsweeps' c hc).trans (hsweeps c hc)

theorem FedAt.after (h' : FedAt b e l' l'') (h : FedAt b e l l') : FedAt b e l l'' := h.trans h'

theorem FedAt.fed (h : FedAt b e l l') : Fed e l l' := h.toFeederKept

/-- What leaves no request that a pass would admit. -/
theorem FedAt.of_served (h : Fed e l l') (hs : queueLaw l = true → servedLaw e l' = true) : FedAt b e l l' :=
  ⟨h, fun hq => .inl (hs hq)⟩

/-- The limit, the queue, OVERCOMMIT, the load and the shares of the requests that wait stand. -/
theorem FeederKept.of_unqueued (hlimit : d'.env.params.feederLimit = d.env.params.feederLimit)
    (hqueue : d'.live.fal.queue = d.live.fal.queue) (hover : d'.live.fal.overcommit = d.live.fal.overcommit)
    (hload : committed d'.live = committed d.live)
    (hshares : queueLaw d.live = true → ∀ x ∈ d.live.fal.queue, shareOf d'.live x.1 x.2 = shareOf d.live x.1 x.2) :
    FeederKept d d' := by
  refine ⟨fun h => ?_, fun h => ?_, fun hq h => ?_⟩
  · rw [overcommitLaw_iff] at h ⊢
    rwa [hover, hlimit, hload]
  · rw [queueLaw_iff] at h ⊢
    rw [hqueue]
    exact fun x hx => by rw [hshares (queueLaw_iff.mpr h) x hx]; exact h x hx
  · have fit (x : Bay × ShareKind) (hx : x ∈ d.live.fal.queue) : fits d'.env d'.live x = fits d.env d.live x := by
      simp only [fits, hlimit, hload, hshares hq x hx]
    rw [servedLaw_iff] at h ⊢
    rw [hqueue, hover]
    refine h.imp_right fun ⟨hhead, hlamps⟩ => ⟨fun x hx => ?_, fun x hx hlamp => ?_⟩
    · rw [fit x (List.mem_of_head? hx)]
      exact hhead x hx
    · rw [fit x hx]
      exact hlamps x hx hlamp

/-! ## What stands beside the other blocks -/

/-- FAL's row state, the shares, and the sweeps of the bays but `b`. -/
def besideOf (fal : FalState) (bays : Vector BayRec 16) (b : Bay) :
    FalState × (Bay → ShareKind → Share) × (Bay → Option SweepState) :=
  (fal, fun c k => bays[c].fal.share k, fun c => if c = b then none else some bays[c].lsw.sweep)

/-- FAL's row state and the shares of a live state, and its sweeps but that of `b`. -/
def Live.beside (l : Live) (b : Bay) : FalState × (Bay → ShareKind → Share) × (Bay → Option SweepState) :=
  besideOf l.fal l.bays b

@[simp] theorem besideOf_live (l : Live) (b : Bay) : besideOf l.fal l.bays b = l.beside b := rfl

/-- A live state written out has what stands beside in its two fields. -/
@[simp] theorem beside_mk (tsw : TswState) (mgu : MguState) (reports : Reports) (walk : Walk) (cache : List ParkedSlot)
    (pool : Pool) (rejects : Nat) (fal : FalState) (departures : List DepEntry) (bays : Vector BayRec 16) (b : Bay) :
    Live.beside ⟨tsw, mgu, reports, walk, cache, pool, rejects, fal, departures, bays⟩ b = besideOf fal bays b := rfl

theorem beside_fal (h : l'.beside c = l.beside c) : l'.fal = l.fal := congrArg Prod.fst h

theorem beside_share (h : l'.beside c = l.beside c) (b : Bay) (k : ShareKind) : shareOf l' b k = shareOf l b k :=
  congrFun (congrFun (congrArg (fun x => x.2.1) h) b) k

theorem beside_sweep (h : l'.beside c = l.beside c) (hb : b ≠ c) : (l'.bay b).lsw.sweep = (l.bay b).lsw.sweep := by
  have sweep : (if b = c then none else some (l'.bay b).lsw.sweep) = if b = c then none else some (l.bay b).lsw.sweep :=
    congrFun (congrArg (fun x => x.2.2) h) b
  simpa [hb] using sweep

theorem FeederKept.of_beside (hlimit : d'.env.params.feederLimit = d.env.params.feederLimit)
    (h : d'.live.beside c = d.live.beside c) : FeederKept d d' :=
  .of_unqueued hlimit (by rw [beside_fal h]) (by rw [beside_fal h]) (committed_congr (beside_share h)) fun _ _ _ => beside_share h _ _

/-- What FAL's state, the shares and the other sweeps stand beside keeps the laws. -/
theorem FedAt.beside (h : l'.beside b = l.beside b) : FedAt b e l l' :=
  ⟨.of_beside rfl h, fun _ => .inr fun _ hc => beside_sweep h hc⟩

theorem FeederKept.beside (h : l'.beside c = l.beside c) : Fed e l l' := .of_beside rfl h

/-- One record changes beside its shares, and its sweep unless it is that of `c`. -/
theorem beside_modBay {f : BayRec → BayRec} (hfal : ∀ k, (f (l.bay b)).fal.share k = (l.bay b).fal.share k)
    (hsweep : c = b ∨ (f (l.bay b)).lsw.sweep = (l.bay b).lsw.sweep) : (l.modBay b f).beside c = l.beside c := by
  have share (x : Bay) (k : ShareKind) : ((l.modBay b f).bay x).fal.share k = (l.bay x).fal.share k := by
    by_cases hx : x = b
    · subst hx
      rw [bay_modBay_self]
      exact hfal k
    · rw [bay_modBay_ne f hx]
  have sweep (x : Bay) (hx : x ≠ c) : ((l.modBay b f).bay x).lsw.sweep = (l.bay x).lsw.sweep := by
    by_cases hb : x = b
    · subst hb
      rw [bay_modBay_self]
      exact hsweep.resolve_left fun hc => hx hc.symm
    · rw [bay_modBay_ne f hb]
  refine Prod.ext rfl (Prod.ext (funext fun x => funext (share x)) (funext fun x => ?_))
  by_cases hx : x = c
  · simp [Live.beside, besideOf, hx]
  · have standing := sweep x hx
    simp only [Live.bay] at standing
    simp only [Live.beside, besideOf, if_neg hx, standing]

@[simp] theorem modBtb_beside (f : BtbPart → BtbPart) : (l.modBtb b f).beside c = l.beside c :=
  beside_modBay (fun _ => rfl) (.inr rfl)

@[simp] theorem modBlm_beside (f : BlmPart → BlmPart) : (l.modBlm b f).beside c = l.beside c :=
  beside_modBay (fun _ => rfl) (.inr rfl)

@[simp] theorem modScv_beside (f : ScvPart → ScvPart) : (l.modScv b f).beside c = l.beside c :=
  beside_modBay (fun _ => rfl) (.inr rfl)

@[simp] theorem modFrd_beside (f : FrdPart → FrdPart) : (l.modFrd b f).beside c = l.beside c :=
  beside_modBay (fun _ => rfl) (.inr rfl)

@[simp] theorem modPhp_beside (f : PhpPart → PhpPart) : (l.modPhp b f).beside c = l.beside c :=
  beside_modBay (fun _ => rfl) (.inr rfl)

@[simp] theorem modDpc_beside (f : DpcPart → DpcPart) : (l.modDpc b f).beside c = l.beside c :=
  beside_modBay (fun _ => rfl) (.inr rfl)

/-- LSW's part changes, and its sweep unless it is that of `c`. -/
@[simp] theorem modLsw_beside_self (f : LswPart → LswPart) : (l.modLsw b f).beside b = l.beside b :=
  beside_modBay (fun _ => rfl) (.inl rfl)

@[simp] theorem modLsw_beside (f : LswPart → LswPart) (h : ∀ s, (f s).sweep = s.sweep) : (l.modLsw b f).beside c = l.beside c :=
  beside_modBay (fun _ => rfl) (.inr (h _))

/-- FAL's part changes beside its shares. -/
theorem modFal_beside {f : FalPart → FalPart} (h : ∀ x k, (f x).share k = x.share k) : (l.modFal b f).beside c = l.beside c :=
  beside_modBay (h _) (.inr rfl)

@[simp] theorem addReason_beside {n : ReportNumber} {x : Reason} : (addReason e n x l).beside c = l.beside c := rfl

@[simp] theorem addBayReason_beside {x : Reason} : (addBayReason e b x l).beside c = l.beside c := rfl

/-- What every action of a list leaves is left behind all of them. -/
theorem foldl_beside {α : Type} {f : Live → α → Live} (step : ∀ l x, (f l x).beside c = l.beside c) (xs : List α) (l : Live) :
    (xs.foldl f l).beside c = l.beside c :=
  foldl_chain (R := fun l l' => l'.beside c = l.beside c) (fun _ => rfl) (fun h h' => h'.trans h) step xs l

theorem forBays_beside {f : Bay → Live → Live} {bays : List Bay} (step : ∀ b l, (f b l).beside c = l.beside c) :
    (forBays bays f l).beside c = l.beside c := foldl_beside (fun l b => step b l) bays l

/-- What every action of a list keeps is kept by all of them. -/
theorem foldl_fed {α : Type} {f : Live → α → Live} (step : ∀ l x, Fed e l (f l x)) (xs : List α) (l : Live) :
    Fed e l (xs.foldl f l) := foldl_chain (R := Fed e) (fun _ => .refl _) FeederKept.trans step xs l

theorem forBays_fed {f : Bay → Live → Live} {bays : List Bay} (step : ∀ b l, Fed e l (f b l)) : Fed e l (forBays bays f l) :=
  foldl_fed (fun l b => step b l) bays l

end Sys2Proof.Machine

/-! # What the notices of PHP, DPC and LSW leave of the feeder -/
namespace Sys2Proof.Machine

variable {e : Env} {b c : Bay} {l : Live} {on release : Bool} {purpose : Purpose} {o : Owner} {job : JobFrame} {n : Nat}
  {g : DepEntry → DepEntry} {x : DepEntry} {gate : Gate} {t : Int} {p : Nat × Nat} {q : Option (Nat × Nat)} {r : LampResult}

/-! ## Settings, frames and entries -/

@[simp] theorem setHeater_beside : (setHeater b on l).beside c = l.beside c := by simp [setHeater]

@[simp] theorem setLatch_beside : (setLatch b purpose release l).beside c = l.beside c := by simp [setLatch]

@[simp] theorem setContactor_beside : (setContactor b on l).beside c = l.beside c := by simp [setContactor]

@[simp] theorem withdrawJob_beside : (withdrawJob b o l).beside c = l.beside c := by simp [withdrawJob]

@[simp] theorem placeJob_beside : (placeJob b job l).beside c = l.beside c := by simp [placeJob]

@[simp] theorem updateEntry_beside : (updateEntry n g l).beside c = l.beside c := by simp [updateEntry]

@[simp] theorem removeEntry_beside : (removeEntry n l).beside c = l.beside c := by simp [removeEntry]

/-! ## DPC's judgement (R153, R157 to R159) -/

@[simp] theorem revokeEntry_beside : (revokeEntry e b x l).beside c = l.beside c := by
  simp only [revokeEntry]
  split <;> simp

@[simp] theorem judge_beside : (judge e b l).beside c = l.beside c := by fun_cases judge <;> simp

@[simp] theorem releaseEntry_beside : (releaseEntry e b x l).beside c = l.beside c := by simp [releaseEntry]

@[simp] theorem gateNotice_beside : (gateNotice e on b gate release l).beside c = l.beside c := by
  simp only [gateNotice]
  split <;> simp

@[simp] theorem lateNotice_beside : (lateNotice b on l).beside c = l.beside c := by fun_cases lateNotice <;> simp

@[simp] theorem dpcPstat_beside : (dpcPstat e b on l).beside c = l.beside c := by simp [dpcPstat]

@[simp] theorem judgeAll_beside : (judgeAll e l).beside c = l.beside c := forBays_beside fun _ _ => judge_beside

/-! ## PHP (R106 to R111) -/

@[simp] theorem evalLate_beside : (evalLate e b l).beside c = l.beside c := by fun_cases evalLate <;> simp

@[simp] theorem clearLate_beside : (clearLate b l).beside c = l.beside c := by fun_cases clearLate <;> simp

@[simp] theorem latchHeatGate_beside : (latchHeatGate e b l).beside c = l.beside c := by fun_cases latchHeatGate <;> simp

@[simp] theorem heatAdmitted_beside : (heatAdmitted e b l).beside c = l.beside c := by fun_cases heatAdmitted <;> simp

@[simp] theorem pauseBegins_beside : (pauseBegins e b l).beside c = l.beside c := by
  simp only [pauseBegins]
  split <;> simp

@[simp] theorem pauseEnds_beside : (pauseEnds e b l).beside c = l.beside c := by
  simp only [pauseEnds]
  repeat' split
  all_goals simp

@[simp] theorem judgeCabinSample_beside : (judgeCabinSample e b t l).beside c = l.beside c := by
  simp only [judgeCabinSample]
  repeat' split
  all_goals simp

@[simp] theorem phpPstat_beside : (phpPstat b on l).beside c = l.beside c := by simp [phpPstat]

@[simp] theorem staleInMaintain_beside : (staleInMaintain b l).beside c = l.beside c := by fun_cases staleInMaintain <;> simp

@[simp] theorem computeBayLead_beside : (computeBayLead e b l).beside c = l.beside c := by
  simp only [computeBayLead]
  split <;> simp

/-! ## LSW (R79 to R82, R86, R87, R92) -/

@[simp] theorem driveLamp_beside : (driveLamp e b p l).beside c = l.beside c := by simp [driveLamp]

@[simp] theorem pointAt_beside : (pointAt e b q l).1.beside c = l.beside c := by
  simp only [pointAt]
  split <;> simp

@[simp] theorem evalLampGate_beside : (evalLampGate e on b l).beside c = l.beside c := by fun_cases evalLampGate <;> simp

@[simp] theorem endPause_beside : (endPause e b l).beside c = l.beside c := by fun_cases endPause <;> simp

@[simp] theorem lampAdmitted_beside : (lampAdmitted e b l).1.beside b = l.beside b := by
  simp only [lampAdmitted]
  repeat' split
  all_goals simp

@[simp] theorem closeSweep_beside : (closeSweep e b l).beside b = l.beside b := by simp [closeSweep]

@[simp] theorem reportSweep_beside : (reportSweep e on b l).beside c = l.beside c := by simp [reportSweep]

@[simp] theorem recordResult_beside : (recordResult b p r l).beside c = l.beside c := by simp [recordResult]

end Sys2Proof.Machine

/-! # The order of shedding (R125) -/
namespace Sys2Proof.Machine

variable {e : Env} {b c : Bay} {l : Live}

theorem sheddable_iff : sheddable l b = true ↔ (l.bay b).fal.heat.state = .admitted ∧ (l.bay b).blm.link ≠ .silent := by
  simp [sheddable, shareOf, FalPart.share]

/-- How late a key departs: NONE is the latest. -/
def departureRank (e : Env) : Option Nat → WithTop Int
  | none => ⊤
  | some minute => (distance minute e.clock.minute : Int)

/-- R125 step 1: the rank of a bay, by its departure and then by its number. -/
def shedRank (e : Env) (l : Live) (b : Bay) : WithTop Int ×ₗ Bay := toLex (departureRank e (l.bay b).fal.key, b)

theorem shedRank_injective : Function.Injective (shedRank e l) := fun _ _ h => congrArg (fun x => (ofLex x).2) h

theorem departsLater_iff : departsLater e l b c = true ↔ shedRank e l c < shedRank e l b := by
  rw [shedRank, shedRank, Prod.Lex.toLex_lt_toLex, departsLater]
  cases (l.bay b).fal.key with
  | none => cases (l.bay c).fal.key <;> simp [departureRank]
  | some k =>
    cases (l.bay c).fal.key with
    | none => simp [departureRank]
    | some n =>
      obtain h | h | h := lt_trichotomy (distance n e.clock.minute) (distance k e.clock.minute)
      · simp [departureRank, h]
      · simp [departureRank, h]
      · simp [departureRank, h, h.not_gt, h.ne']

/-- The bay to shed next has the greatest rank. -/
theorem chooseShed_eq_argmax : chooseShed e l = (allBays.filter (sheddable l)).argmax (shedRank e l) := by
  unfold chooseShed List.argmax
  congr 1
  funext best b
  cases best with
  | none => rfl
  | some c => simp only [List.argAux, departsLater_iff]

theorem mem_sheddable : b ∈ allBays.filter (sheddable l) ↔ sheddable l b = true := by simp [allBays]

theorem chooseShed_eq_none_iff : chooseShed e l = none ↔ ∀ c, sheddable l c = false := by
  rw [chooseShed_eq_argmax, List.argmax_eq_none, List.filter_eq_nil_iff]
  simp [allBays]

theorem sheddable_of_chooseShed (h : chooseShed e l = some b) : sheddable l b = true := by
  rw [chooseShed_eq_argmax] at h
  exact mem_sheddable.mp (List.argmax_mem h)

/-- Every other bay that could be shed departs earlier. -/
theorem departsLater_of_chooseShed (h : chooseShed e l = some b) (hc : sheddable l c = true) (hne : c ≠ b) :
    departsLater e l b c = true := by
  rw [chooseShed_eq_argmax] at h
  exact departsLater_iff.mpr (lt_of_le_of_ne (List.le_of_mem_argmax (mem_sheddable.mpr hc) h) (shedRank_injective.ne hne))

/-- R125 steps 1 to 3: while the load is above the limit the bay chosen loses its heat share. -/
theorem shedLoop_succ (n : Nat) (told : List Bay) : shedLoop e (n + 1) l told =
    if e.params.feederLimit < committed l then
      match chooseShed e l with
      | none => (l, told)
      | some b => shedLoop e n (revokeHeat e b l) (told ++ [b])
    else (l, told) := rfl

/-- A heat share taken back is none to be taken back. -/
theorem sheddable_revokeHeat : sheddable (revokeHeat e b l) c = (sheddable l c && c != b) := by
  by_cases hc : c = b
  · subst hc
    simp [sheddable, revokeHeat, addBayReason, dropShare, shareOf, share_setShare, Share.none]
  · simp [sheddable, revokeHeat, addBayReason, dropShare, shareOf, hc]

/-- A shed ends with the load within the limit or with no heat share left to take back. -/
theorem shedLoop_ends (n : Nat) (l : Live) (told : List Bay) (hn : (allBays.filter (sheddable l)).length ≤ n) :
    committed (shedLoop e n l told).1 ≤ e.params.feederLimit ∨ ∀ b, sheddable (shedLoop e n l told).1 b = false := by
  induction n generalizing l told with
  | zero =>
    have nobody : allBays.filter (sheddable l) = [] := List.length_eq_zero_iff.mp (Nat.le_zero.mp hn)
    refine .inr fun b => Bool.eq_false_iff.mpr fun hb => ?_
    have hmem : b ∈ allBays.filter (sheddable l) := mem_sheddable.mpr hb
    simp [nobody] at hmem
  | succ n ih =>
    rw [shedLoop_succ]
    split
    · split
      · next hnone => exact .inr (chooseShed_eq_none_iff.mp hnone)
      · next b hb =>
        have fewer : (allBays.filter (sheddable (revokeHeat e b l))).length < (allBays.filter (sheddable l)).length := by
          simp only [funext fun c => sheddable_revokeHeat (e := e) (b := b) (c := c) (l := l), Bool.and_comm, ← List.filter_filter]
          exact List.length_filter_lt_length_iff_exists.mpr ⟨b, mem_sheddable.mpr (sheddable_of_chooseShed hb), by simp⟩
        exact ih _ _ (by omega)
    · next hwithin => exact .inl (Nat.le_of_not_lt hwithin)

end Sys2Proof.Machine

/-! # What FAL does keeps the feeder laws (R115 to R127) -/
namespace Sys2Proof.Machine

variable {e : Env} {b c : Bay} {k : ShareKind} {l l' m : Live} {key : Option Nat} {n : Nat}

/-! ## Passes and their notices (R122, R123, R126) -/

/-- No admission carries the load above the limit, and with the load above it none is made. -/
theorem admissionPass_overcommitLaw (h : overcommitLaw e l = true) : overcommitLaw e (admissionPass e l).1 = true := by
  by_cases hover : l.fal.overcommit = true
  · rw [admissionPass_overcommitted hover]
    exact h
  · have grants := admissionPass_grants e l
    rw [overcommitLaw_iff] at h ⊢
    rw [grants.overcommit]
    exact ⟨fun hset => absurd hset hover, fun habove =>
      absurd habove (grants.committed_le (Nat.le_of_not_lt fun habove => hover (h.mpr habove))).not_gt⟩

/-- The flag is judged, where it is set whenever the load exceeds the limit. -/
theorem judgeOvercommit_overcommitLaw (h : e.params.feederLimit < committed l → l.fal.overcommit = true) :
    overcommitLaw e (judgeOvercommit e l).1 = true := by
  unfold judgeOvercommit
  split
  · next hstays => exact overcommitLaw_iff.mpr ⟨fun _ => hstays.2, fun _ => hstays.1⟩
  · next hends =>
    have within : ¬ e.params.feederLimit < committed l := fun habove => hends ⟨h habove, habove⟩
    exact admissionPass_overcommitLaw (overcommitLaw_iff.mpr ⟨nofun, fun habove => absurd habove within⟩)

theorem judgeOvercommit_queueLaw (h : queueLaw l = true) : queueLaw (judgeOvercommit e l).1 = true := by
  unfold judgeOvercommit
  split
  · exact h
  · exact (admissionPass_grants e _).queueLaw h

theorem judgeOvercommit_served : servedLaw e (judgeOvercommit e l).1 = true := by
  unfold judgeOvercommit
  split
  · next hstays => exact servedLaw_iff.mpr (.inl hstays.1)
  · exact admissionPass_served e _

/-- The judgement behind a change that takes away no more than load and requests. -/
theorem judgeOvercommit_fed (hqueue : queueLaw l = true → queueLaw m = true) (hover : m.fal.overcommit = l.fal.overcommit)
    (hload : committed m ≤ committed l) : Fed e l (judgeOvercommit e m).1 := by
  refine ⟨fun h => judgeOvercommit_overcommitLaw fun habove => ?_, fun h => judgeOvercommit_queueLaw (hqueue h),
    fun _ _ => judgeOvercommit_served⟩
  rw [hover]
  exact (overcommitLaw_iff.mp h).mpr (habove.trans_le hload)

theorem committed_dropShare : committed (dropShare b k l) + (shareOf l b k).load = committed l := by
  have load := committed_setShare (l := l) (b := b) (k := k) fun _ => .none
  rwa [show Share.none.load = 0 from rfl, Nat.add_zero] at load

theorem queueLaw_dropShare (h : queueLaw l = true) (hk : (b, k) ∉ l.fal.queue) : queueLaw (dropShare b k l) = true :=
  queueLaw_setShare h (.inl hk)

/-- An ADMITTED share is given back, and the judgement made. -/
theorem dropAdmitted_fed (h : (shareOf l b k).state = .admitted) : Fed e l (judgeOvercommit e (dropShare b k l)).1 :=
  judgeOvercommit_fed (fun hq => queueLaw_dropShare hq (not_mem_queue hq (by simp [h]))) rfl (Nat.le.intro committed_dropShare)

theorem freeShare_fed : Fed e l (freeShare e b k l).1 := by
  unfold freeShare
  split
  · next h => exact dropAdmitted_fed h
  · exact .refl _

theorem tellOwners_fed (n : Nat) (told : List (Bay × ShareKind)) (l : Live) : Fed e l (tellOwners e n told l) := by
  induction n generalizing told l with
  | zero => exact .refl _
  | succ n ih =>
    cases told with
    | nil => exact .refl _
    | cons x rest =>
      obtain ⟨b, k⟩ := x
      cases k with
      | base => exact (ih _ _).after (.beside (c := b) setContactor_beside)
      | heat => exact (ih _ _).after (.beside (c := b) heatAdmitted_beside)
      | lamp =>
        have admitted : Fed e l (lampAdmitted e b l).1 := .beside lampAdmitted_beside
        rw [tellOwners]
        split
        · next h =>
          rw [h] at admitted
          exact (ih _ _).after admitted
        · next h =>
          rw [h] at admitted
          exact (ih _ _).after (FeederKept.after (.beside (c := b) reportSweep_beside)
            ((ih _ _).after (freeShare_fed.after (FeederKept.after (.beside closeSweep_beside) admitted))))

/-- The notices of a pass that leaves no request it would admit leave none either. -/
theorem finishPass_fedAt {s : Live × List (Bay × ShareKind)} (h : Fed e l s.1)
    (hs : queueLaw l = true → servedLaw e s.1 = true) : FedAt b e l (finishPass e s) :=
  .of_served (h.trans (tellOwners_fed _ _ _)) fun hq => (tellOwners_fed _ _ _).served (h.queue hq) (hs hq)

/-- A pass behind a change of the queue. -/
theorem runPass_fedAt (hqueue : queueLaw l = true → queueLaw m = true) (hover : m.fal.overcommit = l.fal.overcommit)
    (hload : committed m = committed l) : FedAt b e l (runPass e m) := by
  have grants := admissionPass_grants e m
  refine finishPass_fedAt ⟨fun h => admissionPass_overcommitLaw ?_, fun h => grants.queueLaw (hqueue h),
    fun _ _ => admissionPass_served e m⟩ fun _ => admissionPass_served e m
  rw [overcommitLaw_iff] at h ⊢
  rwa [hover, hload]

/-! ## Requests, withdrawals, releases, keys (R118, R120, R121, R123, R124) -/

theorem committed_setShare_unloaded {g : FalPart → Share} (h : (shareOf l b k).state ≠ .admitted)
    (hg : (g (l.bay b).fal).state ≠ .admitted) : committed (l.modFal b fun f => f.setShare k (g f)) = committed l := by
  have load := committed_setShare (l := l) (b := b) (k := k) g
  rw [load_unadmitted h, load_unadmitted hg] at load
  exact Nat.add_right_cancel load

/-- A share out of the load is written out of the load, and no request of it waits. -/
theorem FedAt.setShare {g : FalPart → Share} (hout : queueLaw l = true → (b, k) ∉ l.fal.queue)
    (h : (shareOf l b k).state ≠ .admitted) (hg : (g (l.bay b).fal).state ≠ .admitted) :
    FedAt b e l (l.modFal b fun f => f.setShare k (g f)) := by
  refine ⟨.of_unqueued rfl rfl rfl (committed_setShare_unloaded h hg) fun hq x hx => ?_, fun _ => .inr fun c _ => by simp⟩
  exact (shareOf_setShare g).trans (if_neg fun hbk : x = (b, k) => hout hq (hbk ▸ hx))

/-- A sequence number is given out. -/
theorem FedAt.numbered : FedAt b e l l.numbered := ⟨.of_unqueued rfl rfl rfl rfl fun _ _ _ => rfl, fun _ => .inr fun _ _ => rfl⟩

theorem requestShare_fedAt : FedAt b e l (requestShare e b k n l) := by
  simp only [requestShare]
  split
  · next hnone =>
    have out (hq : queueLaw l = true) : (b, k) ∉ l.fal.queue := not_mem_queue hq (by simp [hnone])
    have unloaded : (shareOf l b k).state ≠ .admitted := by simp [hnone]
    split
    · refine runPass_fedAt (fun hq => queueLaw_enqueue ?_ ?_) rfl ?_
      · exact queueLaw_setShare (g := fun _ => ⟨.queued, n, l.fal.sequence⟩) hq (.inl (out hq))
      · exact congrArg Share.state ((shareOf_setShare fun _ => ⟨.queued, n, l.fal.sequence⟩).trans (if_pos rfl))
      · exact committed_setShare_unloaded (g := fun _ => ⟨.queued, n, l.fal.sequence⟩) unloaded (by simp)
    · exact FedAt.numbered.after (.setShare (g := fun _ => ⟨.held, n, l.fal.sequence⟩) out unloaded (by simp))
  · exact .refl b e l

/-- A request taken back touches neither the flag nor the load. -/
theorem dropRequest_overcommit : (dropRequest b k l).fal.overcommit = l.fal.overcommit := by
  unfold dropRequest
  split <;> rfl

theorem committed_dropRequest : committed (dropRequest b k l) = committed l := by
  unfold dropRequest
  split
  · next h => exact committed_setShare_unloaded (l := dequeue (b, k) l) (g := fun _ => .none) (ne_of_eq_of_ne h (by simp)) nofun
  · next h => exact committed_setShare_unloaded (g := fun _ => .none) (by simp [h]) nofun
  · rfl

theorem queueLaw_dropRequest (h : queueLaw l = true) : queueLaw (dropRequest b k l) = true := by
  unfold dropRequest
  split
  · exact queueLaw_dropShare (queueLaw_filter h _) fun hmem => (mem_dequeue.mp hmem).2 rfl
  · next hheld => exact queueLaw_dropShare h (not_mem_queue h (by simp [hheld]))
  · exact h

/-- A request that does not wait is taken back without a pass. -/
theorem dropRequest_fedAt (h : (shareOf l b k).state ≠ .queued) : FedAt b e l (dropRequest b k l) := by
  unfold dropRequest
  split
  · next hqueued => exact absurd hqueued h
  · next hheld => exact .setShare (g := fun _ => .none) (fun hq => not_mem_queue hq h) (by simp [hheld]) nofun
  · exact .refl b e l

theorem withdrawShare_fedAt : FedAt b e l (withdrawShare e b k l) := by
  unfold withdrawShare
  split
  · exact runPass_fedAt queueLaw_dropRequest dropRequest_overcommit committed_dropRequest
  · next h => exact dropRequest_fedAt h

theorem releaseShare_fedAt : FedAt b e l (releaseShare e b k l) := by
  by_cases h : (shareOf l b k).state = .admitted
  · rw [releaseShare, freeShare, if_pos h]
    exact finishPass_fedAt (dropAdmitted_fed h) fun _ => judgeOvercommit_served
  · rw [releaseShare_none h]
    exact .refl b e l

theorem queueLaw_requeue (h : queueLaw l = true) : queueLaw (requeue e b k l) = true := by
  unfold requeue
  split
  · next hqueued => exact queueLaw_enqueue h (isQueued_iff.mp hqueued)
  · exact h

theorem committed_requeue : committed (requeue e b k l) = committed l := by
  unfold requeue
  split <;> rfl

theorem modFal_key_beside : (l.modFal b fun f => { f with key := key }).beside c = l.beside c :=
  modFal_beside fun _ k => by cases k <;> rfl

theorem setKey_fedAt : FedAt b e l (setKey e b key l) := by
  have keyed : FedAt b e l (l.modFal b fun f => { f with key := key }) := .beside modFal_key_beside
  simp only [setKey]
  split
  · exact .refl b e l
  · split
    · refine keyed.trans (runPass_fedAt (fun hq => ?_) ?_ ?_)
      · exact queueLaw_requeue (queueLaw_requeue (queueLaw_requeue (queueLaw_filter hq _)))
      · rw [requeue_overcommit, requeue_overcommit, requeue_overcommit]
      · rw [committed_requeue, committed_requeue, committed_requeue]
        rfl
    · exact keyed

/-- A bay's row with nothing in it (R124). -/
theorem committed_clearedRow : committed (l.modFal b fun f => { f with key := none, base := .none, lamp := .none, heat := .none }) ≤
    committed l := by
  have load := committed_modBay l b fun r => { r with fal := { r.fal with key := none, base := .none, lamp := .none, heat := .none } }
  have none : FalPart.load { (l.bay b).fal with key := none, base := .none, lamp := .none, heat := .none } = 0 := rfl
  rw [modFal_eq]
  dsimp only at load
  rw [none] at load
  omega

theorem clearRow_fedAt : FedAt b e l (clearRow e b l) := by
  refine finishPass_fedAt (judgeOvercommit_fed (fun hq => ?_) rfl committed_clearedRow) fun _ => judgeOvercommit_served
  rw [queueLaw_iff] at hq ⊢
  intro x hx
  obtain ⟨hmem, hother⟩ := List.mem_filter.mp hx
  rw [shareOf, bay_modFal_ne _ (by simpa using hother)]
  exact hq x hmem

/-! ## Shedding and the limit (R115, R125, R126) -/

/-- What is judged afresh: OVERCOMMIT is as its rule says whatever it was, and no request is left that a pass would admit. -/
structure Judged (e : Env) (l l' : Live) : Prop where
  overcommit : overcommitLaw e l' = true
  queue : queueLaw l = true → queueLaw l' = true
  served : queueLaw l = true → servedLaw e l' = true

theorem Judged.trans {l'' : Live} (h : Judged e l l') (h' : Fed e l' l'') : Judged e l l'' :=
  ⟨h'.overcommit h.overcommit, h'.queue ∘ h.queue, fun hq => h'.served (h.queue hq) (h.served hq)⟩

/-- Whatever the limit was before. -/
theorem Judged.kept {e₀ : Env} (h : Judged e l l') : FeederKept ⟨e₀, l⟩ ⟨e, l'⟩ :=
  ⟨fun _ => h.overcommit, h.queue, fun hq _ => h.served hq⟩

theorem judgeOvercommit_judged (h : e.params.feederLimit < committed l → l.fal.overcommit = true) :
    Judged e l (finishPass e (judgeOvercommit e l)) :=
  Judged.trans ⟨judgeOvercommit_overcommitLaw h, judgeOvercommit_queueLaw, fun _ => judgeOvercommit_served⟩ (tellOwners_fed _ _ _)

theorem queueLaw_shedLoop (n : Nat) (l : Live) (told : List Bay) (h : queueLaw l = true) : queueLaw (shedLoop e n l told).1 = true := by
  induction n generalizing l told with
  | zero => exact h
  | succ n ih =>
    rw [shedLoop_succ]
    split
    · split
      · exact h
      · next b hb =>
        refine ih (revokeHeat e b l) _ (queueLaw_dropShare h (not_mem_queue h ?_))
        simp [shareOf, FalPart.share, (sheddable_iff.mp (sheddable_of_chooseShed hb)).1]
    · exact h

theorem judgeShed_judged : Judged e l (judgeShed e l) := by
  unfold judgeShed
  split
  · next habove =>
    split
    · next hover =>
      exact ⟨overcommitLaw_iff.mpr ⟨fun _ => habove, fun _ => hover⟩, id, fun _ => servedLaw_iff.mpr (.inl hover)⟩
    · exact ⟨overcommitLaw_iff.mpr ⟨fun _ => habove, fun _ => rfl⟩, id, fun _ => servedLaw_iff.mpr (.inl rfl)⟩
  · next hwithin => exact judgeOvercommit_judged fun habove => absurd habove hwithin

theorem heatRevoked_fed : Fed e l (heatRevoked e b l) := by
  simp only [heatRevoked]
  exact FedAt.fed (.after (.beside evalLate_beside) (requestShare_fedAt.after (.beside (by simp))))

theorem shed_judged : Judged e l (shed e l) := by
  have judged := (judgeShed_judged (e := e) (l := (shedLoop e 16 l []).1)).trans (forBays_fed (bays := (shedLoop e 16 l []).2)
    (f := heatRevoked e) fun _ _ => heatRevoked_fed)
  exact ⟨judged.overcommit, fun hq => judged.queue (queueLaw_shedLoop _ _ _ hq), fun hq => judged.served (queueLaw_shedLoop _ _ _ hq)⟩

/-- A write of the limit carries the laws from the old limit to the new one. -/
theorem limitWritten_kept {e₀ : Env} : FeederKept ⟨e₀, l⟩ ⟨e, limitWritten e e₀.params.feederLimit l⟩ := by
  simp only [limitWritten]
  split
  · next hsame => exact .of_beside (c := 0) hsame rfl
  · split
    · next hraised =>
      refine ⟨fun h => ?_, fun hq => ?_, fun hq _ => ?_⟩
      · exact (judgeOvercommit_judged fun habove => (overcommitLaw_iff.mp h).mpr (hraised.trans habove)).overcommit
      · exact (tellOwners_fed _ _ _).queue (judgeOvercommit_queueLaw hq)
      · exact (tellOwners_fed _ _ _).served (judgeOvercommit_queueLaw hq) judgeOvercommit_served
    · next hsame hlowered =>
      split
      · exact shed_judged.kept
      · next hwithin =>
        have lower : e.params.feederLimit ≤ e₀.params.feederLimit := Nat.le_of_not_lt hlowered
        refine ⟨fun h => ?_, id, fun _ h => ?_⟩
        · have clear : l.fal.overcommit ≠ true := fun hover => hwithin (lower.trans_lt ((overcommitLaw_iff.mp h).mp hover))
          exact overcommitLaw_iff.mpr ⟨fun hover => absurd hover clear, fun habove => absurd habove hwithin⟩
        · have unfit (x : Bay × ShareKind) (hx : fits e₀ l x = false) : fits e l x = false :=
            decide_eq_false fun hfit => of_decide_eq_false hx (hfit.trans lower)
          rw [servedLaw_iff] at h ⊢
          exact h.imp_right fun ⟨hhead, hlamps⟩ => ⟨fun x hx => unfit x (hhead x hx), fun x hx hlamp => unfit x (hlamps x hx hlamp)⟩

theorem falPstat_fed {closed : Bool} : Fed e l (falPstat e b closed l) := by
  have reported : Fed e l (l.modFal b fun f => { f with contactorReported := closed }) :=
    .beside (c := b) (modFal_beside fun _ k => by cases k <;> rfl)
  simp only [falPstat]
  split
  · exact reported.trans shed_judged.kept
  · exact reported

end Sys2Proof.Machine

/-! # Sweeps, plans and departures keep the feeder laws (R75 to R93, R101 to R112, R152 to R164) -/
namespace Sys2Proof.Machine

variable {e : Env} {b c : Bay} {l : Live} {judging silent on : Bool} {w : SweepWindow} {o : SweepOrder} {n : Nat} {t : Int}
  {q : Option (Nat × Nat)} {r : LampResult} {x : DepEntry} {pr : Fin 8} {key : Option Nat}
  {purpose : Purpose}

/-! ## Sweeps -/

theorem completeSweep_fedAt : FedAt b e l (completeSweep e b l) :=
  FedAt.after (.beside reportSweep_beside) (releaseShare_fedAt.after (.beside closeSweep_beside))

theorem stepTo_fedAt : FedAt b e l (stepTo e b q l) := by
  have pointed : FedAt b e l (pointAt e b q l).1 := .beside pointAt_beside
  unfold stepTo
  split
  · next h =>
    rw [h] at pointed
    exact completeSweep_fedAt.after pointed
  · next h =>
    rw [h] at pointed
    exact pointed

theorem endStep_fedAt : FedAt b e l (endStep e b r l) := by
  unfold endStep
  split
  · exact .refl b e l
  · exact stepTo_fedAt.after (.beside recordResult_beside)

/-- What an abort settles the share of, and reports. -/
theorem abortWith_report {f : Live → Live} :
    ∃ m, m.beside b = l.beside b ∧ abortWith e judging silent b f l = reportSweep e judging b (f m) := by
  refine ⟨endPause e b ((withdrawJob b .lsw _).modLsw b _), ?_, rfl⟩
  rw [endPause_beside]
  split
  · split <;> simp
  · simp

/-- An abort, with what its settlement of the lamp share does. -/
theorem abortWith_fedAt {f : Live → Live} (hf : ∀ l, FedAt b e l (f l)) : FedAt b e l (abortWith e judging silent b f l) := by
  obtain ⟨m, hm, habort⟩ := abortWith_report (e := e) (b := b) (l := l) (judging := judging) (silent := silent) (f := f)
  rw [habort]
  exact FedAt.after (.beside reportSweep_beside) ((hf m).after (.beside hm))

theorem abortSweep_fedAt : FedAt b e l (abortSweep e judging silent b l) := by
  refine abortWith_fedAt fun l => ?_
  split
  · exact withdrawShare_fedAt
  · exact releaseShare_fedAt

theorem stopSweep_fedAt : FedAt b e l (stopSweep e judging silent b l) := by
  unfold stopSweep
  split
  · exact abortSweep_fedAt
  · exact .refl b e l

theorem startSweep_fedAt : FedAt b e l (startSweep e b w o l) := requestShare_fedAt.after (.beside (modLsw_beside_self _))

theorem restartSweep_fedAt : FedAt b e l (restartSweep e b w o l) := by
  simp only [restartSweep]
  split
  · exact stepTo_fedAt.after (.beside (modLsw_beside_self _))
  · exact .beside (modLsw_beside_self _)

theorem lampCheck_fed : Fed e l (lampCheck e b w o l).2 := by
  fun_cases lampCheck
  case case6 => exact restartSweep_fedAt.fed
  case case7 => exact startSweep_fedAt.fed
  all_goals exact .refl _

theorem lampStop_fed : Fed e l (lampStop e b l).2 := by
  unfold lampStop
  split
  · exact .refl _
  · exact stopSweep_fedAt.fed

theorem visitLimit_fed : Fed e l (visitLimit e b l) := by
  simp only [visitLimit]
  split
  · exact .refl _
  · split
    · exact .beside (c := b) driveLamp_beside
    · exact endStep_fedAt.fed

theorem lswExchangeEnd_fed : Fed e l (lswExchangeEnd e b l) := by
  have counted : Fed e l (l.modLsw b fun t => { t with visits := t.visits + 1 }) := .beside (modLsw_beside_self _)
  simp only [lswExchangeEnd]
  split
  · split
    · exact visitLimit_fed.after counted
    · exact counted
  · exact .refl _

theorem lampSample_fed {tag current : Nat} : Fed e l (lampSample e b tag current on l) := by
  simp only [lampSample]
  split
  · exact .refl _
  · split
    · exact endStep_fedAt.fed
    · exact .refl _

theorem lswOccupied_fed : Fed e l (lswOccupied e on b l) := by
  simp only [lswOccupied]
  split
  · exact (startSweep_fedAt.after (.beside (by simp))).fed
  · exact .beside (c := b) (by simp)

theorem evalProfileGates_beside : (evalProfileGates e pr l).beside c = l.beside c :=
  forBays_beside fun b l => by split <;> simp

/-! ## Plans -/

theorem heatAct_fedAt : FedAt b e l (heatAct e b l) := by
  simp only [heatAct]
  split
  · exact .refl b e l
  · split
    · exact .refl b e l
    · split
      · exact FedAt.after (.beside evalLate_beside) (requestShare_fedAt.after (.beside (by simp)))
      · exact .refl b e l
    · split
      · exact withdrawShare_fedAt.after (.beside (by simp))
      · exact .beside evalLate_beside
    · exact .beside evalLate_beside

theorem recompute_fedAt : FedAt b e l (recompute e b l) := by
  unfold recompute
  split
  · exact .refl b e l
  · exact heatAct_fedAt.after (.beside computeBayLead_beside)

theorem leavePlan_fedAt : FedAt b e l (leavePlan e on b l) := by
  have shares : FedAt b e l (leaveShare e b l) := by
    unfold leaveShare
    split
    · exact withdrawShare_fedAt
    · exact releaseShare_fedAt
    · exact releaseShare_fedAt
    · exact releaseShare_fedAt
    · exact .refl b e l
  have failed (m : Live) : (if (m.bay b).php.gate then gateNotice e (!on) b .heat false
      (m.modPhp b fun q => { q with gate := false }) else m).beside b = m.beside b := by split <;> simp
  refine shares.trans (.beside ?_)
  simp only [leavePlan]
  split
  · rw [addBayReason_beside, modPhp_beside, clearLate_beside, failed, setHeater_beside]
    rfl
  · rw [modPhp_beside, clearLate_beside, failed, setHeater_beside]
    rfl

theorem enterPlan_fedAt : FedAt b e l (enterPlan e b t l) := recompute_fedAt.after (.beside (by simp))

theorem planNotice_fedAt : FedAt b e l (planNotice e b l) := by
  simp only [planNotice]
  split
  · split
    · exact .refl b e l
    · exact leavePlan_fedAt
  · split
    · exact enterPlan_fedAt
    · exact recompute_fedAt.after (.beside (by simp))

theorem plannabilityNotice_fedAt : FedAt b e l (plannabilityNotice e b l) := by
  simp only [plannabilityNotice]
  split
  · split
    · exact .refl b e l
    · exact leavePlan_fedAt
  · split
    · exact enterPlan_fedAt
    · exact .refl b e l

theorem cabinSample_fed : Fed e l (cabinSample e b t l) := (recompute_fedAt.after (.beside judgeCabinSample_beside)).fed

theorem cabinStaleOnset_fed : Fed e l (cabinStaleOnset e b l) := (recompute_fedAt.after (.beside staleInMaintain_beside)).fed

theorem recomputeProfile_fed : Fed e l (recomputeProfile e pr l) := by
  refine forBays_fed fun b l => ?_
  split
  · exact recompute_fedAt.fed
  · exact .refl _

theorem recomputeAll_fed : Fed e l (recomputeAll e l) := forBays_fed fun _ _ => recompute_fedAt.fed

theorem phpMinute_fed : Fed e l (phpMinute e l) := forBays_fed fun _ _ => heatAct_fedAt.fed

/-! ## Departures -/

@[simp] theorem restoreOrder_beside : (restoreOrder e l).beside c = l.beside c := by fun_cases restoreOrder <;> simp

@[simp] theorem lockIfReleased_beside : (lockIfReleased x l).beside c = l.beside c := by fun_cases lockIfReleased <;> simp

@[simp] theorem releaseNow_beside : (releaseNow e n l).2.beside c = l.beside c := by fun_cases releaseNow <;> simp

@[simp] theorem latchShunt_beside : (latchShunt b l).2.beside c = l.beside c := by fun_cases latchShunt <;> simp

@[simp] theorem latchLock_beside : (latchLock b l).2.beside c = l.beside c := by
  simp only [latchLock]
  repeat' split
  all_goals simp

@[simp] theorem releaseAll_beside : (releaseAll e l).beside c = l.beside c := by
  refine foldl_beside (fun l x => ?_) _ l
  split <;> simp

theorem tellBay_fedAt : FedAt b e l (tellBay e b key l) := planNotice_fedAt.after setKey_fedAt

theorem bindEntry_fed : Fed e l (bindEntry e n b l) :=
  (FedAt.after (.beside judge_beside) (tellBay_fedAt.after (.beside updateEntry_beside))).fed

theorem dpcOccupied_fed : Fed e l (dpcOccupied e b l) := by
  unfold dpcOccupied
  split
  · exact bindEntry_fed
  · split
    · exact bindEntry_fed
    · exact .refl _

/-- The list of departures is written. -/
theorem departures_fed (xs : List DepEntry) : Fed e l { l with departures := xs } := .beside (c := 0) rfl

theorem depAdd_fed {minute bay : Nat} {coach : Option Nat} {target : Option Int} {gates : GateMask} :
    Fed e l (depAdd e n minute bay coach target gates l).2 := by
  simp only [depAdd]
  repeat' split
  case h_1 => exact departures_fed _
  case isFalse.isFalse => exact bindEntry_fed.after (departures_fed _)
  all_goals exact .refl _

theorem tellStay_fedAt {names : DepNames} : FedAt b e l (tellStay e names b x l) := by
  have keyed : FedAt b e l (if names.minute.isSome = true then setKey e b (some x.minute) l else l) := by
    split
    · exact setKey_fedAt
    · exact .refl b e l
  simp only [tellStay]
  split
  · exact planNotice_fedAt.after keyed
  · exact keyed

theorem changeEntry_fed {names : DepNames} : Fed e l (changeEntry e names x l) := by
  have written (y : DepEntry) : Fed e l (if names.minute.isSome = true then
      { l with departures := insertEntry e y (l.departures.filter fun z => z.id != x.id) } else updateEntry x.id (fun _ => y) l) := by
    split <;> exact departures_fed _
  simp only [changeEntry]
  split
  · have left {k : Live} (h : Fed e l k) : Fed e l (match x.bay with
        | some b => tellBay e b none k
        | none => k) := by
      split
      · exact tellBay_fedAt.fed.after h
      · exact h
    split
    · exact bindEntry_fed.after (left (written _))
    · exact left (written _)
  · split
    · exact (FedAt.after (.beside judge_beside) tellStay_fedAt).fed.after (written _)
    · exact written _

theorem depChange_fed {names : DepNames} : Fed e l (depChange e n names l).2 := by
  fun_cases depChange
  case case4 => exact changeEntry_fed
  case case7 => exact changeEntry_fed
  all_goals exact .refl _

theorem depCancel_fed : Fed e l (depCancel e n l).2 := by
  unfold depCancel
  split
  · exact .refl _
  · split
    · exact .refl _
    · simp only
      split
      · exact (tellBay_fedAt.after (.beside (by simp))).fed
      · exact .beside (c := 0) (by simp)

theorem expireEntry_fed : Fed e l (expireEntry e n l) := by
  unfold expireEntry
  split
  · exact .refl _
  · simp only
    split
    · exact .beside (c := 0) (by simp)
    · exact (tellBay_fedAt.after (.beside (by simp))).fed

theorem dpcMinute_fed : Fed e l (dpcMinute e l) := by
  have expired : Fed e l (expireAll e l) := foldl_fed (fun _ _ => expireEntry_fed) _ l
  have ordered : (dpcMinute e l).beside 0 = (expireAll e l).beside 0 := by simp [dpcMinute]
  exact expired.trans (.beside ordered)

theorem settleEntry_fed : Fed e l (settleEntry e purpose b l) := by
  simp only [settleEntry]
  refine (FedAt.after (.beside (modDpc_beside _)) (tellBay_fedAt.after (.beside ?_))).fed
  split
  · rfl
  · split <;> simp

end Sys2Proof.Machine

/-! # Fault reading, the bay table and the bay line keep the feeder laws -/
namespace Sys2Proof.Machine

variable {e : Env} {b c : Bay} {l : Live} {on : Bool} {n m : Nat} {job : JobFrame} {pl : Placement} {rs : ReadStatus}
  {cause : AbortCause} {fr fr' : FaultRecord} {rr : ReadRecord} {bytes : List Byte} {byte : Byte} {xe : ExchangeEnd} {pr : Fin 8}
  {slot : ParkedSlot} {purpose : Purpose} {ps : Pstat} {flags tag : Byte} {lk : Link} {sf : SentFrame} {fate : SlotFate}
  {of : OfficeFrame}

/-! ## Cells and the cache (R18, R140, R141) -/

@[simp] theorem freeCells_beside : (freeCells n l).beside c = l.beside c := by simp [freeCells]

@[simp] theorem evictOldest_beside : (evictOldest l).beside c = l.beside c := by fun_cases evictOldest <;> simp

@[simp] theorem evictUntil_beside : (evictUntil n m l).beside c = l.beside c := by
  induction m generalizing l with
  | zero => rfl
  | succ m ih =>
    unfold evictUntil
    split
    · rfl
    · exact ih.trans evictOldest_beside

@[simp] theorem placeCells_beside : (placeCells n m l).2.beside c = l.beside c := by
  simp only [placeCells]
  repeat' split
  all_goals simp

@[simp] theorem countStarved_beside : (countStarved e pl l).beside c = l.beside c := by fun_cases countStarved <;> simp

@[simp] theorem emptyList_beside : (emptyList b l).beside c = l.beside c := by simp [emptyList]

@[simp] theorem expireSlots_beside : (expireSlots e l).beside c = l.beside c := by simp [expireSlots]

/-! ## Reads (R131 to R137, R143, R149) -/

@[simp] theorem evalFaultGate_beside : (evalFaultGate e on b l).beside c = l.beside c := by fun_cases evalFaultGate <;> simp

@[simp] theorem placeFrd_beside : (placeFrd b job l).beside c = l.beside c := by simp [placeFrd]

@[simp] theorem placeChunk_beside : (placeChunk b l).beside c = l.beside c := by simp [placeChunk]

@[simp] theorem startRead_beside : (startRead e b l).beside c = l.beside c := by simp [startRead]

@[simp] theorem endRead_beside : (endRead e on b rs cause l).beside c = l.beside c := by simp [endRead]

@[simp] theorem completeRead_beside : (completeRead e b l).beside c = l.beside c := by simp [completeRead]

@[simp] theorem abortRead_beside : (abortRead e b cause l).beside c = l.beside c := by simp [abortRead]

@[simp] theorem stopRead_beside : (stopRead e on cause b l).beside c = l.beside c := by fun_cases stopRead <;> simp

@[simp] theorem countBlocking_beside : (countBlocking b on l).beside c = l.beside c := by fun_cases countBlocking <;> simp

@[simp] theorem storeNew_beside : (storeNew e b fr l).beside c = l.beside c := by simp [storeNew]

@[simp] theorem putRecord_beside : (putRecord b fr l).beside c = l.beside c := by simp [putRecord]

@[simp] theorem mergeRecord_beside : (mergeRecord e b fr fr' l).beside c = l.beside c := by
  simp only [mergeRecord]
  split <;> simp

@[simp] theorem storeRecord_beside : (storeRecord e b rr l).beside c = l.beside c := by fun_cases storeRecord <;> simp

@[simp] theorem completeRecord_beside : (completeRecord e b bytes l).beside c = l.beside c := by
  simp only [completeRecord]
  repeat' split
  all_goals simp

@[simp] theorem parseRecordByte_beside : (parseRecordByte e b n byte l).beside c = l.beside c := by
  simp only [parseRecordByte]
  repeat' split
  all_goals simp

@[simp] theorem parseByte_beside : (parseByte e b n byte l).beside c = l.beside c := by
  simp only [parseByte]
  repeat' split
  all_goals simp

@[simp] theorem parseBytes_beside : (parseBytes e b n bytes l).beside c = l.beside c := by
  induction bytes generalizing n l with
  | nil =>
    unfold parseBytes
    split <;> simp
  | cons x bytes ih =>
    unfold parseBytes
    split
    · exact ih.trans parseByte_beside
    · rfl

@[simp] theorem takeChunk_beside : (takeChunk e b n bytes l).beside c = l.beside c := by
  simp only [takeChunk]
  split <;> simp

@[simp] theorem frdCdata_beside : (frdCdata e b n bytes l).beside c = l.beside c := by fun_cases frdCdata <;> simp

@[simp] theorem frdCdone_beside : (frdCdone e b l).beside c = l.beside c := by fun_cases frdCdone <;> simp

/-! ## The end of an exchange, alerts, clears (R136, R144 to R148) -/

@[simp] theorem countAttempt_beside : (countAttempt e b on job l).beside c = l.beside c := by
  simp only [countAttempt]
  repeat' split
  all_goals simp

@[simp] theorem countBusy_beside : (countBusy e b job l).beside c = l.beside c := by
  simp only [countBusy]
  split <;> simp

@[simp] theorem settleFrd_beside : (settleFrd e b job xe l).beside c = l.beside c := by fun_cases settleFrd <;> simp

@[simp] theorem frdExchangeEnd_beside : (frdExchangeEnd e b xe l).beside c = l.beside c := by fun_cases frdExchangeEnd <;> simp

@[simp] theorem frdPstat_beside : (frdPstat e b on l).beside c = l.beside c := by
  simp only [frdPstat]
  split <;> simp

@[simp] theorem frdOccupied_beside : (frdOccupied e b l).beside c = l.beside c := by
  simp only [frdOccupied]
  split <;> simp

@[simp] theorem clearExpires_beside : (clearExpires e b l).beside c = l.beside c := by simp [clearExpires]

@[simp] theorem frdTickBay_beside : (frdTickBay e b l).beside c = l.beside c := by fun_cases frdTickBay <;> simp

@[simp] theorem frdTick_beside : (frdTick e l).beside c = l.beside c := forBays_beside fun _ _ => frdTickBay_beside

@[simp] theorem faultRead_beside : (faultRead e b l).2.beside c = l.beside c := by fun_cases faultRead <;> simp

@[simp] theorem faultClear_beside : (faultClear e b l).2.beside c = l.beside c := by fun_cases faultClear <;> simp

@[simp] theorem faultFlush_beside : (faultFlush e b l).2.beside c = l.beside c := by fun_cases faultFlush <;> simp

/-! ## Identification, teardown, enable and disable (R3 to R16) -/

@[simp] theorem placeIdent_beside : (placeIdent b l).beside c = l.beside c := by fun_cases placeIdent <;> simp

@[simp] theorem beginIdent_beside : (beginIdent b l).beside c = l.beside c := by simp [beginIdent]

@[simp] theorem giveUpIdent_beside : (giveUpIdent e b l).beside c = l.beside c := by simp [giveUpIdent]

@[simp] theorem btbExchangeEnd_beside : (btbExchangeEnd e b on l).beside c = l.beside c := by fun_cases btbExchangeEnd <;> simp

@[simp] theorem markDuplicate_beside : (markDuplicate e b n pr l).beside c = l.beside c := by simp [markDuplicate]

@[simp] theorem evictCoach_beside : (evictCoach n l).beside c = l.beside c := by fun_cases evictCoach <;> simp

@[simp] theorem divertSlot_beside : (divertSlot b slot l).beside c = l.beside c := by simp [divertSlot]

@[simp] theorem lookUpCoach_beside : (lookUpCoach b n pr l).1.beside c = l.beside c := by fun_cases lookUpCoach <;> simp

theorem acceptIdentity_fed : Fed e l (acceptIdentity e b n pr l) := by
  simp only [acceptIdentity]
  exact FeederKept.after (.beside (c := b) frdOccupied_beside) (lswOccupied_fed.after (dpcOccupied_fed.after
    (requestShare_fedAt.after (.beside (by simp))).fed))

theorem takeIdrp_fed : Fed e l (takeIdrp e b n pr l) := by
  unfold takeIdrp
  repeat' split
  case isTrue.isFalse.isFalse => exact acceptIdentity_fed
  case isTrue.isFalse.isTrue => exact .beside (c := b) markDuplicate_beside
  all_goals exact .refl _

@[simp] theorem ident_beside : (ident b l).2.beside c = l.beside c := by fun_cases ident <;> simp

@[simp] theorem parkCoach_beside : (parkCoach e b l).beside c = l.beside c := by
  have emptied (m : Live) : (m.modFrd b fun x => { x with list := [], blocking := 0, lost := 0 }).beside c = m.beside c :=
    modFrd_beside _
  unfold parkCoach
  split
  · exact (emptied (evictOldest l)).trans evictOldest_beside
  · exact emptied l

@[simp] theorem parkOrForget_beside : (parkOrForget e purpose b l).beside c = l.beside c := by fun_cases parkOrForget <;> simp

@[simp] theorem vacate_beside : (vacate e b l).beside c = l.beside c := by simp [vacate]

theorem teardown_fed : Fed e l (teardown e b ps l) := by
  have cleared : Fed e l (clearRow e b (stopRead e false .plugOut b (stopSweep e false false b l))) :=
    (clearRow_fedAt.after (FedAt.after (.beside stopRead_beside) stopSweep_fedAt)).fed
  have left {m : Live} (h : Fed e l m) : Fed e l (if (m.bay b).php.state = .none then m else leavePlan e true b m) := by
    split
    · exact h
    · exact leavePlan_fedAt.fed.after h
  have vacated {m : Live} (h : Fed e l m) : Fed e l (vacate e b (parkOrForget e (l.bay b).btb.purpose b
      (settleEntry e (l.bay b).btb.purpose b (m.modBlm b fun x => { x.clearFrames with desired := .off, dirty := true })))) :=
    FeederKept.after (.beside (vacate_beside.trans (parkOrForget_beside (c := b))))
      (settleEntry_fed.after (FeederKept.after (.beside (c := b) (modBlm_beside _)) h))
  simp only [teardown]
  split
  · exact FeederKept.after (.beside (c := b) addBayReason_beside) (vacated (left cleared))
  · exact vacated (left cleared)

@[simp] theorem plugIn_beside : (plugIn e b l).beside c = l.beside c := by simp [plugIn]

theorem btbPstat_fed : Fed e l (btbPstat e b ps l) := by
  unfold btbPstat
  split
  · exact .beside (c := b) plugIn_beside
  · exact .beside (c := b) (by simp)
  · exact .beside (c := b) plugIn_beside
  · exact .refl _
  · exact teardown_fed
  · exact .refl _
  · exact teardown_fed
  · exact .refl _
  · exact .refl _

@[simp] theorem dropExchange_beside : (dropExchange b l).beside c = l.beside c := by fun_cases dropExchange <;> simp

@[simp] theorem performDisable_beside : (performDisable b l).beside c = l.beside c := by simp [performDisable]

@[simp] theorem bayDisable_beside : (bayDisable b l).2.beside c = l.beside c := by fun_cases bayDisable <;> simp

@[simp] theorem bayEnable_beside : (bayEnable b l).2.beside c = l.beside c := by fun_cases bayEnable <;> simp

/-! ## Samples (R59 to R65) -/

theorem takeSample_fed : Fed e l (takeSample e b flags tag n l) := by
  unfold takeSample
  split
  · split
    · simp only
      split
      · simp only [takeCabin]
        split
        · exact cabinSample_fed.after (.beside (c := b) (modScv_beside _))
        · exact .refl _
      · exact lampSample_fed
    · exact .refl _
  · exact .beside (c := b) (by simp)

theorem scvMinute_fed : Fed e l (scvMinute e l) := by
  refine forBays_fed fun b l => ?_
  have aged : Fed e l (l.modScv b fun c => { c with age := bumpTo Config.cabinAgeMax c.age }) := .beside (c := b) (modScv_beside _)
  simp only [ageBay]
  split
  · exact cabinStaleOnset_fed.after aged
  · exact aged

theorem announceMinute_fed : Fed e l (announceMinute e l) :=
  scvMinute_fed.after (dpcMinute_fed.after (.beside (c := 0) expireSlots_beside))

/-! ## The trunk (R46, R52 to R54, R165) -/

@[simp] theorem countBad_beside {port : Port} : (countBad port l).beside c = l.beside c := rfl

@[simp] theorem offerForward_beside {toward counted : Port} {f : TrunkFrame} :
    (offerForward toward counted f l).beside c = l.beside c := by
  unfold offerForward
  split <;> rfl

@[simp] theorem relay_beside {straps : Straps} {port : Port} {f : TrunkFrame} : (relay straps port f l).beside c = l.beside c := by
  simp only [relay]
  split
  · rfl
  · split
    · exact offerForward_beside
    · split
      · rfl
      · exact offerForward_beside

@[simp] theorem downDecision_beside {kind : Byte} : (downDecision e kind bytes b l).beside c = l.beside c := by
  simp only [downDecision]
  repeat' split
  all_goals simp [refuseDown]

@[simp] theorem takeForBay_beside {port : Port} {f : TrunkFrame} : (takeForBay e port f l).beside c = l.beside c := by
  unfold takeForBay
  repeat' split
  case h_2 => exact forBays_beside fun b l => by split <;> simp
  all_goals simp

@[simp] theorem sendUp_beside : (sendUp e b of l).beside c = l.beside c := by
  unfold sendUp
  split <;> simp

@[simp] theorem queueMgmt_beside {port : Port} : (queueMgmt port bytes l).beside c = l.beside c := by
  unfold queueMgmt
  split <;> rfl

/-! ## The bay line (R24 to R36) -/

@[simp] theorem markCarried_beside : (markCarried b sf l).beside c = l.beside c := by fun_cases markCarried <;> simp

@[simp] theorem beginSlot_beside : (beginSlot e l).beside c = l.beside c := by
  unfold beginSlot startSlot
  repeat' split
  all_goals simp

@[simp] theorem endSlot_beside : (endSlot e fate l).beside c = l.beside c := rfl

theorem handPstat_fed : Fed e l (handPstat e b ps l) :=
  FeederKept.after (.beside (c := b) frdPstat_beside) (falPstat_fed.after
    (FeederKept.after (.beside (phpPstat_beside.trans (dpcPstat_beside (c := b)))) btbPstat_fed))

theorem deliver_fed {x : ReplyContent} : Fed e l (deliver e b x l) := by
  cases x with
  | idrp coach profile => exact takeIdrp_fed
  | smp flags tag code => exact takeSample_fed
  | cdata offset data => exact .beside (c := b) frdCdata_beside
  | cdone => exact .beside (c := b) frdCdone_beside
  | office f => exact .beside (c := b) sendUp_beside
  | stat => exact .refl _
  | cbusy => exact .refl _
  | cnak => exact .refl _

@[simp] theorem linkReturn_beside : (linkReturn e lk b l).beside c = l.beside c := by cases lk <;> simp [linkReturn]

theorem announceEnd_fed : Fed e l (announceEnd e b sf xe l) :=
  FeederKept.after (.beside (c := b) frdExchangeEnd_beside) (lswExchangeEnd_fed.after (.beside (c := b) btbExchangeEnd_beside))

theorem handleReply_fed {x : Reply} : Fed e l (handleReply e b sf x l) := by
  have heard : Fed e l (l.modBlm b fun m => m.heard.compare x.pstat) := .beside (c := b) (modBlm_beside _)
  have delivered := (deliver_fed (b := b) (x := x.content)).after
    (FeederKept.after (.beside (c := b) (modBlm_beside (b := b) (·.removeAnswered sf)))
      ((handPstat_fed (b := b) (ps := x.pstat)).after heard))
  exact announceEnd_fed.after (FeederKept.after (.beside (c := b) (by simp)) delivered)

theorem goSilent_fed : Fed e l (goSilent e b l) :=
  (FedAt.after (.beside (judge_beside.trans stopRead_beside))
    (stopSweep_fedAt.after (.beside (addBayReason_beside.trans (modBlm_beside _))))).fed

theorem handleMiss_fed : Fed e l (handleMiss e b sf l) := by
  have counted : Fed e l (l.modBlm b fun m => { m with missCount := bumpTo 15 m.missCount }) := .beside (c := b) (modBlm_beside _)
  have recorded {m : Live} (h : Fed e l m) : Fed e l (announceEnd e b sf .miss (m.modBlm b (·.recordEnd .miss))) :=
    announceEnd_fed.after (FeederKept.after (.beside (c := b) (modBlm_beside _)) h)
  simp only [handleMiss]
  split
  · exact recorded (goSilent_fed.after counted)
  · exact recorded counted

theorem slotMiss_fed : Fed e l (slotMiss e l) := by
  unfold slotMiss
  split
  · exact .refl _
  · exact FeederKept.after (.beside (c := 0) endSlot_beside) handleMiss_fed
  · exact .beside (c := 0) endSlot_beside

theorem slotReply_fed : Fed e l (slotReply e bytes l) := by
  unfold slotReply
  split
  · exact .refl _
  · split
    · exact FeederKept.after (.beside (c := 0) endSlot_beside) handleReply_fed
    · exact FeederKept.after (.beside (c := 0) endSlot_beside) handleMiss_fed
  · exact .beside (c := 0) endSlot_beside

@[simp] theorem slotIdleEnd_beside : (slotIdleEnd e l).beside c = l.beside c := by
  unfold slotIdleEnd
  split <;> rfl

theorem missesReachLimit_fed : Fed e l (missesReachLimit e b l) := by
  unfold missesReachLimit
  split
  · exact goSilent_fed.after (.beside (c := b) (modBlm_beside _))
  · exact .refl _

end Sys2Proof.Machine

/-! # A profile that loses its header keeps the feeder laws (R7, R91, R101)

The requests of the sweeps that wait for power go without a pass, and the queue may then hold what a pass would admit. The first bay whose
request waited in it has the pass made, since until a pass is made nothing changes the sweep of a bay before its turn. -/
namespace Sys2Proof.Machine

variable {e : Env} {b c : Bay} {j k : ShareKind} {l l' : Live} {queued bays : List Bay} {on : Bool} {pr : Fin 8}

@[simp] theorem setMissing_beside : (setMissing on bays l).beside c = l.beside c := forBays_beside fun _ _ => modBtb_beside _

/-- What a bay does that has lost its profile (R7, R91, R101). -/
def loseProfile (e : Env) (queued : List Bay) (b : Bay) (l : Live) : Live :=
  plannabilityNotice e b (evalLampGate e true b (abortLost e queued b l))

theorem runPass_served (h : queueLaw l = true) : servedLaw e (runPass e l) = true :=
  (tellOwners_fed _ _ _).served ((admissionPass_grants e l).queueLaw h) (admissionPass_served e l)

theorem gateAndPlan_fedAt : FedAt b e l (plannabilityNotice e b (evalLampGate e true b l)) :=
  plannabilityNotice_fedAt.after (.beside evalLampGate_beside)

theorem abortLost_fedAt : FedAt b e l (abortLost e queued b l) := by
  unfold abortLost
  split
  · refine abortWith_fedAt fun l => ?_
    split
    · exact runPass_fedAt id rfl rfl
    · exact .refl b e l
  · exact abortSweep_fedAt
  · exact .refl b e l

theorem loseProfile_fedAt : FedAt b e l (loseProfile e queued b l) := gateAndPlan_fedAt.after abortLost_fedAt

/-- The pass of a request that waited in the queue is due at the turn of its bay. -/
theorem loseProfile_served (hmem : b ∈ queued) (hwaits : (l.bay b).lsw.sweep = .waitPower) (hq : queueLaw l = true) :
    servedLaw e (loseProfile e queued b l) = true := by
  have aborted : ∃ m, queueLaw m = true ∧ abortLost e queued b l = reportSweep e true b (runPass e m) := by
    obtain ⟨m, hm, habort⟩ := abortWith_report (e := e) (b := b) (l := l) (judging := true) (silent := false)
      (f := fun l => if b ∈ queued then runPass e l else l)
    refine ⟨m, (FedAt.beside (e := e) hm).queue hq, ?_⟩
    rw [abortLost, hwaits, habort, if_pos hmem]
  obtain ⟨m, hm, habort⟩ := aborted
  have passed : Fed e m (runPass e m) := (runPass_fedAt (b := b) id rfl rfl).fed
  have reported : Fed e (runPass e m) (loseProfile e queued b l) := by
    rw [loseProfile, habort]
    exact gateAndPlan_fedAt.fed.after (.beside (c := b) reportSweep_beside)
  exact reported.served (passed.queue hm) (runPass_served hm)

/-- Nothing is left that a pass would admit, where nothing was before or the turn of such a bay is still to come. -/
theorem forBays_loseProfile_served (bays : List Bay) (l : Live) (hq : queueLaw l = true)
    (h : servedLaw e l = true ∨ ∃ b ∈ bays, b ∈ queued ∧ (l.bay b).lsw.sweep = .waitPower) :
    servedLaw e (forBays bays (loseProfile e queued) l) = true := by
  induction bays generalizing l with
  | nil => simpa [forBays] using h
  | cons c rest ih =>
    have turn : FedAt c e l (loseProfile e queued c l) := loseProfile_fedAt
    refine ih _ (turn.queue hq) ?_
    obtain hserved | ⟨b, hb, hmem, hwaits⟩ := h
    · exact .inl (turn.served hq hserved)
    · by_cases hbc : b = c
      · subst hbc
        exact .inl (loseProfile_served hmem hwaits hq)
      · refine (turn.sweeps hq).imp_right fun hsweeps => ?_
        exact ⟨b, List.mem_of_ne_of_mem hbc hb, hmem, (hsweeps b hbc).trans hwaits⟩

/-- What requests taken back without a pass leave. -/
structure Dropped (l l' : Live) : Prop where
  overcommit : l'.fal.overcommit = l.fal.overcommit
  load : committed l' = committed l
  queue : queueLaw l = true → queueLaw l' = true
  sweeps : ∀ b, (l'.bay b).lsw.sweep = (l.bay b).lsw.sweep

theorem dropRequest_dropped : Dropped l (dropRequest b k l) := by
  refine ⟨dropRequest_overcommit, committed_dropRequest, queueLaw_dropRequest, fun c => ?_⟩
  unfold dropRequest
  split
  · exact congrArg LswPart.sweep (modFal_bay_lsw _)
  · exact congrArg LswPart.sweep (modFal_bay_lsw _)
  · rfl

theorem forBays_dropRequest_dropped : Dropped l (forBays bays (dropRequest · k) l) :=
  foldl_chain (R := Dropped) (fun _ => ⟨rfl, rfl, id, fun _ => rfl⟩)
    (fun h h' => ⟨h'.overcommit.trans h.overcommit, h'.load.trans h.load, h'.queue ∘ h.queue,
      fun b => (h'.sweeps b).trans (h.sweeps b)⟩) (fun _ _ => dropRequest_dropped) bays l

/-- No share comes to be QUEUED where a request is taken back. -/
theorem dropRequest_unqueued (h : (shareOf l c j).state ≠ .queued) : (shareOf (dropRequest b k l) c j).state ≠ .queued := by
  have dropped (m : Live) (hm : shareOf m c j = shareOf l c j) : (shareOf (dropShare b k m) c j).state ≠ .queued := by
    rw [dropShare, shareOf_setShare fun _ => .none]
    split
    · exact nofun
    · rwa [hm]
  unfold dropRequest
  split
  · exact dropped _ rfl
  · exact dropped _ rfl
  · exact h

theorem forBays_dropRequest_fed (bays : List Bay) (l : Live) (h : ∀ b ∈ bays, (shareOf l b k).state ≠ .queued) :
    Fed e l (forBays bays (dropRequest · k) l) := by
  induction bays generalizing l with
  | nil => exact .refl _
  | cons c rest ih =>
    obtain ⟨hc, hrest⟩ := List.forall_mem_cons.mp h
    exact (dropRequest_fedAt hc).fed.trans (ih _ fun b hb => dropRequest_unqueued (hrest b hb))

theorem mem_waitingForPower : b ∈ waitingForPower l bays ↔ b ∈ bays ∧ (l.bay b).lsw.sweep = .waitPower := by
  simp [waitingForPower]

theorem profileLost_fed : Fed e l (profileLost e bays l) := by
  let flagged := setMissing true bays l
  let waiting := waitingForPower flagged bays
  let queued := waiting.filter (isQueued flagged · .lamp)
  let stripped := forBays waiting (dropRequest · .lamp) flagged
  have hflag : Fed e l flagged := .beside (c := 0) setMissing_beside
  have hdrop : Dropped flagged stripped := forBays_dropRequest_dropped
  have hlost : Fed e stripped (profileLost e bays l) := forBays_fed (f := loseProfile e queued) fun _ _ => loseProfile_fedAt.fed
  have dueOrServed (hq : queueLaw flagged = true) (hs : servedLaw e flagged = true) :
      servedLaw e stripped = true ∨ ∃ b ∈ bays, b ∈ queued ∧ (stripped.bay b).lsw.sweep = .waitPower := by
    by_cases h : ∃ b, b ∈ queued
    · obtain ⟨b, hb⟩ := h
      obtain ⟨hbays, hwaits⟩ := mem_waitingForPower.mp (List.mem_of_mem_filter hb)
      exact .inr ⟨b, hbays, hb, (hdrop.sweeps b).trans hwaits⟩
    · refine .inl ((forBays_dropRequest_fed waiting flagged fun b hb hqueued => h ⟨b, ?_⟩).served hq hs)
      exact List.mem_filter.mpr ⟨hb, isQueued_iff.mpr hqueued⟩
  refine ⟨fun h => hlost.overcommit ?_, fun hq => hlost.queue (hdrop.queue (hflag.queue hq)), fun hq hs => ?_⟩
  · have h' := overcommitLaw_iff.mp (hflag.overcommit h)
    exact overcommitLaw_iff.mpr (by rw [hdrop.overcommit, hdrop.load]; exact h')
  · exact forBays_loseProfile_served bays stripped (hdrop.queue (hflag.queue hq)) (dueOrServed (hflag.queue hq) (hflag.served hq hs))

theorem profileFound_fed : Fed e l (profileFound e bays l) :=
  (forBays_fed (f := fun b l => plannabilityNotice e b (evalLampGate e true b l)) fun _ _ => gateAndPlan_fedAt.fed).after
    (.beside (c := 0) setMissing_beside)

theorem profileWritten_fed : Fed e l (profileWritten pr e l) := by
  simp only [profileWritten]
  split
  · exact recomputeProfile_fed.after (FeederKept.after (.beside (c := 0) evalProfileGates_beside) profileFound_fed)
  · exact profileLost_fed

end Sys2Proof.Machine

/-! # Every step keeps the feeder laws (R115, R122, R125, R126)

What changes the part as a whole: tables and parameters written, the loader, the management operations, the trunk, the clock. -/
namespace Sys2Proof.Machine

variable {e : Env} {b : Bay} {l : Live} {d d' : Dev} {s : State} {t : TableId} {bytes : List Byte} {port : Port} {x : Byte}

/-- The blocks act, and the limit stands. -/
theorem FeederKept.act {f : Env → Live → Live} (h : ∀ e l, Fed e l (f e l)) : FeederKept d (d.act f) := h d.env d.live

/-- The limit, FAL's row state, the shares and the sweeps stand. -/
theorem FeederKept.stands (hlimit : d'.env.params.feederLimit = d.env.params.feederLimit)
    (h : d'.live.beside 0 = d.live.beside 0) : FeederKept d d' := .of_beside hlimit h

/-! ## Tables and parameters written (R7, R91, R115, R166) -/

theorem evalProfileGates_fed {pr : Fin 8} : Fed e l (evalProfileGates e pr l) := .beside (c := 0) evalProfileGates_beside

/-- The writes before and behind that of the limit leave the feeder. -/
theorem writeParams_fed {p : Params} : FeederKept d (writeParams p d) := by
  let old := d.env.params
  let judged := (d.modParams fun _ => { p with feederLimit := old.feederLimit, reportMask := old.reportMask }).act judgeAll
  let limited := (judged.modParams fun q => { q with feederLimit := p.feederLimit }).act (limitWritten · old.feederLimit)
  have before : FeederKept d judged := .stands rfl judgeAll_beside
  have written : FeederKept judged limited := limitWritten_kept
  have behind : FeederKept limited (writeParams p d) := .stands rfl rfl
  exact before.trans (written.trans behind)

theorem writeEntry_fed {i : Nat} (h : writeEntry t i bytes d = some d') : FeederKept d d' := by
  cases t <;> simp only [writeEntry, Option.map_eq_some_iff] at h <;> obtain ⟨x, -, rfl⟩ := h
  case route => exact .stands rfl rfl
  case poll => exact .stands rfl rfl
  case profile => exact FeederKept.after (.act fun _ _ => profileWritten_fed) (.stands rfl rfl)
  case lamp => exact FeederKept.after (.act fun _ _ => evalProfileGates_fed) (.stands rfl rfl)
  case filter => exact .stands rfl rfl
  case rowparam => exact writeParams_fed

theorem loadEntries_fed (i n : Nat) {r : LoadRun} (h : FeederKept d r.dev) : FeederKept d (loadEntries t x i n r).dev := by
  induction n generalizing i r with
  | zero => exact h
  | succ n ih =>
    unfold loadEntries
    split
    · exact h
    · split
      · exact h
      · split
        · exact h
        · next hw => exact ih _ (h.trans (writeEntry_fed hw))

theorem loadRecord_fed {r : LoadRun} (h : FeederKept d r.dev) : FeederKept d (loadRecord r).dev := by
  unfold loadRecord
  split
  · exact h
  · split
    · exact h
    · split
      · simp only
        split
        · exact h
        · split
          · exact h
          · exact loadEntries_fed _ _ h
      · exact h

theorem loadRecords_fed (n : Nat) {r : LoadRun} (h : FeederKept d r.dev) : FeederKept d (loadRecords n r).dev := by
  induction n generalizing r with
  | zero => exact h
  | succ n ih =>
    unfold loadRecords
    split
    · exact h
    · exact ih (loadRecord_fed h)

theorem runLoad_fed {records : List Byte} : FeederKept d (runLoad records d).2.2 := by
  have loaded := loadRecords_fed records.length (r := { dev := d, written := 0, stop := none, rest := records }) (.refl d)
  simp only [runLoad, reportLoaded]
  split
  · exact loaded.trans (.stands rfl rfl)
  · exact loaded

/-! ## The loader (R174) -/

theorem endLoader_fed {result : LoaderResult} : FeederKept d (endLoader result d) := .stands rfl rfl

theorem phase_fed {ph : LoaderPhase} : FeederKept d (d.phase ph).dev := .stands rfl rfl

theorem loaderEntry_fed {i n : Nat} : FeederKept d (loaderEntry t i n bytes d).dev := by
  unfold loaderEntry
  split
  · exact .refl d
  · next d' h =>
    have counted : FeederKept d { d' with live := d'.live.modLoader fun m => { m with written := m.written + 1 } } :=
      (writeEntry_fed h).trans (.stands rfl rfl)
    simp only
    split
    · exact phase_fed.after counted
    · split
      · exact counted
      · exact phase_fed.after counted

theorem loaderAct_fed : FeederKept d (loaderAct x d).dev := by
  unfold loaderAct
  split
  · split
    · exact phase_fed
    · exact .refl d
  · exact phase_fed
  · exact phase_fed.after (.stands rfl rfl)
  · split
    · exact phase_fed
    · exact .refl d
  · exact phase_fed
  · exact phase_fed
  · unfold loaderCount
    split
    · exact .refl d
    · exact phase_fed
  · split
    · exact loaderEntry_fed
    · exact phase_fed

theorem loaderBound_fed : FeederKept d (loaderBound d) := by
  simp only [loaderBound]
  split
  case h_4 =>
    split
    · exact endLoader_fed
    · split
      · exact endLoader_fed
      · exact .refl d
  all_goals exact .refl d

theorem loaderByte_fed : FeederKept d (loaderByte x d) := by
  have acted := loaderAct_fed (d := d) (x := x)
  unfold loaderByte
  split
  · split
    · next h =>
      rw [h] at acted
      exact endLoader_fed.after acted
    · next h =>
      rw [h] at acted
      exact loaderBound_fed.after (acted.trans (.stands rfl rfl))
  · exact .refl d

theorem loaderNoack_fed : FeederKept d (loaderNoack d) := by
  unfold loaderNoack
  split
  · exact endLoader_fed
  · exact .refl d

/-! ## Resets (R21, R114, R169) -/

/-- A row in which every bay is reset has no load, and the laws hold in it. -/
theorem FeederKept.of_reset (hfal : d'.live.fal = .reset) (hbays : d'.live.bays = resetBays) : FeederKept d d' := by
  have bay (b : Bay) : d'.live.bay b = BayRec.reset := bay_resetBays _ hbays b
  have unloaded : committed d'.live = 0 := by
    simp only [committed, bay]
    rfl
  refine ⟨fun _ => overcommitLaw_iff.mpr ?_, fun _ => queueLaw_iff.mpr ?_, fun _ _ => servedLaw_iff.mpr (.inr ?_)⟩
  · simp [hfal, unloaded, FalState.reset]
  · simp [hfal, FalState.reset]
  · simp [hfal, FalState.reset]

theorem rowReset_fed : Fed e l (rowReset l) := .of_reset rfl rfl

theorem reset_fed (straps : Straps) : FeederKept d (.reset straps) := .of_reset rfl rfl

/-! ## Management operations (R165 to R170) -/

theorem onBay_fed {f : Env → Bay → Live → Status × Live} (h : ∀ e b l, Fed e l (f e b l).2) : FeederKept d (onBay x f d).2.2 := by
  unfold onBay
  split
  · exact .refl d
  · exact h _ _ _

/-- An operation of a bay that does not concern the feeder. -/
theorem onBay_beside {f : Env → Bay → Live → Status × Live} (h : ∀ e b l, (f e b l).2.beside 0 = l.beside 0) :
    FeederKept d (onBay x f d).2.2 := onBay_fed fun _ _ _ => .beside (h _ _ _)

theorem feederSet_fed {limit : Nat} : FeederKept d (feederSet limit d).2.2 := by
  unfold feederSet
  split
  · exact .refl d
  · exact limitWritten_kept

theorem run_fed (m : MgmtOp) : FeederKept d (m.run d).2.2 := by
  cases m with
  | load records => exact runLoad_fed
  | read target selectors => exact .refl d
  | ident bay => exact onBay_beside fun _ _ _ => ident_beside
  | lampCheck bay gf gl pf pl order => exact onBay_fed fun _ _ _ => lampCheck_fed
  | lampStop bay => exact onBay_fed fun _ _ _ => lampStop_fed
  | faultRead bay => exact onBay_beside fun _ _ _ => faultRead_beside
  | faultClear bay => exact onBay_beside fun _ _ _ => faultClear_beside
  | faultFlush bay => exact onBay_beside fun _ _ _ => faultFlush_beside
  | latchShunt bay => exact onBay_beside fun _ _ _ => latchShunt_beside
  | latchLock bay => exact onBay_beside fun _ _ _ => latchLock_beside
  | bayEnable bay => exact onBay_beside fun _ _ _ => bayEnable_beside
  | bayDisable bay => exact onBay_beside fun _ _ _ => bayDisable_beside
  | depAdd n minute bay coach target gates => exact depAdd_fed
  | depChange n names minute bay target gates => exact depChange_fed
  | depCancel n => exact depCancel_fed
  | releaseNow n => exact .stands rfl releaseNow_beside
  | feederSet limit => exact feederSet_fed
  | rowReset => exact rowReset_fed
  | reload => exact .stands rfl rfl

theorem respond_fed {tag op : Byte} {r : Status × List Byte × Dev} (h : FeederKept d r.2.2) : FeederKept d (respond tag op r) :=
  h.trans (.stands rfl rfl)

theorem execute_fed (m : MgmtOp) : FeederKept d (m.execute d).2.2 := by
  unfold MgmtOp.execute
  split
  · exact .refl d
  · exact run_fed m

theorem answerPayload_fed : FeederKept d (answerPayload bytes d) := by
  unfold answerPayload
  split
  · split
    · next m _ => exact respond_fed (execute_fed m)
    · exact respond_fed (.refl d)
  · exact respond_fed (.refl d)

theorem runMgu_fed : FeederKept d (runMgu d) := by
  unfold runMgu
  split
  · split
    · exact answerPayload_fed.after (.stands rfl rfl)
    · exact .refl d
  · exact .refl d

/-! ## What the part does of itself -/

theorem grantTd_fed : FeederKept d (grantTd d) := by
  unfold grantTd
  split
  · exact .stands rfl rfl
  · exact .refl d

theorem grantTu_fed : FeederKept d (grantTu d) := by
  obtain ⟨_, _, _, _, granted⟩ := grantTu_frame d
  rw [granted]
  exact .stands rfl rfl

theorem settle_fed : FeederKept d (settle d) := by
  have begun {k : Dev} : FeederKept k (k.act beginSlot) := .stands rfl beginSlot_beside
  exact begun.after (grantTu_fed.after (runMgu_fed.after (grantTu_fed.after grantTd_fed)))

/-! ## Trunk frames and the clock -/

theorem modClock_fed {f : Clock → Clock} : FeederKept d (d.modClock f) := .stands rfl rfl

theorem minuteTurns_fed : FeederKept d ((d.act announceMinute).act phpMinute) :=
  FeederKept.trans (.act fun _ _ => announceMinute_fed) (.act fun _ _ => phpMinute_fed)

theorem setTime_fed {minute second : Nat} {outside : Int} : FeederKept d (setTime minute second outside d) := by
  simp only [setTime]
  split <;> split
  · exact modClock_fed
  · exact FeederKept.after (.act fun _ _ => recomputeAll_fed) modClock_fed
  · exact minuteTurns_fed.after modClock_fed
  · exact minuteTurns_fed.after (FeederKept.after (.act fun _ _ => recomputeAll_fed) modClock_fed)

theorem takeFrame_fed {f : TrunkFrame} : FeederKept d (takeFrame port f d) := by
  unfold takeFrame
  split
  · unfold takeForRow
    split
    · exact .stands rfl queueMgmt_beside
    · unfold takeTime
      split
      · exact setTime_fed
      · exact .refl d
    · exact .stands rfl countBad_beside
  · exact .stands rfl takeForBay_beside

theorem sortFrame_fed {f : TrunkFrame} : FeederKept d (sortFrame port f d) := by
  have passedOn : FeederKept d (if relayed d.env.straps f then d.act fun e => relay e.straps port f else d) := by
    split
    · exact .stands rfl relay_beside
    · exact .refl d
  simp only [sortFrame]
  split
  · exact takeFrame_fed.after passedOn
  · exact passedOn

theorem receiveFrame_fed : FeederKept d (receiveFrame port bytes d) := by
  unfold receiveFrame
  split
  · exact .stands rfl countBad_beside
  · exact sortFrame_fed

theorem whenAddressed_fed {f : Dev → Dev} (h : ∀ d, FeederKept d (f d)) : FeederKept d (whenAddressed f d) := by
  unfold whenAddressed
  split
  · exact h d
  · exact .refl d

theorem event_fed {f : Env → Live → Live} (h : ∀ e l, Fed e l (f e l)) : FeederKept d (event f d) :=
  whenAddressed_fed fun _ => .act h

/-- An event of a bay that acts in some states and otherwise not. -/
theorem eventIf_fed {c : Env → Live → Prop} [∀ e l, Decidable (c e l)] {f : Env → Live → Live} (h : ∀ e l, Fed e l (f e l)) :
    FeederKept d (event (fun e l => if c e l then f e l else l) d) := by
  refine event_fed fun e l => ?_
  split
  · exact h e l
  · exact .refl _

/-- Such an event that does not concern the feeder. -/
theorem eventIf_beside {c : Env → Live → Prop} [∀ e l, Decidable (c e l)] {f : Env → Live → Live}
    (h : ∀ e l, (f e l).beside 0 = l.beside 0) : FeederKept d (event (fun e l => if c e l then f e l else l) d) :=
  eventIf_fed fun e l => .beside (h e l)

theorem setTimeStale_fed : FeederKept d (setTimeStale d) := .stands rfl rfl

theorem countNoTime_fed : FeederKept d (countNoTime d) := by
  unfold countNoTime
  split
  · exact modClock_fed
  · split
    · exact setTimeStale_fed
    · exact .refl d

theorem timebaseMinute_fed : FeederKept d (timebaseMinute d) :=
  FeederKept.after (whenAddressed_fed fun _ => FeederKept.after (.act fun _ _ => phpMinute_fed)
    (countNoTime_fed.after (.act fun _ _ => announceMinute_fed))) modClock_fed

theorem secondTick_fed : FeederKept d (secondTick d) := by
  have ticked : FeederKept d (event frdTick d) := event_fed fun _ _ => .beside (c := 0) frdTick_beside
  simp only [secondTick]
  split
  · exact modClock_fed.after ticked
  · exact timebaseMinute_fed.after ticked

theorem timeStaleIf_fed : FeederKept d (if d.env.clock.minutesNoTime < 15 then setTimeStale d else d) := by
  split
  · exact setTimeStale_fed
  · exact .refl d

theorem tuEnd_fed : FeederKept d (tuEnd d) := by
  unfold tuEnd
  split
  · exact .refl d
  · exact .stands rfl rfl

/-! ## Every step -/

theorem takeRequest_fed : FeederKept d (takeRequest bytes d) := by
  unfold takeRequest
  split
  · exact answerPayload_fed
  · exact .stands rfl queueMgmt_beside

/-- A command that changes the part and has it settled. -/
theorem after_fed {f : Dev → Dev} (h : ∀ d, FeederKept d (f d)) : FeederKept s.dev (s.after f).dev := settle_fed.after (h s.dev)

theorem submit_fed : FeederKept s.dev (submit bytes s).dev := after_fed fun _ => whenAddressed_fed fun _ => takeRequest_fed

theorem exec_fed (c : Instr) (s : State) : ∃ t, exec c s = .next t ∧ FeederKept s.dev t.dev := by
  cases c with
  | powerOnReset row eot mem => exact ⟨_, rfl, after_fed fun _ => reset_fed _⟩
  | pinReset row eot mem => exact ⟨_, rfl, after_fed fun _ => reset_fed _⟩
  | loaderByteRead x => exact ⟨_, rfl, after_fed fun _ => loaderByte_fed⟩
  | noack => exact ⟨_, rfl, after_fed fun _ => loaderNoack_fed⟩
  | trunkFrameReceived port bytes => exact ⟨_, rfl, after_fed fun _ => receiveFrame_fed⟩
  | receptionBreaksOff port => exact ⟨_, rfl, after_fed fun _ => .stands rfl countBad_beside⟩
  | tuTransmitEnd => exact ⟨_, rfl, after_fed fun _ => tuEnd_fed⟩
  | tdTransmitEnd => exact ⟨_, rfl, after_fed fun _ => .stands rfl rfl⟩
  | exchangeReply bytes => exact ⟨_, rfl, after_fed fun _ => .act fun _ _ => slotReply_fed⟩
  | badReply => exact ⟨_, rfl, after_fed fun _ => .act fun _ _ => slotMiss_fed⟩
  | replyTimeout => exact ⟨_, rfl, after_fed fun _ => .act fun _ _ => slotMiss_fed⟩
  | pollSlotIdleEnd => exact ⟨_, rfl, after_fed fun _ => .stands rfl slotIdleEnd_beside⟩
  | linkSilent b => exact ⟨_, rfl, after_fed fun _ => event_fed fun _ _ => missesReachLimit_fed⟩
  | identFailed b => exact ⟨_, rfl, after_fed fun _ => eventIf_beside fun _ _ => giveUpIdent_beside⟩
  | stepVisitLimit b => exact ⟨_, rfl, after_fed fun _ => eventIf_fed fun _ _ => visitLimit_fed⟩
  | coachBusy b => exact ⟨_, rfl, after_fed fun _ => eventIf_beside fun _ _ => by simp⟩
  | coachSilent b => exact ⟨_, rfl, after_fed fun _ => eventIf_beside fun _ _ => by simp⟩
  | clearTimeout b => exact ⟨_, rfl, after_fed fun _ => eventIf_beside fun _ _ => clearExpires_beside⟩
  | cabinStaleOnset b =>
    exact ⟨_, rfl, after_fed fun _ => eventIf_fed fun _ _ => cabinStaleOnset_fed.after (.beside (c := 0) (modScv_beside _))⟩
  | secondTick => exact ⟨_, rfl, after_fed fun _ => secondTick_fed⟩
  | minuteEvent => exact ⟨_, rfl, after_fed fun _ => timebaseMinute_fed⟩
  | timeStale => exact ⟨_, rfl, after_fed fun _ => whenAddressed_fed fun _ => timeStaleIf_fed⟩
  | parkedSlotExpiry => exact ⟨_, rfl, after_fed fun _ => event_fed fun _ _ => .beside (c := 0) expireSlots_beside⟩
  | mgmtFormatError payload =>
    refine ⟨_, rfl, ?_⟩
    split
    · exact .refl _
    · exact submit_fed
  | load | read | ident | lampCheck | lampStop | faultRead | faultClear | faultFlush | latchShunt | latchLock | bayEnable | bayDisable
  | depAdd | depChange | depCancel | releaseNow | feederSet | rowReset | reload => exact ⟨_, rfl, submit_fed⟩

theorem step_fed {t : State} (h : step s = .next t) : FeederKept s.dev t.dev := by
  unfold step at h
  split at h
  · cases h
    exact .refl _
  · next c rest _ =>
    obtain ⟨t', ht, kept⟩ := exec_fed c { s with pending := rest }
    rw [ht] at h
    cases h
    exact kept

/-! ## What a pass does (R118, R122) -/

/-- A share the pass tells of is admitted with its amount. -/
theorem Share.passed_told {told : List (Bay × ShareKind)} {k : ShareKind} {s : Share} (h : (b, k) ∈ told) :
    s.passed told b k = { s with state := .admitted } := by
  simp [Share.passed, passedState, Share.to, h]

/-- Another share stands, unless it was held and its base share is admitted. -/
theorem Share.passed_untold {told : List (Bay × ShareKind)} {k : ShareKind} {s : Share} (h : (b, k) ∉ told) :
    s.passed told b k = if s.state = .held ∧ k ≠ .base ∧ (b, .base) ∈ told then { s with state := .queued } else s := by
  by_cases held : s.state = .held ∧ k ≠ .base ∧ (b, .base) ∈ told
  · simp [Share.passed, passedState, Share.to, h, held]
  · simp [Share.passed, passedState, Share.to, h, held]

/-- Settles O60: every step keeps the feeder laws together (`step_fed`), and a pass makes the grants of `Grants`. -/
theorem everyStepKeepsTheOvercommitFlag : Obligations.EveryStepKeepsTheOvercommitFlag := by
  refine ⟨fun s t hlaw hstep => (step_fed hstep).overcommit hlaw,
    fun s t hqueue hserved hstep => ⟨(step_fed hstep).queue hqueue, (step_fed hstep).served hqueue hserved⟩,
    fun e l => ⟨admissionPass_overcommitted, fun _ => ⟨admissionPass_served e l, ?_⟩⟩⟩
  have grants := admissionPass_grants e l
  refine ⟨grants.committed_le, fun b k => ⟨fun htold => ?_, fun huntold => ?_⟩⟩
  · exact (grants.share b k).trans (Share.passed_told htold)
  · exact (grants.share b k).trans (Share.passed_untold huntold)

end Sys2Proof.Machine

/-! # FEEDER SET writes the limit (R115, R116, R125, R126) -/
namespace Sys2Proof.Machine

variable {e : Env} {b c : Bay} {l : Live} {s : State} {d : Dev} {tag : Byte} {limit : Half} {old : Nat}

/-! ## The operation (R116) -/

theorem parseOperation_feederSet (limit : Half) :
    parseOperation (MgmtOp.feederSet limit).code (MgmtOp.feederSet limit).params = some (.feederSet limit) :=
  congrArg (fun h => some (MgmtOp.feederSet h)) (halfOf_bytes limit)

/-- The part with the limit written, and the effect of it. -/
def Dev.feederWritten (d : Dev) (limit : Nat) : Dev :=
  (d.modParams fun p => { p with feederLimit := limit }).act (limitWritten · d.env.params.feederLimit)

theorem feederSet_range (h : 4000 < limit.toNat) : feederSet limit.toNat d = (.range, [], d) := if_pos h

theorem feederSet_done (h : limit.toNat ≤ 4000) : feederSet limit.toNat d = (.done, [], d.feederWritten limit.toNat) :=
  if_neg (Nat.not_lt.mpr h)

theorem exec_feederSet_range (hready : ready s = true) (h : 4000 < limit.toNat) :
    exec (.feederSet tag limit) s = .next (s.answers tag 0x30 .range s.live) :=
  congrArg Host.Outcome.next (submit_answers tag hready (parseOperation_feederSet limit) (feederSet_range h))

theorem exec_feederSet_done (hready : ready s = true) (h : limit.toNat ≤ 4000) : exec (.feederSet tag limit) s =
    .next (s.becomes (respond tag 0x30 (.done, [], s.dev.feederWritten limit.toNat))) := by
  refine congrArg Host.Outcome.next ((submit_ready s tag _ hready (parseOperation_feederSet limit)).trans ?_)
  rw [MgmtOp.run, feederSet_done h]
  rfl

/-! ## The effect of a write (R115, R125, R126) -/

theorem limitWritten_same (h : e.params.feederLimit = old) : limitWritten e old l = l := if_pos h

theorem limitWritten_raised (h : old < e.params.feederLimit) : limitWritten e old l = finishPass e (judgeOvercommit e l) := by
  rw [limitWritten, if_neg h.ne', if_pos h]

theorem limitWritten_lowered (h : e.params.feederLimit < old) :
    limitWritten e old l = if e.params.feederLimit < committed l then shed e l else l := by
  rw [limitWritten, if_neg h.ne, if_neg h.not_gt]

/-- OVERCOMMIT stays while the load is above the limit. -/
theorem judgeOvercommit_stays (hover : l.fal.overcommit = true) (h : e.params.feederLimit < committed l) :
    judgeOvercommit e l = (l, []) := if_pos ⟨hover, h⟩

/-- OVERCOMMIT ends, and no request waits for the pass. -/
theorem judgeOvercommit_ends (hqueue : l.fal.queue = []) (h : committed l ≤ e.params.feederLimit) :
    judgeOvercommit e l = ({ l with fal := { l.fal with overcommit := false } }, []) := by
  rw [judgeOvercommit, if_neg fun hstays => h.not_gt hstays.2]
  exact admissionPass_empty hqueue

theorem shedLoop_within {n : Nat} {told : List Bay} (h : committed l ≤ e.params.feederLimit) : shedLoop e n l told = (l, told) := by
  cases n with
  | zero => rfl
  | succ n => rw [shedLoop_succ, if_neg h.not_gt]

theorem shedLoop_sheds {n : Nat} {told : List Bay} (h : e.params.feederLimit < committed l) (hb : chooseShed e l = some b) :
    shedLoop e (n + 1) l told = shedLoop e n (revokeHeat e b l) (told ++ [b]) := by
  rw [shedLoop_succ, if_pos h, hb]

theorem shedLoop_nobody {n : Nat} {told : List Bay} (h : ∀ b, sheddable l b = false) : shedLoop e n l told = (l, told) := by
  cases n with
  | zero => rfl
  | succ n =>
    rw [shedLoop_succ, chooseShed_eq_none_iff.mpr h]
    exact ite_self _

/-- With no heat share to take back OVERCOMMIT is set. -/
theorem shed_nobody (hload : e.params.feederLimit < committed l) (h : ∀ b, sheddable l b = false) : shed e l =
    if l.fal.overcommit = true then l else addReason e .row .overcommit { l with fal := { l.fal with overcommit := true } } := by
  have judged : shed e l = judgeShed e l := by simp only [shed, shedLoop_nobody h, forBays, List.foldl_nil]
  rw [judged, judgeShed, if_pos hload]

theorem shedLoop_sixteen_ends (e : Env) (l : Live) (told : List Bay) :
    committed (shedLoop e 16 l told).1 ≤ e.params.feederLimit ∨ ∀ b, sheddable (shedLoop e 16 l told).1 b = false :=
  shedLoop_ends 16 l told ((List.length_filter_le _ _).trans (List.length_finRange).le)

/-- The order of shedding, by key and then by bay number. -/
theorem departsLater_keys (h : departsLater e l b c = true) :
    match (l.bay b).fal.key, (l.bay c).fal.key with
    | none, some _ => True
    | some _, none => False
    | none, none => c < b
    | some k, some n =>
      distance n e.clock.minute < distance k e.clock.minute ∨ (distance n e.clock.minute = distance k e.clock.minute ∧ c < b) := by
  unfold departsLater at h
  cases hb : (l.bay b).fal.key <;> cases hc : (l.bay c).fal.key <;> simp only [hb, hc] at h ⊢
  case none.none => exact of_decide_eq_true h
  case some.none => cases h
  case some.some k n =>
    split at h
    · next later => exact .inl later
    · next hlater =>
      split at h
      · cases h
      · next hearlier => exact .inr ⟨le_antisymm (not_lt.mp hearlier) (not_lt.mp hlater), of_decide_eq_true h⟩

/-- Settles O48: the operation by its three answers, the effect by the cases of `limitWritten`, the order by `shedRank`. -/
theorem feederSetWritesTheLimit : Obligations.FeederSetWritesTheLimit := by
  refine ⟨fun s tag limit ha hqueue hmrsp => ?_, fun e old l => ?_, fun e l b => ?_, fun e l told => ?_⟩
  · have free (hrun : s.live.mgu.loader.running = false) : ready s = true := (ready_iff s).mpr ⟨ha, hrun, hqueue, hmrsp⟩
    refine ⟨fun hrun => ?_, fun hrun habove => exec_feederSet_range (free hrun) habove,
      fun hrun hwithin => exec_feederSet_done (free hrun) hwithin⟩
    exact congrArg Host.Outcome.next (submit_loading ha hqueue hmrsp hrun rfl (parseOperation_feederSet limit))
  · refine ⟨limitWritten_same, fun hlow hfits => ?_, fun hrise hload hover => ?_, fun hrise hfits hqueue => ?_,
      fun hlow hload hnobody => ?_⟩
    · rw [limitWritten_lowered hlow, if_neg hfits.not_gt]
    · rw [limitWritten_raised hrise, judgeOvercommit_stays hover hload, finishPass_nil]
    · rw [limitWritten_raised hrise, judgeOvercommit_ends hqueue hfits, finishPass_nil]
    · rw [limitWritten_lowered hlow, if_pos hload, shed_nobody hload hnobody]
  · exact ⟨sheddable_iff, chooseShed_eq_none_iff,
      fun hb => ⟨sheddable_of_chooseShed hb, fun c hc hne => departsLater_keys (departsLater_of_chooseShed hb hc hne)⟩⟩
  · exact ⟨shedLoop_within, fun b hload hb => shedLoop_sheds hload hb, shedLoop_sixteen_ends e l told⟩

end Sys2Proof.Machine

/-! # The record cells and the fault lists (R139, R140)

What the laws of the cells speak of is a `CellStore`: the free cells, the cache, and the list of each bay with its blocking count. Nearly
every act leaves it as it stands; what FRD stores, what a coach takes along, and what the cache gives up keeps its laws. -/
namespace Sys2Proof.Machine

variable {e : Env} {b : Bay} {l l' l'' : Live}

/-- Free cells, cache, and each bay's fault list with its blocking count. -/
structure CellStore where
  free : Nat
  cache : List ParkedSlot
  lists : Bay → List FaultRecord
  blocking : Bay → Nat

/-- The store in the fields of a live state. -/
def storeOf (free : Nat) (cache : List ParkedSlot) (bays : Vector BayRec 16) : CellStore :=
  { free := free, cache := cache, lists := fun b => bays[b].frd.list, blocking := fun b => bays[b].frd.blocking }

/-- The store of a live state. -/
def Live.store (l : Live) : CellStore := storeOf l.pool.free l.cache l.bays

@[simp] theorem storeOf_live (l : Live) : storeOf l.pool.free l.cache l.bays = l.store := rfl

/-- A live state written out has its store in three fields. -/
@[simp] theorem store_mk (tsw : TswState) (mgu : MguState) (reports : Reports) (walk : Walk) (cache : List ParkedSlot) (pool : Pool)
    (rejects : Nat) (fal : FalState) (departures : List DepEntry) (bays : Vector BayRec 16) :
    Live.store ⟨tsw, mgu, reports, walk, cache, pool, rejects, fal, departures, bays⟩ = storeOf pool.free cache bays := rfl

theorem store_congr (hfree : l'.pool.free = l.pool.free) (hcache : l'.cache = l.cache)
    (hlist : ∀ c, (l'.bay c).frd.list = (l.bay c).frd.list) (hblocking : ∀ c, (l'.bay c).frd.blocking = (l.bay c).frd.blocking) :
    l'.store = l.store := by
  have lists : l'.store.lists = l.store.lists := funext hlist
  have blocking : l'.store.blocking = l.store.blocking := funext hblocking
  cases hl : l.store
  cases hl' : l'.store
  simp_all [Live.store, storeOf]

/-! ## The laws -/

/-- R139, R140: 256 cells in all, and every list, of a bay or in the cache, lawful. -/
structure CellStore.Sound (s : CellStore) : Prop where
  total : s.free + ∑ b, heldCells (s.lists b) + (s.cache.map fun x => heldCells x.list).sum = 256
  bays : ∀ b, faultListLaw (s.lists b) (s.blocking b) = true
  parked : ∀ x ∈ s.cache, faultListLaw x.list x.blocking = true

theorem bayCells_eq (l : Live) : bayCells l = ∑ b, heldCells (l.bay b).frd.list := by
  rw [bayCells, toList_eq_map_bay, List.map_map, Fin.sum_univ_def]
  rfl

theorem store_sound_iff (l : Live) : l.store.Sound ↔ cellLaw l = true ∧ faultLaw l = true := by
  have total : cellLaw l = true ↔ l.pool.free + ∑ b, heldCells (l.bay b).frd.list + cacheCells l = 256 := by
    rw [cellLaw, beq_iff_eq, bayCells_eq, Config.poolCells]
  have lists : faultLaw l = true ↔ (∀ b, faultListLaw (l.bay b).frd.list (l.bay b).frd.blocking = true) ∧
      ∀ x ∈ l.cache, faultListLaw x.list x.blocking = true := by
    simp [faultLaw, toList_eq_map_bay, allBays]
  rw [total, lists]
  exact ⟨fun h => ⟨h.total, h.bays, h.parked⟩, fun ⟨ht, hb, hp⟩ => ⟨ht, hb, hp⟩⟩

theorem faultListLaw_iff (list : List FaultRecord) (blocking : Nat) : faultListLaw list blocking = true ↔
    heldCells list ≤ 64 ∧ (list.map fun x => (x.source, x.code)).Nodup ∧ (list.filter (·.block)).length ≤ blocking := by
  simp only [faultListLaw, distinctFaults, Bool.and_eq_true, decide_eq_true_eq, and_assoc]
  rfl

theorem faultListLaw_nil (blocking : Nat) : faultListLaw [] blocking = true := by simp [faultListLaw_iff, heldCells]

/-- The laws are kept. -/
def CellsKept (l l' : Live) : Prop := l.store.Sound → l'.store.Sound

theorem CellsKept.refl (l : Live) : CellsKept l l := id

theorem CellsKept.trans (h : CellsKept l l') (h' : CellsKept l' l'') : CellsKept l l'' := h' ∘ h

/-- The same chain, written with the last operation first, as an application stands. -/
theorem CellsKept.after (h' : CellsKept l' l'') (h : CellsKept l l') : CellsKept l l'' := h.trans h'

/-- The laws are a matter of the store alone. -/
theorem CellsKept.of_store (h : l'.store = l.store) : CellsKept l l' := by
  rw [CellsKept, h]
  exact id

/-- The list of one bay changes, and cells pass between it, the cache and the pool. -/
theorem CellsKept.relist (hothers : ∀ c, c ≠ b → (l'.bay c).frd.list = (l.bay c).frd.list ∧
      (l'.bay c).frd.blocking = (l.bay c).frd.blocking)
    (hcells : l'.pool.free + heldCells (l'.bay b).frd.list + cacheCells l' =
      l.pool.free + heldCells (l.bay b).frd.list + cacheCells l)
    (hlaw : l.store.Sound → faultListLaw (l'.bay b).frd.list (l'.bay b).frd.blocking = true)
    (hparked : l.store.Sound → ∀ x ∈ l'.cache, faultListLaw x.list x.blocking = true) : CellsKept l l' := by
  intro h
  have parted (k : Live) : ∑ c, heldCells (k.bay c).frd.list =
      heldCells (k.bay b).frd.list + ∑ c ∈ Finset.univ.erase b, heldCells (k.bay c).frd.list :=
    (Finset.add_sum_erase _ (fun c => heldCells (k.bay c).frd.list) (Finset.mem_univ b)).symm
  have others : ∑ c ∈ Finset.univ.erase b, heldCells (l'.bay c).frd.list =
      ∑ c ∈ Finset.univ.erase b, heldCells (l.bay c).frd.list :=
    Finset.sum_congr rfl fun c hc => by rw [(hothers c (Finset.ne_of_mem_erase hc)).1]
  refine ⟨?_, fun c => ?_, hparked h⟩
  · have total : l.pool.free + ∑ c, heldCells (l.bay c).frd.list + cacheCells l = 256 := h.total
    change l'.pool.free + ∑ c, heldCells (l'.bay c).frd.list + cacheCells l' = 256
    rw [parted] at total ⊢
    omega
  · by_cases hc : c = b
    · rw [hc]
      exact hlaw h
    · change faultListLaw (l'.bay c).frd.list (l'.bay c).frd.blocking = true
      rw [(hothers c hc).1, (hothers c hc).2]
      exact h.bays c

/-! ## What stands -/

/-- One record changes beside its list. -/
theorem modBay_store {f : BayRec → BayRec} (hlist : (f (l.bay b)).frd.list = (l.bay b).frd.list)
    (hblocking : (f (l.bay b)).frd.blocking = (l.bay b).frd.blocking) : (l.modBay b f).store = l.store :=
  store_congr rfl rfl (bays_modBay (R := fun r r' => r'.frd.list = r.frd.list) (fun _ => rfl) hlist)
    (bays_modBay (R := fun r r' => r'.frd.blocking = r.frd.blocking) (fun _ => rfl) hblocking)

@[simp] theorem modBtb_store (f : BtbPart → BtbPart) : (l.modBtb b f).store = l.store := modBay_store rfl rfl
@[simp] theorem modBlm_store (f : BlmPart → BlmPart) : (l.modBlm b f).store = l.store := modBay_store rfl rfl
@[simp] theorem modScv_store (f : ScvPart → ScvPart) : (l.modScv b f).store = l.store := modBay_store rfl rfl
@[simp] theorem modLsw_store (f : LswPart → LswPart) : (l.modLsw b f).store = l.store := modBay_store rfl rfl
@[simp] theorem modFal_store (f : FalPart → FalPart) : (l.modFal b f).store = l.store := modBay_store rfl rfl
@[simp] theorem modDpc_store (f : DpcPart → DpcPart) : (l.modDpc b f).store = l.store := modBay_store rfl rfl

/-- FRD's part changes beside its list. -/
@[simp] theorem modFrd_store (f : FrdPart → FrdPart) (hlist : ∀ c, (f c).list = c.list)
    (hblocking : ∀ c, (f c).blocking = c.blocking) : (l.modFrd b f).store = l.store := modBay_store (hlist _) (hblocking _)

@[simp] theorem addReason_store {n : ReportNumber} {x : Reason} : (addReason e n x l).store = l.store := rfl
@[simp] theorem addBayReason_store {x : Reason} : (addBayReason e b x l).store = l.store := rfl
@[simp] theorem modTsw_store {f : TswState → TswState} : (l.modTsw f).store = l.store := rfl
@[simp] theorem modLoader_store {f : Loader → Loader} : (l.modLoader f).store = l.store := rfl
@[simp] theorem withdrawJob_store {o : Owner} : (withdrawJob b o l).store = l.store := modBlm_store _
@[simp] theorem placeJob_store {f : JobFrame} : (placeJob b f l).store = l.store := modBlm_store _

/-- What every action of a list leaves is left behind all of them. -/
theorem foldl_store {α : Type} {f : Live → α → Live} (step : ∀ l x, (f l x).store = l.store) (xs : List α) (l : Live) :
    (xs.foldl f l).store = l.store :=
  foldl_chain (R := fun l l' => l'.store = l.store) (fun _ => rfl) (fun h h' => h'.trans h) step xs l

theorem forBays_store {f : Bay → Live → Live} {bays : List Bay} (step : ∀ b l, (f b l).store = l.store) :
    (forBays bays f l).store = l.store := foldl_store (fun l b => step b l) bays l

/-- The work of LSW, PHP and FAL leaves the store. -/
theorem Supplied.store (h : Supplied l l') : l'.store = l.store :=
  store_congr (by rw [h.row.pool]) h.row.cache (fun c => by rw [(h.bays c).frd]) fun c => by rw [(h.bays c).frd]

section supplied

variable {k : ShareKind} {n : Nat} {key : Option Nat} {on : Bool} {pr : Fin 8} {w : SweepWindow} {o : SweepOrder}

@[simp] theorem setLatch_store {p : Purpose} : (setLatch b p on l).store = l.store := (setLatch_passed (Set.mem_univ _)).supplied.store
@[simp] theorem judge_store : (judge e b l).store = l.store := (judge_passed (Set.mem_univ _)).supplied.store
@[simp] theorem gateNotice_store {g : Gate} {pass : Bool} : (gateNotice e on b g pass l).store = l.store :=
  (gateNotice_passed (Set.mem_univ _)).supplied.store
@[simp] theorem dpcPstat_store : (dpcPstat e b on l).store = l.store := (dpcPstat_passed (Set.mem_univ _)).supplied.store
@[simp] theorem phpPstat_store : (phpPstat b on l).store = l.store := (phpPstat_passed (Set.mem_univ _)).supplied.store
@[simp] theorem falPstat_store : (falPstat e b on l).store = l.store := falPstat_supplied.store
@[simp] theorem requestShare_store : (requestShare e b k n l).store = l.store := requestShare_supplied.store
@[simp] theorem limitWritten_store : (limitWritten e n l).store = l.store := limitWritten_supplied.store
@[simp] theorem dropRequest_lamp_store : (dropRequest b .lamp l).store = l.store :=
  (dropRequest_passed (Set.mem_univ _) (by decide)).supplied.store
@[simp] theorem evalLampGate_store : (evalLampGate e on b l).store = l.store := (evalLampGate_passed (Set.mem_univ _)).supplied.store
@[simp] theorem evalProfileGates_store : (evalProfileGates e pr l).store = l.store := evalProfileGates_supplied.store
@[simp] theorem abortLost_store {queued : List Bay} : (abortLost e queued b l).store = l.store := abortLost_supplied.store
@[simp] theorem stopSweep_store {silent : Bool} : (stopSweep e on silent b l).store = l.store := stopSweep_supplied.store
@[simp] theorem lampCheck_store : (lampCheck e b w o l).2.store = l.store := lampCheck_supplied.store
@[simp] theorem lampStop_store : (lampStop e b l).2.store = l.store := lampStop_supplied.store
@[simp] theorem visitLimit_store : (visitLimit e b l).store = l.store := visitLimit_supplied.store
@[simp] theorem lswExchangeEnd_store : (lswExchangeEnd e b l).store = l.store := lswExchangeEnd_supplied.store
@[simp] theorem lampSample_store {tag : Nat} : (lampSample e b tag n on l).store = l.store := lampSample_supplied.store
@[simp] theorem lswOccupied_store : (lswOccupied e on b l).store = l.store := lswOccupied_supplied.store
@[simp] theorem leavePlan_store : (leavePlan e on b l).store = l.store := leavePlan_supplied.store
@[simp] theorem plannabilityNotice_store : (plannabilityNotice e b l).store = l.store := plannabilityNotice_supplied.store
@[simp] theorem cabinSample_store {t : Int} : (cabinSample e b t l).store = l.store := cabinSample_supplied.store
@[simp] theorem cabinStaleOnset_store : (cabinStaleOnset e b l).store = l.store := cabinStaleOnset_supplied.store
@[simp] theorem recomputeProfile_store : (recomputeProfile e pr l).store = l.store := recomputeProfile_supplied.store
@[simp] theorem recomputeAll_store : (recomputeAll e l).store = l.store := recomputeAll_supplied.store
@[simp] theorem phpMinute_store : (phpMinute e l).store = l.store := phpMinute_supplied.store
@[simp] theorem tellBay_store : (tellBay e b key l).store = l.store := tellBay_supplied.store
@[simp] theorem tellStay_store {names : DepNames} {x : DepEntry} : (tellStay e names b x l).store = l.store := tellStay_supplied.store

@[simp] theorem clearRow_store : (clearRow e b l).store = l.store := by
  have passed {k : Live} : (finishPass e (judgeOvercommit e k)).store = k.store :=
    (finishPass_passed (judgeOvercommit_admitted (queueIn_univ k)) (queueIn_univ k)).supplied.store
  simp [clearRow, passed]

end supplied

end Sys2Proof.Machine

/-! # What the blocks leave of the cells

DPC, SCV, TSW, BLM and BTB do not touch a fault list but where a coach comes or goes, nor does FRD but where a record is stored or a list
emptied. -/
namespace Sys2Proof.Machine

variable {e : Env} {b : Bay} {l : Live} {d d' : Dev} {on : Bool} {n m : Nat} {x : DepEntry} {job : JobFrame} {rs : ReadStatus}
  {cause : AbortCause} {xe : ExchangeEnd} {pr : Fin 8} {bs : List Bay} {sf : SentFrame} {fate : SlotFate} {lk : Link} {port : Port}
  {bytes : List Byte} {t : TableId} {purpose : Purpose}

/-! ## Departures (R152 to R163) -/

@[simp] theorem updateEntry_store {f : DepEntry → DepEntry} : (updateEntry n f l).store = l.store := rfl

@[simp] theorem removeEntry_store : (removeEntry n l).store = l.store := rfl

@[simp] theorem bindEntry_store : (bindEntry e n b l).store = l.store := by simp [bindEntry]

@[simp] theorem dpcOccupied_store : (dpcOccupied e b l).store = l.store := by fun_cases dpcOccupied <;> simp

@[simp] theorem depAdd_store {minute bay : Nat} {coach : Option Nat} {target : Option Int} {gates : GateMask} :
    (depAdd e n minute bay coach target gates l).2.store = l.store := by
  simp only [depAdd]
  repeat' split
  all_goals simp

@[simp] theorem changeEntry_store {names : DepNames} : (changeEntry e names x l).store = l.store := by
  simp only [changeEntry]
  repeat' split
  all_goals simp

@[simp] theorem depChange_store {names : DepNames} : (depChange e n names l).2.store = l.store := by fun_cases depChange <;> simp

@[simp] theorem lockIfReleased_store : (lockIfReleased x l).store = l.store := by fun_cases lockIfReleased <;> simp

@[simp] theorem depCancel_store : (depCancel e n l).2.store = l.store := by
  simp only [depCancel]
  repeat' split
  all_goals simp

@[simp] theorem releaseEntry_store : (releaseEntry e b x l).store = l.store := by simp [releaseEntry]

@[simp] theorem releaseNow_store : (releaseNow e n l).2.store = l.store := by fun_cases releaseNow <;> simp

@[simp] theorem latchShunt_store : (latchShunt b l).2.store = l.store := by fun_cases latchShunt <;> simp

@[simp] theorem latchLock_store : (latchLock b l).2.store = l.store := by
  simp only [latchLock]
  repeat' split
  all_goals simp

@[simp] theorem expireEntry_store : (expireEntry e n l).store = l.store := by
  simp only [expireEntry]
  repeat' split
  all_goals simp

@[simp] theorem judgeAll_store : (judgeAll e l).store = l.store := forBays_store fun _ _ => judge_store

@[simp] theorem restoreOrder_store : (restoreOrder e l).store = l.store := by fun_cases restoreOrder <;> simp

@[simp] theorem releaseAll_store : (releaseAll e l).store = l.store := by
  refine foldl_store (fun l x => ?_) _ l
  split <;> simp

@[simp] theorem expireAll_store : (expireAll e l).store = l.store := foldl_store (fun _ _ => expireEntry_store) _ l

@[simp] theorem dpcMinute_store : (dpcMinute e l).store = l.store := by simp [dpcMinute]

@[simp] theorem settleEntry_store : (settleEntry e purpose b l).store = l.store := by
  simp only [settleEntry]
  repeat' split
  all_goals simp

/-! ## Reads and clears, but for what they store (R134, R136, R137, R143 to R145) -/

@[simp] theorem countStarved_store {p : Placement} : (countStarved e p l).store = l.store := by fun_cases countStarved <;> simp

@[simp] theorem evalFaultGate_store : (evalFaultGate e on b l).store = l.store := by fun_cases evalFaultGate <;> simp

@[simp] theorem placeFrd_store : (placeFrd b job l).store = l.store := by simp [placeFrd]

@[simp] theorem placeChunk_store : (placeChunk b l).store = l.store := by simp [placeChunk]

@[simp] theorem endRead_store : (endRead e on b rs cause l).store = l.store := by simp [endRead]

@[simp] theorem completeRead_store : (completeRead e b l).store = l.store := endRead_store

@[simp] theorem abortRead_store : (abortRead e b cause l).store = l.store := endRead_store

@[simp] theorem stopRead_store : (stopRead e on cause b l).store = l.store := by fun_cases stopRead <;> simp

@[simp] theorem countAttempt_store : (countAttempt e b on job l).store = l.store := by
  simp only [countAttempt]
  repeat' split
  all_goals simp

@[simp] theorem countBusy_store : (countBusy e b job l).store = l.store := by
  simp only [countBusy]
  split <;> simp

@[simp] theorem settleFrd_store : (settleFrd e b job xe l).store = l.store := by fun_cases settleFrd <;> simp

@[simp] theorem frdExchangeEnd_store : (frdExchangeEnd e b xe l).store = l.store := by fun_cases frdExchangeEnd <;> simp

@[simp] theorem clearExpires_store : (clearExpires e b l).store = l.store := by simp [clearExpires]

@[simp] theorem frdTick_store : (frdTick e l).store = l.store :=
  forBays_store fun b l => by fun_cases frdTickBay <;> simp

@[simp] theorem faultClear_store : (faultClear e b l).2.store = l.store := by fun_cases faultClear <;> simp

/-! ## Identification, enable and disable (R2 to R9, R14, R15) -/

@[simp] theorem placeIdent_store : (placeIdent b l).store = l.store := by fun_cases placeIdent <;> simp

@[simp] theorem beginIdent_store : (beginIdent b l).store = l.store := by simp [beginIdent]

@[simp] theorem giveUpIdent_store : (giveUpIdent e b l).store = l.store := by simp [giveUpIdent]

@[simp] theorem btbExchangeEnd_store : (btbExchangeEnd e b on l).store = l.store := by fun_cases btbExchangeEnd <;> simp

@[simp] theorem markDuplicate_store : (markDuplicate e b n pr l).store = l.store := by simp [markDuplicate]

@[simp] theorem ident_store : (ident b l).2.store = l.store := by fun_cases ident <;> simp

@[simp] theorem vacate_store : (vacate e b l).store = l.store := by simp [vacate]

@[simp] theorem plugIn_store : (plugIn e b l).store = l.store := by simp [plugIn]

@[simp] theorem dropExchange_store : (dropExchange b l).store = l.store := by fun_cases dropExchange <;> simp

@[simp] theorem bayDisable_store : (bayDisable b l).2.store = l.store := by fun_cases bayDisable <;> simp [performDisable]

@[simp] theorem bayEnable_store : (bayEnable b l).2.store = l.store := by fun_cases bayEnable <;> simp

/-! ## Samples (R59 to R65) -/

@[simp] theorem takeSample_store {flags tag : Byte} : (takeSample e b flags tag n l).store = l.store := by
  simp only [takeSample, takeCabin, takeLamp]
  repeat' split
  all_goals simp

@[simp] theorem scvMinute_store : (scvMinute e l).store = l.store := forBays_store fun b l => by
  simp only [ageBay]
  split <;> simp

/-! ## The trunk (R42 to R54, R165) -/

@[simp] theorem countBad_store : (countBad port l).store = l.store := rfl

@[simp] theorem offerForward_store {toward : Port} {f : TrunkFrame} : (offerForward toward port f l).store = l.store := by
  unfold offerForward
  split <;> rfl

@[simp] theorem relay_store {straps : Straps} {f : TrunkFrame} : (relay straps port f l).store = l.store := by
  simp only [relay]
  repeat' split
  all_goals simp [countHop]

@[simp] theorem downDecision_store {kind : Byte} : (downDecision e kind bytes b l).store = l.store := by
  simp only [downDecision]
  repeat' split
  all_goals simp [refuseDown]

@[simp] theorem takeForBay_store {f : TrunkFrame} : (takeForBay e port f l).store = l.store := by
  unfold takeForBay
  repeat' split
  case h_2 => exact forBays_store fun b l => by split <;> simp
  all_goals simp

@[simp] theorem sendUp_store {f : OfficeFrame} : (sendUp e b f l).store = l.store := by
  unfold sendUp
  split <;> simp

@[simp] theorem queueMgmt_store : (queueMgmt port bytes l).store = l.store := by
  unfold queueMgmt
  split <;> rfl

/-! ## The bay line (R24 to R36) -/

@[simp] theorem markCarried_store : (markCarried b sf l).store = l.store := by fun_cases markCarried <;> simp

@[simp] theorem beginSlot_store : (beginSlot e l).store = l.store := by
  unfold beginSlot startSlot
  repeat' split
  all_goals simp

@[simp] theorem endSlot_store : (endSlot e fate l).store = l.store := rfl

@[simp] theorem linkReturn_store : (linkReturn e lk b l).store = l.store := by cases lk <;> simp [linkReturn]

@[simp] theorem announceEnd_store : (announceEnd e b sf xe l).store = l.store := by simp [announceEnd]

@[simp] theorem goSilent_store : (goSilent e b l).store = l.store := by simp [goSilent]

@[simp] theorem missesReachLimit_store : (missesReachLimit e b l).store = l.store := by fun_cases missesReachLimit <;> simp

@[simp] theorem handleMiss_store : (handleMiss e b sf l).store = l.store := by
  simp only [handleMiss]
  split <;> simp

@[simp] theorem slotMiss_store : (slotMiss e l).store = l.store := by fun_cases slotMiss <;> simp

@[simp] theorem slotIdleEnd_store : (slotIdleEnd e l).store = l.store := by fun_cases slotIdleEnd <;> simp

/-! ## Tables, parameters and the loader (R7, R91, R166, R174) -/

@[simp] theorem setMissing_store : (setMissing on bs l).store = l.store := forBays_store fun _ _ => modBtb_store _

@[simp] theorem profileWritten_store : (profileWritten pr e l).store = l.store := by
  have judged {f : Bay → Live → Live} (step : ∀ b l, (f b l).store = l.store) (bays : List Bay) (l : Live) :
      (forBays bays (fun b l => plannabilityNotice e b (evalLampGate e true b (f b l))) l).store = l.store :=
    forBays_store fun b l => by simp [step]
  have dropped (bays : List Bay) (l : Live) : (forBays bays (dropRequest · .lamp) l).store = l.store :=
    forBays_store fun _ _ => dropRequest_lamp_store
  simp only [profileWritten]
  split
  · simp [profileFound, judged (f := fun _ l => l)]
  · simp [profileLost, judged, dropped]

theorem writeEntry_store {i : Nat} (h : writeEntry t i bytes d = some d') : d'.live.store = d.live.store := by
  cases t <;> simp only [writeEntry, Option.map_eq_some_iff] at h <;> obtain ⟨x, -, rfl⟩ := h
  case rowparam => simp [writeParams]
  case poll => rfl
  all_goals simp

theorem loadEntries_store {id : Byte} (i n : Nat) (r : LoadRun) : (loadEntries t id i n r).dev.live.store = r.dev.live.store := by
  induction n generalizing i r with
  | zero => rfl
  | succ n ih =>
    unfold loadEntries
    split
    · rfl
    · split
      · rfl
      · split
        · rfl
        · next hwritten => exact (ih _ _).trans (writeEntry_store hwritten)

theorem loadRecord_store (r : LoadRun) : (loadRecord r).dev.live.store = r.dev.live.store := by
  simp only [loadRecord]
  repeat' split
  case h_1.isFalse.isFalse => exact loadEntries_store _ _ _
  all_goals rfl

theorem loadRecords_store (n : Nat) (r : LoadRun) : (loadRecords n r).dev.live.store = r.dev.live.store := by
  induction n generalizing r with
  | zero => rfl
  | succ n ih =>
    unfold loadRecords
    split
    · rfl
    · exact (ih _).trans (loadRecord_store r)

@[simp] theorem runLoad_store : (runLoad bytes d).2.2.live.store = d.live.store := by
  have loaded := loadRecords_store bytes.length { dev := d, written := 0, stop := none, rest := bytes }
  simp only [runLoad, reportLoaded]
  split
  · exact loaded
  · exact loaded

@[simp] theorem endLoader_store {result : LoaderResult} : (endLoader result d).live.store = d.live.store := rfl

theorem loaderEntry_store {i n : Nat} : (loaderEntry t i n bytes d).dev.live.store = d.live.store := by
  unfold loaderEntry
  split
  · rfl
  · next hwritten =>
    have written := writeEntry_store hwritten
    dsimp only
    repeat' split
    all_goals exact written

theorem loaderAct_store {x : Byte} : (loaderAct x d).dev.live.store = d.live.store := by
  unfold loaderAct loaderCount
  repeat' split
  case h_8.isTrue => exact loaderEntry_store
  all_goals rfl

theorem loaderBound_store : (loaderBound d).live.store = d.live.store := by
  simp only [loaderBound]
  repeat' split
  all_goals rfl

@[simp] theorem loaderByte_store {x : Byte} : (loaderByte x d).live.store = d.live.store := by
  have acted := loaderAct_store (d := d) (x := x)
  unfold loaderByte
  split
  · split
    · next h =>
      rw [h] at acted
      exact endLoader_store.trans acted
    · next h =>
      rw [h] at acted
      exact loaderBound_store.trans acted
  · rfl

end Sys2Proof.Machine

/-! # What FRD stores (R138 to R141)

A record stored, lost or merged is one change of FRD's part, behind a placement of cells that may take slots from the cache. Each way a
placement can end is an equation of its own. -/
namespace Sys2Proof.Machine

variable {e : Env} {b : Bay} {l l' : Live} {n k held : Nat} {x old : FaultRecord} {list front back : List FaultRecord}

/-! ## Evictions (R18, R141) -/

/-- The cells of the slots that leave the cache. -/
def slotCells (xs : List ParkedSlot) : Nat := (xs.map fun y => heldCells y.list).sum

theorem evictOldest_cons {y : ParkedSlot} {rest : List ParkedSlot} (h : l.cache = y :: rest) : evictOldest l =
    { l with cache := rest, pool := { l.pool with free := l.pool.free + heldCells y.list } } := by
  simp [evictOldest, h, freeCells]

/-- No slot is evicted where the cells suffice. -/
theorem evictUntil_free (h : n ≤ l.pool.free) : evictUntil n k l = l := by
  cases k with
  | zero => rfl
  | succ k => exact if_pos (.inl h)

/-- One demand more. -/
theorem evictUntil_cons {y : ParkedSlot} {rest : List ParkedSlot} (hcache : l.cache = y :: rest) (h : l.pool.free < n) :
    evictUntil n (k + 1) l = evictUntil n k
      { l with cache := rest, pool := { l.pool with free := l.pool.free + heldCells y.list } } := by
  rw [evictUntil, if_neg (by simp [hcache, h]), evictOldest_cons hcache]

/-- R141: the slots before `y` do not suffice, and with `y` the cells do. -/
theorem evictUntil_enough {early late : List ParkedSlot} {y : ParkedSlot} (hcache : l.cache = early ++ y :: late)
    (hlittle : l.pool.free + slotCells early < n) (henough : n ≤ l.pool.free + slotCells early + heldCells y.list)
    (hk : early.length < k) : evictUntil n k l =
      { l with cache := late, pool := { l.pool with free := l.pool.free + slotCells early + heldCells y.list } } := by
  obtain ⟨k, rfl⟩ := Nat.exists_eq_succ_of_ne_zero (Nat.ne_zero_of_lt hk)
  induction early generalizing l k with
  | nil =>
    rw [evictUntil_cons hcache (by simpa [slotCells] using hlittle), evictUntil_free (by simpa [slotCells] using henough)]
    simp [slotCells]
  | cons z early ih =>
    simp only [slotCells, List.map_cons, List.sum_cons] at hlittle henough ih ⊢
    obtain ⟨k, rfl⟩ := Nat.exists_eq_succ_of_ne_zero (Nat.ne_zero_of_lt (Nat.lt_of_succ_lt_succ hk))
    rw [evictUntil_cons hcache (by omega), ih rfl (by simpa [Nat.add_assoc] using hlittle)
      (by simpa [Nat.add_assoc] using henough) k (Nat.lt_of_succ_lt_succ hk)]
    simp [Nat.add_assoc]

/-- R141: all slots do not suffice. -/
theorem evictUntil_all (hlittle : l.pool.free + cacheCells l < n) (hk : l.cache.length ≤ k) : evictUntil n k l =
    { l with cache := [], pool := { l.pool with free := l.pool.free + cacheCells l } } := by
  obtain ⟨cache, hcache⟩ : ∃ cache, l.cache = cache := ⟨_, rfl⟩
  simp only [cacheCells] at hlittle ⊢
  induction cache generalizing l k with
  | nil =>
    have none : evictUntil n k l = l := by
      cases k with
      | zero => rfl
      | succ k => exact if_pos (.inr hcache)
    rw [none, hcache]
    cases l
    simp_all
  | cons y rest ih =>
    rw [hcache] at hk hlittle ⊢
    simp only [List.map_cons, List.sum_cons] at hlittle ⊢
    obtain ⟨k, rfl⟩ := Nat.exists_eq_succ_of_ne_zero (Nat.ne_zero_of_lt hk)
    rw [evictUntil_cons hcache (by omega), ih (by simpa [Nat.add_assoc] using hlittle) (Nat.le_of_succ_le_succ hk) rfl]
    simp [Nat.add_assoc]

/-! ## How a placement ends (R140) -/

theorem placeCells_quota (h : 64 < held + n) : placeCells held n l = (.quota, l) := if_pos h

/-- A placement within the quota, by what the evictions leave. -/
theorem placeCells_evicted (hquota : held + n ≤ 64) (hevicted : evictUntil n l.cache.length l = l') : placeCells held n l =
    if l'.pool.free < n then (.starved, l') else (.taken, { l' with pool := { l'.pool with free := l'.pool.free - n } }) := by
  subst hevicted
  exact if_neg (Nat.not_lt.mpr hquota)

theorem placeCells_free (hquota : held + n ≤ 64) (h : n ≤ l.pool.free) : placeCells held n l =
    (.taken, { l with pool := { l.pool with free := l.pool.free - n } }) := by
  rw [placeCells_evicted hquota (evictUntil_free h), if_neg (Nat.not_lt.mpr h)]

theorem placeCells_evicting {early late : List ParkedSlot} {y : ParkedSlot} (hquota : held + n ≤ 64)
    (hcache : l.cache = early ++ y :: late) (hlittle : l.pool.free + slotCells early < n)
    (henough : n ≤ l.pool.free + slotCells early + heldCells y.list) : placeCells held n l =
      (.taken, { l with cache := late, pool := { l.pool with free := l.pool.free + slotCells early + heldCells y.list - n } }) := by
  rw [placeCells_evicted hquota (evictUntil_enough hcache hlittle henough (by simp [hcache])), if_neg (Nat.not_lt.mpr henough)]

theorem placeCells_starved (hquota : held + n ≤ 64) (hlittle : l.pool.free + cacheCells l < n) : placeCells held n l =
    (.starved, { l with cache := [], pool := { l.pool with free := l.pool.free + cacheCells l } }) := by
  rw [placeCells_evicted hquota (evictUntil_all hlittle le_rfl), if_pos hlittle]

/-! ## A new record, and a merge (R139) -/

/-- FRD's part behind the placement for a new record. -/
def FrdPart.gains (p : Placement) (x : FaultRecord) (c : FrdPart) : FrdPart :=
  { c with
    list := if p = .taken then c.list ++ [x] else c.list
    lost := if p = .taken then c.lost else bumpTo 255 c.lost
    blocking := if x.block = true then bumpTo 255 c.blocking else c.blocking }

/-- FRD's part with the record of `x`'s fault rewritten as `x`, which may be one more that blocks. -/
def FrdPart.rewrites (x : FaultRecord) (more : Bool) (c : FrdPart) : FrdPart :=
  { c with
    list := c.list.map fun y => if y.sameFault x then x else y
    blocking := if more = true then bumpTo 255 c.blocking else c.blocking }

theorem countBlocking_eq (block : Bool) : countBlocking b block l =
    l.modFrd b fun c => { c with blocking := if block = true then bumpTo 255 c.blocking else c.blocking } := by
  cases block
  · exact (modBay_id l b _ rfl).symm
  · rfl

theorem storeNew_eq {p : Placement × Live} (h : placeCells (heldCells (l.bay b).frd.list) x.cells l = p) :
    storeNew e b x l = (countStarved e p.1 p.2).modFrd b (FrdPart.gains p.1 x) := by
  simp only [storeNew, h, countBlocking_eq, modFrd_eq, modBay_modBay]
  refine modBay_congr _ _ _ _ ?_
  simp only [Function.comp, FrdPart.gains]
  split <;> rfl

theorem putRecord_countBlocking {more : Bool} :
    countBlocking b more (putRecord b x l) = l.modFrd b (FrdPart.rewrites x more) := by
  simp only [putRecord, countBlocking_eq, modFrd_eq, modBay_modBay]
  rfl

/-- The stored record behind a merge that has cells for the new freeze bytes. -/
def mergeWhole (old x : FaultRecord) : FaultRecord := { mergeFields old x with freeze := x.freeze }

theorem mergeRecord_smaller (h : x.cells ≤ old.cells) : mergeRecord e b old x l =
    (freeCells (old.cells - x.cells) l).modFrd b (FrdPart.rewrites (mergeWhole old x) (x.block && !old.block)) := by
  simp only [mergeRecord, if_pos h, putRecord_countBlocking, mergeWhole]

theorem mergeRecord_greater {p : Placement × Live} (h : old.cells < x.cells)
    (hp : placeCells (heldCells (l.bay b).frd.list) (x.cells - old.cells) l = p) : mergeRecord e b old x l =
      (countStarved e p.1 p.2).modFrd b (FrdPart.rewrites
        (if p.1 = .taken then mergeWhole old x else mergeFields old x) (x.block && !old.block)) := by
  simp only [mergeRecord, if_neg (Nat.not_le.mpr h), putRecord_countBlocking, hp, mergeWhole]

/-- A record is rewritten in its place in a list that holds each fault once. -/
theorem map_rewrite (hold : old.sameFault x = true) (hothers : ∀ y ∈ front ++ back, y.sameFault x = false) :
    ((front ++ old :: back).map fun y => if y.sameFault x then x else y) = front ++ x :: back := by
  have stands (ys : List FaultRecord) (h : ∀ y ∈ ys, y.sameFault x = false) :
      (ys.map fun y => if y.sameFault x then x else y) = ys := by
    rw [List.map_congr_left fun y hy => by rw [h y hy]]
    simp
  rw [List.map_append, List.map_cons, stands front fun y hy => hothers y (List.mem_append_left _ hy),
    stands back fun y hy => hothers y (List.mem_append_right _ hy)]
  simp [hold]

/-! ## The record of an image (R138, R139) -/

theorem storeRecord_ignored {r : ReadRecord} (h : effectiveAction e r = .ignore) : storeRecord e b r l = l := by
  simp [storeRecord, h]

/-- The record as it is stored, by its effective action. -/
def ReadRecord.judged (e : Env) (r : ReadRecord) : FaultRecord := r.stored (effectiveAction e r == .block)

theorem storeRecord_new {r : ReadRecord} (h : effectiveAction e r ≠ .ignore)
    (hnew : ∀ y ∈ (l.bay b).frd.list, y.sameFault (r.judged e) = false) : storeRecord e b r l = storeNew e b (r.judged e) l := by
  have find : (l.bay b).frd.list.find? (·.sameFault (r.judged e)) = none :=
    List.find?_eq_none.mpr fun y hy => by simp [hnew y hy]
  unfold storeRecord
  split
  · next hignore => exact absurd hignore h
  · exact (congrArg (fun o => match o with
      | none => storeNew e b (r.judged e) l
      | some old => mergeRecord e b old (r.judged e) l) find)

theorem storeRecord_known {r : ReadRecord} (h : effectiveAction e r ≠ .ignore)
    (hfind : (l.bay b).frd.list.find? (·.sameFault (r.judged e)) = some old) :
    storeRecord e b r l = mergeRecord e b old (r.judged e) l := by
  unfold storeRecord
  split
  · next hignore => exact absurd hignore h
  · exact (congrArg (fun o => match o with
      | none => storeNew e b (r.judged e) l
      | some old => mergeRecord e b old (r.judged e) l) hfind)

/-- A list that holds a fault once finds it there. -/
theorem find_sameFault (hlist : list = front ++ old :: back) (hold : old.sameFault x = true)
    (hothers : ∀ y ∈ front ++ back, y.sameFault x = false) : list.find? (·.sameFault x) = some old := by
  rw [hlist, List.find?_append, List.find?_eq_none.mpr fun y hy => by simp [hothers y (List.mem_append_left _ hy)]]
  simp [hold]

end Sys2Proof.Machine

/-! # Storing a record keeps the laws of the cells (R138 to R141) -/
namespace Sys2Proof.Machine

variable {e : Env} {b : Bay} {l l' : Live} {n m held blocking : Nat} {x y old : FaultRecord} {list front back : List FaultRecord}
  {p : Placement} {more : Bool}

/-! ## Lawful lists (R139) -/

theorem heldCells_append (xs ys : List FaultRecord) : heldCells (xs ++ ys) = heldCells xs + heldCells ys := by
  simp [heldCells]

theorem heldCells_cons (x : FaultRecord) (xs : List FaultRecord) : heldCells (x :: xs) = x.cells + heldCells xs := by
  simp [heldCells]

/-- Every record takes a cell. -/
theorem length_le_heldCells (list : List FaultRecord) : list.length ≤ heldCells list := by
  induction list with
  | nil => exact Nat.zero_le _
  | cons x list ih =>
    have cells : 1 ≤ x.cells := Nat.le_add_right 1 _
    rw [heldCells_cons, List.length_cons]
    omega

theorem blocks_le_heldCells (list : List FaultRecord) : (list.filter (·.block)).length ≤ heldCells list :=
  (List.length_filter_le _ _).trans (length_le_heldCells list)

theorem sameFault_iff : x.sameFault y = true ↔ (x.source, x.code) = (y.source, y.code) := by simp [FaultRecord.sameFault]

theorem sameFault_false_iff : x.sameFault y = false ↔ (x.source, x.code) ≠ (y.source, y.code) := by
  rw [Ne, ← sameFault_iff, Bool.not_eq_true]

/-- One more record that blocks is covered by the count, which stops only above what a list can hold. -/
theorem faultListLaw_counted (hcells : heldCells list ≤ 64) (hdistinct : (list.map fun x => (x.source, x.code)).Nodup)
    (hblocks : (list.filter (·.block)).length ≤ blocking + more.toNat) :
    faultListLaw list (if more = true then bumpTo 255 blocking else blocking) = true := by
  refine (faultListLaw_iff _ _).mpr ⟨hcells, hdistinct, ?_⟩
  have few := (blocks_le_heldCells list).trans hcells
  cases more
  · exact hblocks
  · simp only [bumpTo, if_true, Bool.toNat_true] at hblocks ⊢
    split <;> omega

/-- A new fault joins a lawful list within the quota. -/
theorem faultListLaw_append (h : faultListLaw list blocking = true) (hnew : ∀ y ∈ list, y.sameFault x = false)
    (hquota : heldCells list + x.cells ≤ 64) :
    faultListLaw (list ++ [x]) (if x.block = true then bumpTo 255 blocking else blocking) = true := by
  obtain ⟨-, hdistinct, hblocks⟩ := (faultListLaw_iff _ _).mp h
  refine faultListLaw_counted ?_ ?_ ?_
  · rw [heldCells_append, heldCells_cons]
    simpa [heldCells] using hquota
  · rw [List.map_append, List.nodup_append]
    refine ⟨hdistinct, by simp, fun k hk j hj hkj => ?_⟩
    obtain ⟨y, hy, rfl⟩ := List.mem_map.mp hk
    obtain rfl : j = (x.source, x.code) := by simpa using hj
    exact sameFault_false_iff.mp (hnew y hy) hkj
  · rw [List.filter_append, List.length_append]
    cases hx : x.block <;> simp [hx] <;> omega

/-- A record lost leaves the list, and the count rises where it blocks. -/
theorem faultListLaw_lost (h : faultListLaw list blocking = true) (more : Bool) :
    faultListLaw list (if more = true then bumpTo 255 blocking else blocking) = true := by
  obtain ⟨hcells, hdistinct, hblocks⟩ := (faultListLaw_iff _ _).mp h
  exact faultListLaw_counted hcells hdistinct (by omega)

/-- A fault of a lawful list stands in it once. -/
theorem faultListLaw_split (h : faultListLaw list blocking = true) (hfind : list.find? (·.sameFault x) = some old) :
    ∃ front back, list = front ++ old :: back ∧ old.sameFault x = true ∧ ∀ y ∈ front ++ back, y.sameFault x = false := by
  obtain ⟨-, hdistinct, -⟩ := (faultListLaw_iff _ _).mp h
  obtain ⟨hold, front, back, hlist, hfront⟩ := List.find?_eq_some_iff_append.mp hfind
  refine ⟨front, back, hlist, hold, fun y hy => ?_⟩
  obtain hy | hy := List.mem_append.mp hy
  · simpa using hfront y hy
  · rw [sameFault_false_iff, ← sameFault_iff.mp hold]
    rw [hlist, List.map_append, List.map_cons] at hdistinct
    obtain ⟨hnot, -⟩ := List.nodup_cons.mp (List.nodup_append.mp hdistinct).2.1
    exact fun heq => hnot (heq ▸ List.mem_map_of_mem hy)

/-- A record is rewritten in its place. -/
theorem faultListLaw_rewrite (h : faultListLaw (front ++ old :: back) blocking = true) (hsame : old.sameFault x = true)
    (hcells : heldCells (front ++ x :: back) ≤ 64) (hblock : x.block.toNat ≤ old.block.toNat + more.toNat) :
    faultListLaw (front ++ x :: back) (if more = true then bumpTo 255 blocking else blocking) = true := by
  obtain ⟨-, hdistinct, hblocks⟩ := (faultListLaw_iff _ _).mp h
  refine faultListLaw_counted hcells ?_ ?_
  · rw [List.map_append, List.map_cons] at hdistinct ⊢
    rwa [← sameFault_iff.mp hsame]
  · simp only [List.filter_append, List.filter_cons, List.length_append] at hblocks ⊢
    cases hx : x.block <;> cases ho : old.block <;> simp_all <;> omega

/-! ## Cells placed (R140, R141) -/

/-- Slots have left the cache for the pool. -/
structure Evicted (l l' : Live) : Prop where
  bays : l'.bays = l.bays
  cache : l'.cache.Sublist l.cache
  cells : l'.pool.free + cacheCells l' = l.pool.free + cacheCells l

theorem Evicted.refl (l : Live) : Evicted l l := ⟨rfl, .refl _, rfl⟩

theorem Evicted.trans {l'' : Live} (h : Evicted l l') (h' : Evicted l' l'') : Evicted l l'' :=
  ⟨h'.bays.trans h.bays, h'.cache.trans h.cache, h'.cells.trans h.cells⟩

theorem evictOldest_evicted : Evicted l (evictOldest l) := by
  cases hcache : l.cache with
  | nil => simpa [evictOldest, hcache] using .refl l
  | cons y rest =>
    rw [evictOldest_cons hcache]
    refine ⟨rfl, by simp [hcache], ?_⟩
    simp only [cacheCells, hcache, List.map_cons, List.sum_cons]
    omega

theorem evictUntil_evicted (n k : Nat) (l : Live) : Evicted l (evictUntil n k l) := by
  induction k generalizing l with
  | zero => exact .refl l
  | succ k ih =>
    unfold evictUntil
    split
    · exact .refl l
    · exact evictOldest_evicted.trans (ih _)

/-- Cells have been placed for a list that holds `held`, or not. -/
structure CellsPlaced (held n : Nat) (l : Live) (p : Placement) (l' : Live) : Prop where
  bays : l'.bays = l.bays
  cache : l'.cache.Sublist l.cache
  cells : l'.pool.free + cacheCells l' + (if p = .taken then n else 0) = l.pool.free + cacheCells l
  quota : p = .taken → held + n ≤ 64

theorem Evicted.untaken (h : Evicted l l') (hp : p ≠ .taken) : CellsPlaced held n l p l' :=
  ⟨h.bays, h.cache, by rw [if_neg hp]; exact h.cells, fun htaken => absurd htaken hp⟩

theorem placeCells_placed (held n : Nat) (l : Live) : CellsPlaced held n l (placeCells held n l).1 (placeCells held n l).2 := by
  by_cases hquota : held + n ≤ 64
  · have evicted := evictUntil_evicted n l.cache.length l
    rw [placeCells_evicted hquota rfl]
    split
    · exact evicted.untaken nofun
    · next henough =>
      refine ⟨evicted.bays, evicted.cache, ?_, fun _ => hquota⟩
      have cells := evicted.cells
      simp only [cacheCells, if_true] at cells ⊢
      omega
  · rw [placeCells_quota (Nat.lt_of_not_le hquota)]
    exact (Evicted.refl l).untaken nofun

/-- The count of STARVED is no matter of cells. -/
theorem CellsPlaced.counted (h : CellsPlaced held n l p l') : CellsPlaced held n l p (countStarved e p l') := by
  unfold countStarved
  split
  · exact ⟨h.bays, h.cache, h.cells, h.quota⟩
  · exact h

theorem CellsPlaced.bay (h : CellsPlaced held n l p l') (c : Bay) : l'.bay c = l.bay c := by simp only [Live.bay, h.bays]

/-! ## Records (R139) -/

/-- FRD's part changes with the list behind a placement. -/
theorem CellsPlaced.kept {f : FrdPart → FrdPart} (h : CellsPlaced held n l p l')
    (hcells : heldCells (f (l.bay b).frd).list = heldCells (l.bay b).frd.list + if p = .taken then n else 0)
    (hlaw : l.store.Sound → faultListLaw (f (l.bay b).frd).list (f (l.bay b).frd).blocking = true) :
    CellsKept l (l'.modFrd b f) := by
  refine .relist (b := b) (fun c hc => ?_) ?_ (fun hs => ?_) fun hs y hy => hs.parked y (h.cache.subset hy)
  · rw [bay_modFrd_ne f hc, h.bay]
    exact ⟨rfl, rfl⟩
  · rw [bay_modFrd_self, h.bay]
    have cells := h.cells
    change l'.pool.free + heldCells (f (l.bay b).frd).list + cacheCells l' = _
    omega
  · rw [bay_modFrd_self, h.bay]
    exact hlaw hs

theorem storeNew_kept (hnew : ∀ y ∈ (l.bay b).frd.list, y.sameFault x = false) : CellsKept l (storeNew e b x l) := by
  obtain ⟨p, hp⟩ : ∃ p, placeCells (heldCells (l.bay b).frd.list) x.cells l = p := ⟨_, rfl⟩
  have placed := (placeCells_placed (heldCells (l.bay b).frd.list) x.cells l).counted (e := e)
  rw [hp] at placed
  rw [storeNew_eq hp]
  refine placed.kept ?_ fun hs => ?_
  · simp only [FrdPart.gains]
    split
    · rw [heldCells_append, heldCells_cons]
      rfl
    · rfl
  · simp only [FrdPart.gains]
    split
    · next htaken => exact faultListLaw_append (hs.bays b) hnew (placed.quota htaken)
    · exact faultListLaw_lost (hs.bays b) x.block

/-- A record of a lawful list is rewritten as `y`: the cells follow it, and within the quota the list is lawful. -/
theorem rewrites_lawful {c : FrdPart} (h : faultListLaw c.list c.blocking = true)
    (hfind : c.list.find? (·.sameFault x) = some old) (hy : (y.source, y.code) = (old.source, old.code))
    (hblock : y.block.toNat ≤ old.block.toNat + more.toNat) :
    heldCells (c.rewrites y more).list + old.cells = heldCells c.list + y.cells ∧
      (heldCells (c.rewrites y more).list ≤ 64 → faultListLaw (c.rewrites y more).list (c.rewrites y more).blocking = true) := by
  obtain ⟨front, back, hlist, hold, hothers⟩ := faultListLaw_split h hfind
  have same (z : FaultRecord) : z.sameFault y = z.sameFault x := by
    rw [Bool.eq_iff_iff, sameFault_iff, sameFault_iff, hy, sameFault_iff.mp hold]
  have rewritten : (c.rewrites y more).list = front ++ y :: back := by
    rw [FrdPart.rewrites, hlist]
    exact map_rewrite (by rw [same]; exact hold) fun z hz => by rw [same]; exact hothers z hz
  rw [rewritten, hlist]
  refine ⟨?_, fun hcells => faultListLaw_rewrite (hlist ▸ h) (by rw [same]; exact hold) hcells hblock⟩
  simp only [heldCells_append, heldCells_cons]
  omega

/-- A record that blocks behind a merge comes of one that did, or is counted. -/
theorem mergeFields_block : (mergeFields old x).block.toNat ≤ old.block.toNat + (x.block && !old.block).toNat := by
  cases hold : old.block <;> cases hx : x.block <;> simp [mergeFields, hold, hx]

theorem mergeRecord_kept (hfind : (l.bay b).frd.list.find? (·.sameFault x) = some old) : CellsKept l (mergeRecord e b old x l) := by
  intro hs
  have law : faultListLaw (l.bay b).frd.list (l.bay b).frd.blocking = true := hs.bays b
  obtain ⟨hheld, -, -⟩ := (faultListLaw_iff _ _).mp law
  obtain ⟨hwhole, wholeLaw⟩ := rewrites_lawful (y := mergeWhole old x) law hfind rfl mergeFields_block
  obtain ⟨hfields, fieldsLaw⟩ := rewrites_lawful (y := mergeFields old x) law hfind rfl mergeFields_block
  have whole : (mergeWhole old x).cells = x.cells := rfl
  have fields : (mergeFields old x).cells = old.cells := rfl
  by_cases hsize : x.cells ≤ old.cells
  · rw [mergeRecord_smaller hsize]
    refine CellsKept.relist (b := b) (fun c hc => ?_) ?_ (fun _ => ?_) (fun _ => hs.parked) hs
    · rw [bay_modFrd_ne _ hc]
      exact ⟨rfl, rfl⟩
    · rw [bay_modFrd_self]
      change l.pool.free + (old.cells - x.cells) + heldCells (FrdPart.rewrites _ _ (l.bay b).frd).list + cacheCells l = _
      omega
    · rw [bay_modFrd_self]
      exact wholeLaw (by omega)
  · obtain ⟨p, hp⟩ : ∃ p, placeCells (heldCells (l.bay b).frd.list) (x.cells - old.cells) l = p := ⟨_, rfl⟩
    have placed := (placeCells_placed (heldCells (l.bay b).frd.list) (x.cells - old.cells) l).counted (e := e)
    rw [hp] at placed
    rw [mergeRecord_greater (Nat.lt_of_not_le hsize) hp]
    by_cases htaken : p.1 = .taken
    · have quota := placed.quota htaken
      rw [if_pos htaken]
      refine placed.kept ?_ (fun _ => wholeLaw (by omega)) hs
      rw [if_pos htaken]
      omega
    · rw [if_neg htaken]
      refine placed.kept ?_ (fun _ => fieldsLaw (by omega)) hs
      rw [if_neg htaken]
      omega

theorem storeRecord_kept {r : ReadRecord} : CellsKept l (storeRecord e b r l) := by
  by_cases hignore : effectiveAction e r = .ignore
  · rw [storeRecord_ignored hignore]
    exact .refl l
  · cases hfind : (l.bay b).frd.list.find? (·.sameFault (r.judged e)) with
    | none =>
      have new : ∀ y ∈ (l.bay b).frd.list, y.sameFault (r.judged e) = false := by simpa using hfind
      rw [storeRecord_new hignore new]
      exact storeNew_kept new
    | some old =>
      rw [storeRecord_known hignore hfind]
      exact mergeRecord_kept hfind

end Sys2Proof.Machine

/-! # Every step keeps the cells and the fault lists (R139, R140) -/
namespace Sys2Proof.Machine

variable {e : Env} {b : Bay} {l l' : Live} {d d' : Dev} {s : State} {n : Nat} {pr : Fin 8} {purpose : Purpose} {bytes : List Byte}
  {port : Port}

/-! ## Lists emptied, and reads (R131 to R135, R146 to R148) -/

/-- A list is emptied, and its cells are free again. -/
theorem emptyList_kept : CellsKept l (emptyList b l) := by
  refine .relist (b := b) (fun c hc => ?_) ?_ (fun _ => ?_) fun hs => hs.parked
  · rw [emptyList, bay_modFrd_ne _ hc]
    exact ⟨rfl, rfl⟩
  · rw [emptyList, bay_modFrd_self]
    rfl
  · rw [emptyList, bay_modFrd_self]
    exact faultListLaw_nil 0

theorem startRead_kept : CellsKept l (startRead e b l) := by
  have started : (startRead e b l).store = (emptyList b (withdrawJob b .frd l)).store := by simp [startRead]
  exact CellsKept.after (.of_store started) (emptyList_kept.after (.of_store withdrawJob_store))

/-- FRD's part changes beside its list. -/
theorem modFrd_kept {f : FrdPart → FrdPart} (hlist : ∀ c, (f c).list = c.list) (hblocking : ∀ c, (f c).blocking = c.blocking) :
    CellsKept l (l.modFrd b f) := .of_store (modFrd_store f hlist hblocking)

theorem completeRecord_kept : CellsKept l (completeRecord e b bytes l) := by
  unfold completeRecord
  split
  · exact .refl l
  · next r _ =>
    have stored : CellsKept l ((storeRecord e b r (l.modFrd b fun c => { c with partialBytes := [] })).modFrd b
        fun c => { c with parsed := c.parsed + 1 }) :=
      CellsKept.after (.of_store (modFrd_store _ (fun _ => rfl) fun _ => rfl))
        (storeRecord_kept.after (.of_store (modFrd_store _ (fun _ => rfl) fun _ => rfl)))
    simp only
    split
    · exact CellsKept.after (.of_store completeRead_store) stored
    · exact stored

theorem parseRecordByte_kept {x : Byte} : CellsKept l (parseRecordByte e b n x l) := by
  simp only [parseRecordByte]
  generalize hk : (l.modFrd b fun c => { c with partialBytes := (l.bay b).frd.partialBytes ++ [x] }) = k
  have taken : k.store = l.store := by simp [← hk]
  split
  · exact .of_store taken
  · next m _ =>
    have ended : (if ((l.bay b).frd.partialBytes ++ [x]).length = 6 then
        k.modFrd b fun c => { c with imageEnd := imageEndAt c n m } else k).store = l.store := by
      split
      · simpa using taken
      · exact taken
    split
    · exact .of_store (abortRead_store.trans taken)
    · split
      · exact completeRecord_kept.after (.of_store ended)
      · exact .of_store ended

theorem parseByte_kept {x : Byte} : CellsKept l (parseByte e b n x l) := by
  simp only [parseByte]
  repeat' split
  case h_4 => exact parseRecordByte_kept
  all_goals exact .of_store (by simp)

theorem parseBytes_kept (n : Nat) (bytes : List Byte) (l : Live) : CellsKept l (parseBytes e b n bytes l) := by
  induction bytes generalizing n l with
  | nil =>
    unfold parseBytes
    split <;> exact .of_store (by simp)
  | cons x bytes ih =>
    unfold parseBytes
    split
    · exact (ih _ _).after parseByte_kept
    · exact .refl l

theorem frdCdata_kept : CellsKept l (frdCdata e b n bytes l) := by
  have taken {bytes : List Byte} : CellsKept l (takeChunk e b n bytes l) := by
    have parsed : CellsKept l (parseBytes e b n bytes (l.modFrd b fun c => { c with readPoint := n + bytes.length })) :=
      (parseBytes_kept _ _ _).after (modFrd_kept (fun _ => rfl) fun _ => rfl)
    simp only [takeChunk]
    split
    · exact CellsKept.after (.of_store placeChunk_store) parsed
    · exact parsed
  simp only [frdCdata]
  repeat' split
  case h_1.isTrue => exact taken
  all_goals exact .refl l

theorem frdCdone_kept : CellsKept l (frdCdone e b l) := by
  unfold frdCdone
  split
  · exact startRead_kept
  · exact .refl l

theorem frdPstat_kept {alert : Bool} : CellsKept l (frdPstat e b alert l) := by
  refine CellsKept.after (modFrd_kept (fun _ => rfl) fun _ => rfl) ?_
  split
  · exact startRead_kept
  · exact .refl l

theorem frdOccupied_kept : CellsKept l (frdOccupied e b l) := by
  have judged : CellsKept l (evalFaultGate e true b (l.modFrd b fun c => { c with alertSeen := false, clearTimer := 0 })) :=
    .of_store (by simp)
  simp only [frdOccupied]
  split
  · exact startRead_kept.after judged
  · exact judged

theorem faultRead_kept : CellsKept l (faultRead e b l).2 := by
  unfold faultRead
  split
  · exact startRead_kept
  · exact .refl l

theorem faultFlush_kept : CellsKept l (faultFlush e b l).2 := by
  unfold faultFlush
  split
  · have flushed : (evalFaultGate e true b ((emptyList b l).modFrd b fun c =>
        { c with status := .none, cause := .none })).store = (emptyList b l).store := by simp
    exact CellsKept.after (.of_store flushed) emptyList_kept
  · exact .refl l

/-! ## The cache (R16 to R20) -/

/-- Slots leave the cache for the pool. -/
theorem Evicted.kept (h : Evicted l l') : CellsKept l l' := by
  have bay (c : Bay) : l'.bay c = l.bay c := by simp only [Live.bay, h.bays]
  refine .relist (b := 0) (fun c _ => by rw [bay]; exact ⟨rfl, rfl⟩) ?_ (fun hs => by rw [bay]; exact hs.bays 0)
    fun hs x hx => hs.parked x (h.cache.subset hx)
  have cells := h.cells
  rw [bay]
  omega

/-- The cells of the cache are those of a slot found in it and of the slots that are left without it. -/
theorem slotCells_eraseP {p : ParkedSlot → Bool} {xs : List ParkedSlot} {x : ParkedSlot} (h : xs.find? p = some x) :
    slotCells (xs.eraseP p) + heldCells x.list = slotCells xs := by
  obtain ⟨hp, front, back, rfl, hfront⟩ := List.find?_eq_some_iff_append.mp h
  rw [List.eraseP_append_right _ fun y hy => by simpa using hfront y hy, List.eraseP_cons_of_pos hp]
  simp only [slotCells, List.map_append, List.map_cons, List.sum_append, List.sum_cons]
  omega

theorem evictCoach_kept {coach : Nat} : CellsKept l (evictCoach coach l) := by
  unfold evictCoach
  split
  · exact .refl l
  · next x hfind =>
    have cells := slotCells_eraseP hfind
    refine Evicted.kept { bays := rfl, cache := ?_, cells := ?_ }
    · exact List.eraseP_sublist
    change l.pool.free + heldCells x.list + slotCells (l.cache.eraseP _) = l.pool.free + slotCells l.cache
    omega

/-- R20: the list of the slot becomes that of the bay. -/
theorem divertSlot_kept {coach : Nat} {x : ParkedSlot} (hfind : l.cache.find? (fun y => y.coach == coach) = some x) :
    CellsKept l (divertSlot b x l) := by
  have hcoach : x.coach = coach := by simpa using List.find?_some hfind
  have hmem := List.mem_of_find?_eq_some hfind
  simp only [divertSlot, hcoach]
  refine .relist (b := b) (fun c hc => ?_) ?_ (fun hs => ?_) fun hs y hy => hs.parked y (List.mem_of_mem_eraseP hy)
  · rw [bay_modFrd_ne _ hc, modLsw_bay_frd]
    exact ⟨rfl, rfl⟩
  · rw [bay_modFrd_self]
    have cells := slotCells_eraseP hfind
    change l.pool.free + heldCells (l.bay b).frd.list + heldCells x.list + slotCells (l.cache.eraseP _) =
      l.pool.free + heldCells (l.bay b).frd.list + slotCells l.cache
    omega
  · rw [bay_modFrd_self]
    exact hs.parked x hmem

theorem lookUpCoach_kept {coach : Nat} : CellsKept l (lookUpCoach b coach pr l).1 := by
  unfold lookUpCoach
  split
  · exact .refl l
  · next hfind =>
    split
    · exact divertSlot_kept hfind
    · exact evictCoach_kept

theorem takeIdrp_kept {coach : Nat} : CellsKept l (takeIdrp e b coach pr l) := by
  have accepted : CellsKept l (acceptIdentity e b coach pr l) := by
    simp only [acceptIdentity]
    generalize hk : withdrawJob b .btb (l.modBtb b fun r =>
      { r with coach := coach, profile := pr, dupCoach := false, identFailed := false }) = k
    have known : k.store = l.store := by simp [← hk]
    have found : CellsKept l (lookUpCoach b coach pr k).1 := lookUpCoach_kept.after (.of_store known)
    generalize lookUpCoach b coach pr k = p at found
    exact frdOccupied_kept.after (found.trans (.of_store (by simp)))
  unfold takeIdrp
  repeat' split
  case isTrue.isFalse.isFalse => exact accepted
  all_goals exact .of_store (by simp)

/-- R16: the list of the bay becomes that of the new slot. -/
theorem parkCoach_kept : CellsKept l (parkCoach e b l) := by
  have room : Evicted l (if Config.cacheMax ≤ l.cache.length then evictOldest l else l) := by
    split
    · exact evictOldest_evicted
    · exact .refl l
  have bay (c : Bay) : (if Config.cacheMax ≤ l.cache.length then evictOldest l else l).bay c = l.bay c := by
    simp only [Live.bay, room.bays]
  unfold parkCoach
  generalize (if Config.cacheMax ≤ l.cache.length then evictOldest l else l) = l1 at room bay ⊢
  have bay' (c : Bay) : ({ (l1.modFrd b fun c => { c with list := [], blocking := 0, lost := 0 }) with
      cache := l1.cache ++ [parkedSlot e (l.bay b)] } : Live).bay c =
        (l1.modFrd b fun c => { c with list := [], blocking := 0, lost := 0 }).bay c := rfl
  refine .relist (b := b) (fun c hc => ?_) ?_ (fun _ => ?_) fun hs x hx => ?_
  · rw [bay', bay_modFrd_ne _ hc, bay]
    exact ⟨rfl, rfl⟩
  · rw [bay', bay_modFrd_self]
    have cells := room.cells
    change l1.pool.free + 0 + slotCells (l1.cache ++ [parkedSlot e (l.bay b)]) = l.pool.free + heldCells (l.bay b).frd.list + cacheCells l
    simp only [cacheCells, slotCells, List.map_append, List.sum_append, List.map_cons, List.map_nil, List.sum_singleton,
      parkedSlot] at cells ⊢
    omega
  · rw [bay', bay_modFrd_self]
    exact faultListLaw_nil 0
  · obtain hx | hx := List.mem_append.mp hx
    · exact hs.parked x (room.cache.subset hx)
    · obtain rfl : x = parkedSlot e (l.bay b) := by simpa using hx
      exact hs.bays b

theorem teardown_kept {p : Pstat} : CellsKept l (teardown e b p l) := by
  have parked {k : Live} (h : k.store = l.store) : CellsKept l (vacate e b (parkOrForget e (l.bay b).btb.purpose b k)) := by
    refine CellsKept.after (.of_store vacate_store) (CellsKept.after ?_ (.of_store h))
    unfold parkOrForget
    split
    · exact parkCoach_kept
    · exact emptyList_kept
  have left : (settleEntry e (l.bay b).btb.purpose b ((if
      ((clearRow e b (stopRead e false .plugOut b (stopSweep e false false b l))).bay b).php.state = .none then
        clearRow e b (stopRead e false .plugOut b (stopSweep e false false b l))
      else leavePlan e true b (clearRow e b (stopRead e false .plugOut b (stopSweep e false false b l)))).modBlm b
        fun m => { m.clearFrames with desired := .off, dirty := true })).store = l.store := by
    rw [settleEntry_store, modBlm_store]
    split <;> simp
  simp only [teardown]
  split
  · exact CellsKept.after (.of_store addBayReason_store) (parked left)
  · exact parked left

theorem btbPstat_kept {p : Pstat} : CellsKept l (btbPstat e b p l) := by
  unfold btbPstat
  split
  case h_5 => exact teardown_kept
  case h_7 => exact teardown_kept
  all_goals exact .of_store (by simp)

/-- R17: the slots that are due leave the cache. -/
theorem expireSlots_kept : CellsKept l (expireSlots e l) := by
  have parted (xs : List ParkedSlot) :
      slotCells (xs.filter (slotExpired e)) + slotCells (xs.filter fun x => !slotExpired e x) = slotCells xs := by
    induction xs with
    | nil => rfl
    | cons x xs ih =>
      simp only [slotCells] at ih ⊢
      cases h : slotExpired e x <;> simp [h] <;> omega
  have cells := parted l.cache
  refine Evicted.kept { bays := rfl, cache := ?_, cells := ?_ }
  · exact List.filter_sublist
  change l.pool.free + slotCells (l.cache.filter (slotExpired e)) + slotCells (l.cache.filter fun x => !slotExpired e x) =
    l.pool.free + slotCells l.cache
  omega

/-! ## The bay line and the clock -/

theorem deliver_kept {c : ReplyContent} : CellsKept l (deliver e b c l) := by
  cases c with
  | idrp coach profile => exact takeIdrp_kept
  | cdata offset data => exact frdCdata_kept
  | cdone => exact frdCdone_kept
  | smp flags tag code => exact .of_store takeSample_store
  | office f => exact .of_store sendUp_store
  | stat | cbusy | cnak => exact .refl l

theorem handleReply_kept {sent : SentFrame} {r : Reply} : CellsKept l (handleReply e b sent r l) := by
  have others (k : Live) : (falPstat e b r.pstat.contactorClosed (phpPstat b r.pstat.heaterOn
      (dpcPstat e b r.pstat.latchReleased k))).store = k.store := by simp
  have seen : CellsKept l (handPstat e b r.pstat (l.modBlm b fun m => m.heard.compare r.pstat)) :=
    frdPstat_kept.after (CellsKept.after (.of_store (others _)) (btbPstat_kept.after (.of_store (modBlm_store _))))
  have ended (k : Live) : (announceEnd e b sent (.reply r.content) ((linkReturn e (l.bay b).blm.link b k).modBlm b
      (·.recordEnd (.reply r.pstat.samplePending (sent == .samplePoll))))).store = k.store := by simp
  exact CellsKept.after (.of_store (ended _)) (deliver_kept.after (CellsKept.after (.of_store (modBlm_store _)) seen))

theorem slotReply_kept : CellsKept l (slotReply e bytes l) := by
  unfold slotReply
  split
  · exact .refl l
  · split
    · exact CellsKept.after (.of_store endSlot_store) handleReply_kept
    · exact .of_store (endSlot_store.trans handleMiss_store)
  · exact .of_store endSlot_store

theorem announceMinute_kept : CellsKept l (announceMinute e l) :=
  CellsKept.after (.of_store (scvMinute_store.trans dpcMinute_store)) expireSlots_kept

theorem setTime_kept {minute second : Nat} {outside : Int} : CellsKept d.live (setTime minute second outside d).live := by
  have turned {k : Dev} (h : k.live.store = d.live.store) :
      CellsKept d.live (if minute = d.env.clock.minute then k else (k.act announceMinute).act phpMinute).live := by
    split
    · exact .of_store h
    · rw [act_live, act_live]
      exact CellsKept.after (.of_store phpMinute_store) (announceMinute_kept.after (.of_store h))
  simp only [setTime]
  refine turned ?_
  split <;> simp

theorem receiveFrame_kept : CellsKept d.live (receiveFrame port bytes d).live := by
  have taken {k : Dev} {f : TrunkFrame} (h : k.live.store = d.live.store) : CellsKept d.live (takeFrame port f k).live := by
    refine CellsKept.after ?_ (.of_store h)
    unfold takeFrame
    split
    · unfold takeForRow
      split
      · exact .of_store queueMgmt_store
      · unfold takeTime
        split
        · exact setTime_kept
        · exact .refl _
      · exact .of_store countBad_store
    · exact .of_store takeForBay_store
  have relayed (f : TrunkFrame) :
      (if relayed d.env.straps f then d.act fun e => relay e.straps port f else d).live.store = d.live.store := by
    split <;> simp
  unfold receiveFrame
  split
  · exact .of_store countBad_store
  · next f _ =>
    simp only [sortFrame]
    split
    · exact taken (relayed f)
    · exact .of_store (relayed f)

theorem whenAddressed_kept {f : Dev → Dev} (h : ∀ d, CellsKept d.live (f d).live) : CellsKept d.live (whenAddressed f d).live := by
  unfold whenAddressed
  split
  · exact h d
  · exact .refl _

/-- An event of the blocks that leaves the store. -/
theorem event_kept {f : Env → Live → Live} (h : ∀ e l, (f e l).store = l.store) : CellsKept d.live (event f d).live :=
  whenAddressed_kept fun _ => .of_store (h _ _)

/-- An event of a bay that acts in some states and otherwise not. -/
theorem eventIf_kept {c : Env → Live → Prop} [∀ e l, Decidable (c e l)] {f : Env → Live → Live}
    (h : ∀ e l, (f e l).store = l.store) : CellsKept d.live (event (fun e l => if c e l then f e l else l) d).live :=
  event_kept fun e l => by
    split
    · exact h e l
    · rfl

theorem timebaseMinute_kept : CellsKept d.live (timebaseMinute d).live := by
  have counted (k : Dev) : (countNoTime k).live.store = k.live.store := by
    unfold countNoTime
    repeat' split
    all_goals rfl
  refine whenAddressed_kept (d := d.modClock Clock.nextMinute) fun k => ?_
  rw [act_live]
  refine CellsKept.after (.of_store (phpMinute_store.trans (counted _))) ?_
  rw [act_live]
  exact announceMinute_kept

theorem secondTick_kept : CellsKept d.live (secondTick d).live := by
  have ticked : CellsKept d.live (event frdTick d).live := event_kept fun _ _ => frdTick_store
  simp only [secondTick]
  split
  · exact ticked
  · exact timebaseMinute_kept.after ticked

/-! ## Resets and management operations (R21, R165 to R170) -/

/-- Where every bay is reset, the cache empty and every cell free the laws hold. -/
theorem CellStore.sound_of_reset (hfree : l.pool.free = 256) (hcache : l.cache = []) (hbays : l.bays = resetBays) : l.store.Sound := by
  have bay (b : Bay) : l.bay b = BayRec.reset := bay_resetBays _ hbays b
  have list (b : Bay) : l.store.lists b = [] := congrArg (fun r : BayRec => r.frd.list) (bay b)
  have cache : l.store.cache = [] := hcache
  have free : l.store.free = 256 := hfree
  refine ⟨?_, fun b => ?_, fun x hx => ?_⟩
  · simp [list, cache, free, heldCells]
  · rw [list]
    exact faultListLaw_nil _
  · simp [cache] at hx

theorem onBay_kept {bay : Byte} {f : Env → Bay → Live → Status × Live} (h : ∀ e b l, CellsKept l (f e b l).2) :
    CellsKept d.live (onBay bay f d).2.2.live := by
  unfold onBay
  split
  · exact .refl _
  · exact h _ _ _

/-- An operation of a bay that leaves the store. -/
theorem onBay_store {bay : Byte} {f : Env → Bay → Live → Status × Live} (h : ∀ e b l, (f e b l).2.store = l.store) :
    CellsKept d.live (onBay bay f d).2.2.live := onBay_kept fun _ _ _ => .of_store (h _ _ _)

theorem run_kept (m : MgmtOp) : CellsKept d.live (m.run d).2.2.live := by
  cases m with
  | load records => exact .of_store runLoad_store
  | read target selectors => exact .refl _
  | ident bay => exact onBay_store fun _ _ _ => ident_store
  | lampCheck bay gf gl pf pl order => exact onBay_store fun _ _ _ => lampCheck_store
  | lampStop bay => exact onBay_store fun _ _ _ => lampStop_store
  | faultRead bay => exact onBay_kept fun _ _ _ => faultRead_kept
  | faultClear bay => exact onBay_store fun _ _ _ => faultClear_store
  | faultFlush bay => exact onBay_kept fun _ _ _ => faultFlush_kept
  | latchShunt bay => exact onBay_store fun _ _ _ => latchShunt_store
  | latchLock bay => exact onBay_store fun _ _ _ => latchLock_store
  | bayEnable bay => exact onBay_store fun _ _ _ => bayEnable_store
  | bayDisable bay => exact onBay_store fun _ _ _ => bayDisable_store
  | depAdd n minute bay coach target gates => exact .of_store depAdd_store
  | depChange n names minute bay target gates => exact .of_store depChange_store
  | depCancel n => exact .of_store depCancel_store
  | releaseNow n => exact .of_store releaseNow_store
  | feederSet limit =>
    simp only [MgmtOp.run, feederSet]
    split
    · exact .refl _
    · exact .of_store limitWritten_store
  | rowReset => exact fun _ => CellStore.sound_of_reset rfl rfl rfl
  | reload => exact .of_store modLoader_store

theorem answerPayload_kept : CellsKept d.live (answerPayload bytes d).live := by
  unfold answerPayload
  split
  · split
    · next m _ =>
      unfold MgmtOp.answer MgmtOp.execute
      split
      · exact .refl _
      · exact run_kept m
    · exact .refl _
  · exact .refl _

theorem submit_kept : CellsKept d.live (whenAddressed (takeRequest bytes) d).live := by
  refine whenAddressed_kept fun k => ?_
  unfold takeRequest
  split
  · exact answerPayload_kept
  · exact .of_store queueMgmt_store

/-! ## Every step -/

theorem grantTd_store : (grantTd d).live.store = d.live.store := by
  unfold grantTd
  split <;> rfl

theorem grantTu_store : (grantTu d).live.store = d.live.store := by
  unfold grantTu grantForward grantLane
  repeat' split
  all_goals rfl

theorem settle_kept : CellsKept d.live (settle d).live := by
  have run {k : Dev} : CellsKept k.live (runMgu k).live := by
    unfold runMgu
    split
    · split
      · exact answerPayload_kept.after (.of_store rfl)
      · exact .refl _
    · exact .refl _
  exact CellsKept.after (.of_store (beginSlot_store.trans grantTu_store)) (run.after (.of_store (grantTu_store.trans grantTd_store)))

/-- A command that changes the part and has it settled. -/
theorem after_kept {f : Dev → Dev} (h : ∀ d, CellsKept d.live (f d).live) : CellsKept s.dev.live (s.after f).dev.live :=
  settle_kept.after (h s.dev)

theorem after_store {f : Dev → Dev} (h : ∀ d, (f d).live.store = d.live.store) : CellsKept s.dev.live (s.after f).dev.live :=
  after_kept fun d => .of_store (h d)

theorem exec_kept (c : Instr) (s : State) : ∃ t, exec c s = .next t ∧ CellsKept s.dev.live t.dev.live := by
  cases c with
  | powerOnReset | pinReset => exact ⟨_, rfl, after_kept fun _ _ => CellStore.sound_of_reset rfl rfl rfl⟩
  | loaderByteRead x => exact ⟨_, rfl, after_store fun _ => loaderByte_store⟩
  | noack =>
    refine ⟨_, rfl, after_store fun _ => ?_⟩
    unfold loaderNoack
    split <;> rfl
  | trunkFrameReceived port bytes => exact ⟨_, rfl, after_kept fun _ => receiveFrame_kept⟩
  | receptionBreaksOff port => exact ⟨_, rfl, after_store fun _ => countBad_store⟩
  | tuTransmitEnd =>
    refine ⟨_, rfl, after_store fun _ => ?_⟩
    unfold tuEnd
    split <;> rfl
  | tdTransmitEnd => exact ⟨_, rfl, after_store fun _ => rfl⟩
  | exchangeReply bytes => exact ⟨_, rfl, after_kept fun _ => slotReply_kept⟩
  | badReply | replyTimeout => exact ⟨_, rfl, after_store fun _ => slotMiss_store⟩
  | pollSlotIdleEnd => exact ⟨_, rfl, after_store fun _ => slotIdleEnd_store⟩
  | linkSilent b => exact ⟨_, rfl, after_kept fun _ => event_kept fun _ _ => missesReachLimit_store⟩
  | identFailed b => exact ⟨_, rfl, after_kept fun _ => eventIf_kept fun _ _ => giveUpIdent_store⟩
  | stepVisitLimit b => exact ⟨_, rfl, after_kept fun _ => eventIf_kept fun _ _ => visitLimit_store⟩
  | coachBusy b => exact ⟨_, rfl, after_kept fun _ => eventIf_kept fun _ _ => by simp⟩
  | coachSilent b => exact ⟨_, rfl, after_kept fun _ => eventIf_kept fun _ _ => by simp⟩
  | clearTimeout b => exact ⟨_, rfl, after_kept fun _ => eventIf_kept fun _ _ => clearExpires_store⟩
  | cabinStaleOnset b => exact ⟨_, rfl, after_kept fun _ => eventIf_kept fun _ _ => by simp⟩
  | secondTick => exact ⟨_, rfl, after_kept fun _ => secondTick_kept⟩
  | minuteEvent => exact ⟨_, rfl, after_kept fun _ => timebaseMinute_kept⟩
  | timeStale =>
    refine ⟨_, rfl, after_kept fun _ => whenAddressed_kept fun _ => ?_⟩
    split <;> exact .refl _
  | parkedSlotExpiry => exact ⟨_, rfl, after_kept fun _ => whenAddressed_kept fun _ => expireSlots_kept⟩
  | mgmtFormatError payload =>
    refine ⟨_, rfl, ?_⟩
    split
    · exact .refl _
    · exact after_kept fun _ => submit_kept
  | load | read | ident | lampCheck | lampStop | faultRead | faultClear | faultFlush | latchShunt | latchLock | bayEnable | bayDisable
  | depAdd | depChange | depCancel | releaseNow | feederSet | rowReset | reload => exact ⟨_, rfl, after_kept fun _ => submit_kept⟩

/-- Settles O57: the laws are `CellStore.Sound`, which the command at the front of the queue keeps. -/
theorem everyStepKeepsTheCells : Obligations.EveryStepKeepsTheCells := by
  intro s t hcells hfaults hstep
  have sound : s.live.store.Sound := (store_sound_iff _).mpr ⟨hcells, hfaults⟩
  refine (store_sound_iff _).mp ?_
  unfold step at hstep
  split at hstep
  · cases hstep
    exact sound
  · next c rest _ =>
    obtain ⟨t', ht, kept⟩ := exec_kept c { s with pending := rest }
    rw [ht] at hstep
    cases hstep
    exact kept sound

end Sys2Proof.Machine

/-! # What FRD's acts write (R132, R134, R137, R143) -/
namespace Sys2Proof.Machine

variable {e : Env} {b : Bay} {l : Live} {judging : Bool} {f : JobFrame} {cause : AbortCause}

/-- R143: a gate that fails stays as it is while the read is not COMPLETE. -/
theorem evalFaultGate_shut (hgate : (l.bay b).frd.gate = false) (h : (l.bay b).frd.status ≠ .complete) :
    evalFaultGate e judging b l = l := by
  simp [evalFaultGate, faultGateNow, hgate, h]

/-- R137: behind a gate that fails an abort withdraws the frame and is reported. -/
theorem abortRead_eq (hgate : (l.bay b).frd.gate = false) :
    abortRead e b cause l = addBayReason e b .faultDone (l.modBay b (aborted cause)) := by
  have ended : (withdrawJob b .frd l).modFrd b (fun c =>
      { c with status := .aborted, cause := cause, partialBytes := [], current := none, carried := false }) =
        l.modBay b (aborted cause) := by
    simp only [withdrawJob, modBlm_eq, modFrd_eq, modBay_modBay]
    rfl
  have record : (l.modBay b (aborted cause)).bay b = aborted cause (l.bay b) := bay_modBay_self _
  rw [abortRead, endRead, ended, evalFaultGate_shut]
  · rw [record]
    exact hgate
  · rw [record]
    exact nofun

theorem placeFrd_eq (b : Bay) (f : JobFrame) (l : Live) : placeFrd b f l = l.modBay b fun x =>
    { x with blm := x.blm.place f, frd := { x.frd with current := some f, carried := false } } := by
  simp only [placeFrd, placeJob, modBlm_eq, modFrd_eq, modBay_modBay]
  rfl

@[simp] theorem freeCells_bay (n : Nat) (l : Live) (c : Bay) : (freeCells n l).bay c = l.bay c := rfl

theorem freeCells_modBay (n : Nat) (g : BayRec → BayRec) : (freeCells n l).modBay b g = freeCells n (l.modBay b g) := rfl

/-- R134: the first chunk of an image asks for 32 bytes at offset 0. -/
theorem nextCrd_first {c : FrdPart} (hpoint : c.readPoint = 0) (hend : c.imageEnd = none) : nextCrd c = .crd 0 32 := by
  rw [nextCrd, hpoint, hend]
  rfl

/-- R132: from an empty slot and behind a gate that fails, a read starts with an empty list and asks for the first 32 bytes. -/
theorem startRead_eq (hgate : (l.bay b).frd.gate = false) (hjob : (l.bay b).blm.job = none)
    (hclaim : (l.bay b).blm.claimFrd = none) :
    startRead e b l = freeCells (heldCells (l.bay b).frd.list) (l.modBay b readStarted) := by
  have withdrawn : withdrawJob b .frd l = l := by
    have stands : (l.bay b).blm.withdraw .frd = (l.bay b).blm := by
      rw [withdraw_empty _ _ hjob, BlmPart.dropClaim, ← hclaim]
    rw [withdrawJob, modBlm_eq]
    exact modBay_id l b _ (by rw [stands])
  have placed : (l.bay b).blm.place (.crd 0 32) = { (l.bay b).blm with job := some ⟨.crd 0 32, false⟩ } := place_empty _ _ hjob
  simp only [startRead, withdrawn, emptyList, placeChunk]
  rw [evalFaultGate_shut (by simpa using hgate) (by simp), placeFrd_eq]
  simp only [modFrd_eq, modBay_modBay, bay_modBay_self]
  refine modBay_congr (freeCells (heldCells (l.bay b).frd.list) l) b _ _ ?_
  simp only [Function.comp_apply, freeCells_bay, nextCrd_first, placed]
  rfl

end Sys2Proof.Machine

/-! # The end of an exchange that carried FRD's frame (R30, R32, R34, R136, R144) -/
namespace Sys2Proof.Machine

variable {e : Env} {b : Bay} {l : Live} {f : JobFrame} {r : Reply}

/-- An OCCUPIED bay on an ONLINE link whose slot holds FRD's current frame, sent, with no claim behind it, no sweep, no entry to judge,
no heat share to shed, and the fault gate failing. -/
structure FrdCarried (b : Bay) (f : JobFrame) (l : Live) : Prop where
  owner : f.owner = .frd
  occupancy : (l.bay b).btb.occupancy = .occupied
  gate : (l.bay b).frd.gate = false
  current : (l.bay b).frd.current = some f
  carried : (l.bay b).frd.carried = true
  job : (l.bay b).blm.job = some ⟨f, true⟩
  claimLsw : (l.bay b).blm.claimLsw = none
  claimFrd : (l.bay b).blm.claimFrd = none
  link : (l.bay b).blm.link = .online
  unbound : boundEntry l b = none
  overcommit : l.fal.overcommit = false
  sweep : (l.bay b).lsw.sweep ≠ .running

/-- The record of a bay as its reply's PSTAT has been taken and FRD's frame has left the slot. -/
def BayRec.frameTaken (p : Pstat) (x : BayRec) : BayRec :=
  { x.pstatTaken p with blm := { (x.pstatTaken p).blm with job := none, lastHolder := .frd } }

@[simp] theorem frameTaken_frd {p : Pstat} {x : BayRec} : (x.frameTaken p).frd = { x.frd with alertSeen := p.alert } := rfl
@[simp] theorem frameTaken_lsw {p : Pstat} {x : BayRec} : (x.frameTaken p).lsw = x.lsw := rfl

/-- The record of a bay as an exchange that carried FRD's frame has been noted to its end and FRD has not acted on it. -/
def BayRec.frameSettled (r : Reply) (x : BayRec) : BayRec :=
  { replied r false x with
    blm := { (replied r false x).blm with job := none, lastHolder := .frd }
    frd := { (replied r false x).frd with carried := false } }

/-- The record of a bay as a miss behind FRD's frame has been noted to its end and FRD has not acted on it. -/
def BayRec.frameMissed (x : BayRec) : BayRec :=
  { x with
    blm := { x.blm with missCount := bumpTo 15 x.blm.missCount, recent := .miss, sampleOwed := x.blm.recent == .reply true true }
    frd := { x.frd with carried := false } }

/-- R34: FRD's frame leaves the slot, and no claim refills it. -/
theorem removeAnswered_frd {m : BlmPart} (howner : f.owner = .frd) (hjob : m.job = some ⟨f, true⟩) (hlsw : m.claimLsw = none)
    (hfrd : m.claimFrd = none) : m.removeAnswered (.job f) = { m with job := none, lastHolder := .frd } := by
  simp [BlmPart.removeAnswered, hjob, BlmPart.emptySlot, BlmPart.refill, holderAfter, howner, hlsw, hfrd]

theorem ident_not_frd (h : f.owner = .frd) : SentFrame.job f ≠ .job .ident := by
  rintro ⟨⟩
  cases h

/-- Behind FRD's frame, where no sweep runs, the end of an exchange is FRD's. -/
theorem announceEnd_frd {x : ExchangeEnd} (howner : f.owner = .frd) (hsweep : (l.bay b).lsw.sweep ≠ .running) :
    announceEnd e b (.job f) x l = frdExchangeEnd e b x l := by
  rw [announceEnd, btbExchangeEnd_idle (.inl (by simpa using ident_not_frd howner)), lswExchangeEnd_idle hsweep]

theorem frdExchangeEnd_carried {x : ExchangeEnd} (hcarried : (l.bay b).frd.carried = true) (hcurrent : (l.bay b).frd.current = some f) :
    frdExchangeEnd e b x l = settleFrd e b f x (l.modFrd b fun c => { c with carried := false }) := by
  simp [frdExchangeEnd, hcarried, hcurrent]

theorem linkReturn_online (e : Env) (b : Bay) (l : Live) : linkReturn e .online b l = l := by simp [linkReturn]

/-- R30 steps 1 to 4 where a reply without ALERT answers FRD's frame. -/
theorem FrdCarried.beforeContent (h : FrdCarried b f l) (hplug : r.pstat.plugIn = true) (halert : r.pstat.alert = false) :
    beforeContent e b (.job f) r l = l.modBay b (·.frameTaken r.pstat) := by
  have plugged (k : Live) (hk : (k.bay b).btb.occupancy = .occupied) : btbPstat e b r.pstat k = k := by
    simp [btbPstat, hk, hplug]
  rw [Machine.beforeContent, handPstat, plugged _ (by simpa using h.occupancy),
    pstatBehindBtb_unbound (by exact h.unbound) (by exact h.overcommit) halert]
  simp only [modBlm_eq, modBay_modBay]
  refine modBay_congr l b _ _ ?_
  have removed : (((l.bay b).blm.heard.compare r.pstat)).removeAnswered (.job f) =
      { (l.bay b).blm.heard.compare r.pstat with job := none, lastHolder := .frd } :=
    removeAnswered_frd h.owner h.job h.claimLsw h.claimFrd
  simp only [Function.comp_apply, removed]
  rfl

/-- R30: a reply without ALERT that answers FRD's frame, up to what FRD makes of its end. -/
theorem FrdCarried.handleReply (h : FrdCarried b f l) (hplug : r.pstat.plugIn = true) (halert : r.pstat.alert = false)
    (hdeliver : deliver e b r.content (l.modBay b (·.frameTaken r.pstat)) = l.modBay b (·.frameTaken r.pstat)) :
    handleReply e b (.job f) r l = settleFrd e b f (.reply r.content) (l.modBay b (·.frameSettled r)) := by
  have noted : ((l.modBay b (·.frameTaken r.pstat)).modBlm b
      (·.recordEnd (.reply r.pstat.samplePending (SentFrame.job f == .samplePoll)))).modFrd b
        (fun c => { c with carried := false }) = l.modBay b (·.frameSettled r) := by
    simp only [modBlm_eq, modFrd_eq, modBay_modBay]
    rfl
  rw [handleReply_eq, h.beforeContent hplug halert, hdeliver, h.link, behindContent, linkReturn_online,
    announceEnd_frd h.owner (by simpa using h.sweep), frdExchangeEnd_carried (f := f), noted]
  · simpa using h.carried
  · simpa using h.current

/-- R32: a miss that leaves the link ONLINE behind FRD's frame, up to what FRD makes of its end. -/
theorem FrdCarried.handleMiss (h : FrdCarried b f l) (hcount : bumpTo 15 (l.bay b).blm.missCount < e.params.missLimit) :
    handleMiss e b (.job f) l = settleFrd e b f .miss (l.modBay b BayRec.frameMissed) := by
  have noted : (((l.modBlm b fun m => { m with missCount := bumpTo 15 m.missCount }).modBlm b (·.recordEnd .miss)).modFrd b
      fun c => { c with carried := false }) = l.modBay b BayRec.frameMissed := by
    simp only [modBlm_eq, modFrd_eq, modBay_modBay]
    rfl
  have stays : ¬ ((l.bay b).blm.link ≠ .silent ∧ e.params.missLimit ≤ bumpTo 15 (l.bay b).blm.missCount) := by
    rintro ⟨_, hle⟩
    omega
  simp only [Machine.handleMiss, bay_modBlm_self, if_neg stays]
  rw [announceEnd_frd h.owner (by simpa using h.sweep), frdExchangeEnd_carried (f := f), noted]
  · simpa using h.carried
  · simpa using h.current

/-! ## What FRD makes of the end -/

theorem countBusy_below (h : (l.bay b).frd.busy < 20) :
    countBusy e b f l = placeFrd b f (l.modFrd b fun c => { c with busy := c.busy + 1 }) := by
  simp only [countBusy, bay_modFrd_self]
  exact if_neg (by omega)

theorem countBusy_last (h : 20 ≤ (l.bay b).frd.busy) :
    countBusy e b f l = abortRead e b .coachBusy (l.modFrd b fun c => { c with busy := c.busy + 1 }) := by
  simp only [countBusy, bay_modFrd_self]
  exact if_pos (by omega)

theorem countAttempt_below {again : Bool} (h : (l.bay b).frd.attempts < 2) : countAttempt e b again f l =
    if again then placeFrd b f (l.modFrd b fun c => { c with attempts := c.attempts + 1 })
    else l.modFrd b fun c => { c with attempts := c.attempts + 1 } := by
  simp only [countAttempt, bay_modFrd_self]
  exact if_neg (by omega)

theorem countAttempt_last {again : Bool} (h : 2 ≤ (l.bay b).frd.attempts) :
    countAttempt e b again f l = abortRead e b .coachSilent (l.modFrd b fun c => { c with attempts := c.attempts + 1 }) := by
  simp only [countAttempt, bay_modFrd_self]
  exact if_pos (by omega)

/-- R34: FRD's frame is withdrawn, and no claim refills the slot. -/
theorem withdraw_frd {m : BlmPart} (howner : f.owner = .frd) (hjob : m.job = some ⟨f, true⟩) (hlsw : m.claimLsw = none)
    (hfrd : m.claimFrd = none) : m.withdraw .frd = { m with job := none, lastHolder := .frd } := by
  simp [BlmPart.withdraw, BlmPart.dropClaim, hjob, BlmPart.emptySlot, BlmPart.refill, holderAfter, howner, hlsw, hfrd]

/-- R137: what an abort leaves is the same whether FRD's frame has left the slot before or is withdrawn now. -/
theorem FrdCarried.aborted_frameSettled (h : FrdCarried b f l) {cause : AbortCause} (busy attempts : Nat) :
    aborted cause { (l.bay b).frameSettled r with
        frd := { ((l.bay b).frameSettled r).frd with busy := busy, attempts := attempts } } =
      aborted cause { replied r false (l.bay b) with
        frd := { (replied r false (l.bay b)).frd with busy := busy, attempts := attempts } } := by
  have withdrawn : (replied r false (l.bay b)).blm.withdraw .frd =
      { (replied r false (l.bay b)).blm with job := none, lastHolder := .frd } :=
    withdraw_frd h.owner h.job h.claimLsw h.claimFrd
  have emptied : ((l.bay b).frameSettled r).blm.withdraw .frd = ((l.bay b).frameSettled r).blm := by
    rw [withdraw_empty _ _ rfl, BlmPart.dropClaim]
    have : ((l.bay b).frameSettled r).blm.claimFrd = none := h.claimFrd
    rw [← this]
  simp only [aborted, withdrawn, emptied]
  rfl

end Sys2Proof.Machine

/-! # Reads and clears that abort, and the answers counted (R136, R137, R145) -/
namespace Sys2Proof.Machine

variable {e : Env} {b : Bay} {l : Live} {s : State} {f : JobFrame} {r : Reply} {cause : AbortCause} {status : ReadStatus}
  {g : FrdPart → FrdPart}

/-- An event that aborts in one status, behind a field of FRD's part set to its limit. -/
theorem event_aborts (ha : addressed s = true) (hgate : (g (s.bay b).frd).gate = false) (h : (s.bay b).frd.status = status) :
    s.after (event fun e l => if (l.bay b).frd.status = status then abortRead e b cause (l.modFrd b g) else l) =
      s.goes (addBayReason s.dev.env b .faultDone (s.live.modBay b fun x => aborted cause { x with frd := g x.frd })) := by
  have now : (s.live.bay b).frd.status = status := h
  have gate : ((s.live.modFrd b g).bay b).frd.gate = false := by
    rw [bay_modFrd_self]
    exact hgate
  rw [after_event _ ha, if_pos now, abortRead_eq gate, modFrd_eq, modBay_modBay]
  rfl

/-- In another status the event does nothing. -/
theorem event_idle (ha : addressed s = true) (h : (s.bay b).frd.status ≠ status) :
    s.after (event fun e l => if (l.bay b).frd.status = status then abortRead e b cause (l.modFrd b g) else l) = s.goes s.live := by
  have now : (s.live.bay b).frd.status ≠ status := h
  rw [after_event _ ha, if_neg now]

/-! ## Answers and misses to FRD's frame -/

/-- R136: FRD places the frame again behind an answer it has counted. -/
theorem placeFrd_frameSettled (hg : ∀ c, g { c with carried := false } = { g c with carried := false }) :
    placeFrd b f ((l.modBay b (·.frameSettled r)).modFrd b g) =
      l.modBay b fun x => placedAgain f { replied r false x with frd := g (replied r false x).frd } := by
  rw [placeFrd_eq]
  simp only [modFrd_eq, modBay_modBay]
  refine modBay_congr l b _ _ ?_
  have counted : g ((l.bay b).frameSettled r).frd = { g (replied r false (l.bay b)).frd with carried := false } := hg _
  simp only [Function.comp_apply, counted]
  rfl

/-- R136: FRD aborts behind an answer it has counted. -/
theorem FrdCarried.abortRead_frameSettled (h : FrdCarried b f l) {busy attempts : Nat → Nat} :
    abortRead e b cause ((l.modBay b (·.frameSettled r)).modFrd b fun c =>
        { c with busy := busy c.busy, attempts := attempts c.attempts }) =
      addBayReason e b .faultDone (l.modBay b fun x => aborted cause { replied r false x with
        frd := { (replied r false x).frd with busy := busy x.frd.busy, attempts := attempts x.frd.attempts } }) := by
  rw [abortRead_eq (by rw [bay_modFrd_self, bay_modBay_self]; exact h.gate)]
  simp only [modFrd_eq, modBay_modBay]
  exact congrArg _ (modBay_congr l b _ _ (h.aborted_frameSettled _ _))

/-- R136: FRD aborts behind a miss it has counted. -/
theorem FrdCarried.abortRead_frameMissed (h : FrdCarried b f l) :
    abortRead e b cause ((l.modBay b BayRec.frameMissed).modFrd b fun c => { c with attempts := c.attempts + 1 }) =
      addBayReason e b .faultDone (l.modBay b fun x => aborted cause { x.frameMissed with
        frd := { x.frameMissed.frd with attempts := x.frd.attempts + 1 } }) := by
  rw [abortRead_eq (by rw [bay_modFrd_self, bay_modBay_self]; exact h.gate)]
  simp only [modFrd_eq, modBay_modBay]
  rfl

section reading

variable (h : FrdCarried b f l) (hreading : (l.bay b).frd.status = .reading)
include h hreading

theorem FrdCarried.settleFrd_cbusy : settleFrd e b f (.reply .cbusy) (l.modBay b (·.frameSettled r)) =
    if (l.bay b).frd.busy < 20 then
      l.modBay b fun x => placedAgain f { replied r false x with frd := { (replied r false x).frd with busy := x.frd.busy + 1 } }
    else addBayReason e b .faultDone (l.modBay b fun x =>
      aborted .coachBusy { replied r false x with frd := { (replied r false x).frd with busy := x.frd.busy + 1 } }) := by
  have status : ((l.modBay b (·.frameSettled r)).bay b).frd.status = .reading := by
    rw [bay_modBay_self]
    exact hreading
  have busy : ((l.modBay b (·.frameSettled r)).bay b).frd.busy = (l.bay b).frd.busy := by
    rw [bay_modBay_self]
    rfl
  simp only [settleFrd, status]
  split
  · rw [countBusy_below (by omega), placeFrd_frameSettled fun _ => rfl]
    rfl
  · rw [countBusy_last (by omega)]
    exact h.abortRead_frameSettled (busy := (· + 1)) (attempts := id)

theorem FrdCarried.settleFrd_attempt {c : ReplyContent} (hc : c ≠ .cbusy) :
    settleFrd e b f (.reply c) (l.modBay b (·.frameSettled r)) =
      if (l.bay b).frd.attempts < 2 then
        l.modBay b fun x =>
          placedAgain f { replied r false x with frd := { (replied r false x).frd with attempts := x.frd.attempts + 1 } }
      else addBayReason e b .faultDone (l.modBay b fun x =>
        aborted .coachSilent { replied r false x with frd := { (replied r false x).frd with attempts := x.frd.attempts + 1 } }) := by
  have status : ((l.modBay b (·.frameSettled r)).bay b).frd.status = .reading := by
    rw [bay_modBay_self]
    exact hreading
  have attempts : ((l.modBay b (·.frameSettled r)).bay b).frd.attempts = (l.bay b).frd.attempts := by
    rw [bay_modBay_self]
    rfl
  have counted : settleFrd e b f (.reply c) (l.modBay b (·.frameSettled r)) =
      countAttempt e b true f (l.modBay b (·.frameSettled r)) := by
    simp only [settleFrd, status]
  rw [counted]
  split
  · rw [countAttempt_below (by omega), if_pos rfl, placeFrd_frameSettled fun _ => rfl]
    rfl
  · rw [countAttempt_last (by omega)]
    exact h.abortRead_frameSettled (busy := id) (attempts := (· + 1))

theorem FrdCarried.settleFrd_miss : settleFrd e b f .miss (l.modBay b BayRec.frameMissed) =
    if (l.bay b).frd.attempts < 2 then
      l.modBay b fun x => { x.frameMissed with frd := { x.frameMissed.frd with attempts := x.frd.attempts + 1 } }
    else addBayReason e b .faultDone (l.modBay b fun x =>
      aborted .coachSilent { x.frameMissed with frd := { x.frameMissed.frd with attempts := x.frd.attempts + 1 } }) := by
  have status : ((l.modBay b BayRec.frameMissed).bay b).frd.status = .reading := by
    rw [bay_modBay_self]
    exact hreading
  have attempts : ((l.modBay b BayRec.frameMissed).bay b).frd.attempts = (l.bay b).frd.attempts := by
    rw [bay_modBay_self]
    rfl
  simp only [settleFrd, status]
  split
  · rw [countAttempt_below (by omega), if_neg nofun, modFrd_eq, modBay_modBay]
    rfl
  · rw [countAttempt_last (by omega)]
    exact h.abortRead_frameMissed

end reading

/-- Settles O28: the events by what an abort writes, the answers by how FRD settles the end of its exchange. -/
theorem readsAndClearsAbortWithTheirCause : Obligations.ReadsAndClearsAbortWithTheirCause := by
  refine ⟨fun s b ha hgate => ⟨fun h => ?_, fun h => ?_, fun h => ?_, fun h => ?_⟩, ?_⟩
  · exact ⟨congrArg Host.Outcome.next (event_aborts ha hgate h), congrArg Host.Outcome.next (event_aborts ha hgate h)⟩
  · exact congrArg Host.Outcome.next (event_aborts ha hgate h)
  · exact ⟨congrArg Host.Outcome.next (event_idle ha h), congrArg Host.Outcome.next (event_idle ha h)⟩
  · exact congrArg Host.Outcome.next (event_idle ha h)
  intro s b offset count timeout hslot hocc hreading hgate hcurrent hcarried hjob hlsw hfrd hlink hbound hover hsweep
  have h : FrdCarried b (.crd offset count) s.live :=
    ⟨rfl, hocc, hgate, hcurrent, hcarried, hjob, hlsw, hfrd, hlink, hbound, hover, hsweep⟩
  refine ⟨fun bytes r hparse hplug halert => ⟨fun hc => ?_, fun hc => ?_⟩, fun hcount =>
    ⟨fun (hn : (s.live.bay b).frd.attempts < 2) => ?_, fun (hn : 2 ≤ (s.live.bay b).frd.attempts) => ?_⟩⟩
  · have ended := h.handleReply (e := s.dev.env) hplug halert (by rw [hc]; rfl)
    rw [hc, h.settleFrd_cbusy hreading] at ended
    refine ⟨fun (hn : (s.live.bay b).frd.busy < 20) => ?_, fun (hn : 20 ≤ (s.live.bay b).frd.busy) => ?_⟩
    · rw [exec_exchangeReply hslot hparse, ended, if_pos hn]
    · rw [exec_exchangeReply hslot hparse, ended, if_neg (Nat.not_lt.mpr hn)]
  · have ended := h.handleReply (e := s.dev.env) hplug halert (by obtain hc | hc := hc <;> rw [hc] <;> rfl)
    rw [h.settleFrd_attempt hreading (by obtain hc | hc := hc <;> rw [hc] <;> exact nofun)] at ended
    refine ⟨fun (hn : (s.live.bay b).frd.attempts < 2) => ?_, fun (hn : 2 ≤ (s.live.bay b).frd.attempts) => ?_⟩
    · rw [exec_exchangeReply hslot hparse, ended, if_pos hn]
    · rw [exec_exchangeReply hslot hparse, ended, if_neg (Nat.not_lt.mpr hn)]
  · rw [exec_replyTimeout hslot, h.handleMiss hcount, h.settleFrd_miss hreading, if_pos hn]
    rfl
  · rw [exec_replyTimeout hslot, h.handleMiss hcount, h.settleFrd_miss hreading, if_neg (Nat.not_lt.mpr hn)]
    rfl

end Sys2Proof.Machine

/-! # FAULT CLEAR, FAULT FLUSH and the end of a clear (R144, R146) -/
namespace Sys2Proof.Machine

variable {e : Env} {b : Bay} {l : Live} {s : State} {f : JobFrame} {r : Reply} {status : Status} {bay : Byte}

theorem inProgress_iff (x : ReadStatus) : x.inProgress = true ↔ x = .reading ∨ x = .clearing := by
  cases x <;> simp [ReadStatus.inProgress]

/-- R133 checks 2 to 4. -/
theorem readable_iff (x : BayRec) : readable x = true ↔
    x.btb.occupancy = .occupied ∧ x.btb.profileMissing = false ∧ ¬(x.frd.status = .reading ∨ x.frd.status = .clearing) := by
  simp [readable, ← inProgress_iff, and_assoc]

theorem not_readable {x : BayRec} (h : x.btb.occupancy ≠ .occupied ∨ x.btb.profileMissing = true ∨ x.frd.status = .reading ∨
    x.frd.status = .clearing) : readable x = false := by
  rw [← Bool.not_eq_true, readable_iff]
  rintro ⟨hocc, hprofile, hstatus⟩
  rcases h with h | h | h
  · exact h hocc
  · simp [hprofile] at h
  · exact hstatus h

theorem exec_faultClear (tag : Byte) (hr : ready s = true) (hb : bay.toNat = bayNumber b)
    (h : faultClear s.dev.env b s.live = (status, l)) : exec (.faultClear tag bay) s = .next (s.answers tag 0x14 status l) :=
  congrArg Host.Outcome.next (submit_onBay (m := .faultClear bay) tag hr hb rfl rfl h)

theorem exec_faultFlush (tag : Byte) (hr : ready s = true) (hb : bay.toNat = bayNumber b)
    (h : faultFlush s.dev.env b s.live = (status, l)) : exec (.faultFlush tag bay) s = .next (s.answers tag 0x15 status l) :=
  congrArg Host.Outcome.next (submit_onBay (m := .faultFlush bay) tag hr hb rfl rfl h)

/-! ## The operations -/

theorem faultClear_refused (h : readable (l.bay b) = false) : faultClear e b l = (.state, l) := by simp [faultClear, h]

/-- R144: from an empty slot and behind a gate that fails a clear starts, and the list stays. -/
theorem faultClear_starts (h : readable (l.bay b) = true) (hjob : (l.bay b).blm.job = none) (hgate : (l.bay b).frd.gate = false) :
    faultClear e b l = (.done, l.modBay b fun x => { x with
      blm := { x.blm with job := some ⟨.cclr, false⟩ }
      frd := { x.frd with status := .clearing, cause := .none, clearTimer := 30, current := some .cclr, carried := false } }) := by
  rw [faultClear, if_pos h, evalFaultGate_shut]
  · rw [placeFrd_eq, modFrd_eq, modBay_modBay]
    refine congrArg _ (modBay_congr l b _ _ ?_)
    simp only [Function.comp_apply, place_empty _ _ hjob]
  · rw [bay_modFrd_self, placeFrd_eq, bay_modBay_self]
    exact hgate
  · rw [bay_modFrd_self]
    exact nofun

theorem faultFlush_refused (h : (l.bay b).btb.occupancy ≠ .occupied ∨ (l.bay b).frd.status = .reading ∨
    (l.bay b).frd.status = .clearing) : faultFlush e b l = (.state, l) := by
  refine if_neg ?_
  rintro ⟨hocc, hstatus⟩
  rcases h with h | h
  · exact h hocc
  · exact Bool.false_ne_true (hstatus.symm.trans ((inProgress_iff _).mpr h))

/-- R146: behind a gate that fails a flush empties the list into the pool. -/
theorem faultFlush_empties (hocc : (l.bay b).btb.occupancy = .occupied)
    (hstatus : ¬((l.bay b).frd.status = .reading ∨ (l.bay b).frd.status = .clearing)) (hgate : (l.bay b).frd.gate = false) :
    faultFlush e b l = (.done, freeCells (heldCells (l.bay b).frd.list) (l.modFrd b fun c =>
      { c with list := [], blocking := 0, lost := 0, status := .none, cause := .none })) := by
  rw [← inProgress_iff, Bool.not_eq_true] at hstatus
  rw [faultFlush, if_pos ⟨hocc, hstatus⟩, evalFaultGate_shut]
  · simp only [emptyList, modFrd_eq, modBay_modBay]
    rfl
  · rw [bay_modFrd_self, emptyList, bay_modFrd_self]
    exact hgate
  · rw [bay_modFrd_self]
    exact nofun

/-! ## The end of an exchange while CLEARING -/

/-- R30 steps 6 and 7 where FRD has settled its frame as the content was delivered. -/
theorem behindContent_frd (howner : f.owner = .frd) (hsweep : (l.bay b).lsw.sweep ≠ .running) (hcarried : (l.bay b).frd.carried = false) :
    behindContent e .online b (.job f) r l = l.modBlm b (·.recordEnd (.reply r.pstat.samplePending false)) := by
  rw [behindContent, linkReturn_online, announceEnd_idle (ident_not_frd howner) (.inl (by simpa using hsweep)) (by simpa using hcarried)]
  rfl

/-- R144: a CDONE starts a read in the slot that it has emptied. -/
theorem FrdCarried.handleReply_cdone (h : FrdCarried b f l) (hclearing : (l.bay b).frd.status = .clearing)
    (hplug : r.pstat.plugIn = true) (halert : r.pstat.alert = false) (hc : r.content = .cdone) :
    Machine.handleReply e b (.job f) r l =
      freeCells (heldCells (l.bay b).frd.list) (l.modBay b fun x => readStarted (placedAgain f (replied r false x))) := by
  have clearing : ((l.modBay b (·.frameTaken r.pstat)).bay b).frd.status = .clearing := by simpa using hclearing
  have gate : ((l.modBay b (·.frameTaken r.pstat)).bay b).frd.gate = false := by simpa using h.gate
  have job : ((l.modBay b (·.frameTaken r.pstat)).bay b).blm.job = none := by simp [BayRec.frameTaken]
  have claim : ((l.modBay b (·.frameTaken r.pstat)).bay b).blm.claimFrd = none := by
    rw [bay_modBay_self]
    exact h.claimFrd
  have started : deliver e b r.content (l.modBay b (·.frameTaken r.pstat)) =
      freeCells (heldCells (l.bay b).frd.list) (l.modBay b fun x => readStarted (x.frameTaken r.pstat)) := by
    rw [hc]
    change frdCdone e b _ = _
    rw [frdCdone, if_pos clearing, startRead_eq gate job claim, bay_modBay_self, modBay_modBay]
    rfl
  rw [handleReply_eq, h.beforeContent hplug halert, started, h.link, behindContent_frd h.owner (by simpa [readStarted] using h.sweep)
    (by simp [readStarted]), modBlm_eq, freeCells_modBay, modBay_modBay]
  rfl

/-- R144: behind every other answer a frame of the clear is placed. -/
theorem settleFrd_clearing {c : ReplyContent} (hclearing : (l.bay b).frd.status = .clearing) :
    settleFrd e b f (.reply c) (l.modBay b (·.frameSettled r)) =
      l.modBay b fun x => placedAgain (clearFrame f c) (replied r false x) := by
  have status : ((l.modBay b (·.frameSettled r)).bay b).frd.status = .clearing := by
    rw [bay_modBay_self]
    exact hclearing
  simp only [settleFrd, status, placeFrd_eq, modBay_modBay]
  rfl

/-- R144: behind a miss the frame waits in the slot. -/
theorem settleFrd_clearing_miss (hclearing : (l.bay b).frd.status = .clearing) :
    settleFrd e b f .miss (l.modBay b BayRec.frameMissed) = l.modBay b BayRec.frameMissed := by
  have status : ((l.modBay b BayRec.frameMissed).bay b).frd.status = .clearing := by
    rw [bay_modBay_self]
    exact hclearing
  simp only [settleFrd, status]

/-- Settles O42: the operations from an empty slot, the clear by what each end of its exchange does. -/
theorem faultClearKeepsAndFlushEmptiesTheList : Obligations.FaultClearKeepsAndFlushEmptiesTheList := by
  refine ⟨fun s tag bay b hr hb => ⟨fun h => ?_, fun hocc hprofile hreading hclearing hjob hgate => ?_⟩, ?_,
    fun s tag bay b hr hb => ⟨fun h => ?_, fun hocc hreading hclearing hgate => ?_⟩⟩
  · exact exec_faultClear tag hr hb (faultClear_refused (not_readable h))
  · exact exec_faultClear tag hr hb
      (faultClear_starts ((readable_iff _).mpr ⟨hocc, hprofile, not_or.mpr ⟨hreading, hclearing⟩⟩) hjob hgate)
  · intro s b f timeout hf hslot hocc hclearing hgate hcurrent hcarried hjob hlsw hfrd hlink hbound hover hsweep
    have clearing : (s.live.bay b).frd.status = .clearing := hclearing
    have owner : f.owner = .frd := by obtain rfl | rfl := hf <;> rfl
    have h : FrdCarried b f s.live := ⟨owner, hocc, hgate, hcurrent, hcarried, hjob, hlsw, hfrd, hlink, hbound, hover, hsweep⟩
    refine ⟨fun bytes r hparse hplug halert => ⟨fun hc => ?_, fun hc => ?_⟩, fun hcount => ?_⟩
    · rw [exec_exchangeReply hslot hparse, h.handleReply_cdone hclearing hplug halert hc]
      rfl
    · have delivered (k : Live) : deliver s.dev.env b r.content k = k := by obtain hc | hc | hc := hc <;> rw [hc] <;> rfl
      have next : clearFrame f r.content = if f = .cclr ∧ r.content ≠ .stat then .cclr else .cqry := by
        obtain rfl | rfl := hf <;> obtain hc | hc | hc := hc <;> rw [hc] <;> rfl
      rw [exec_exchangeReply hslot hparse, h.handleReply hplug halert (delivered _), settleFrd_clearing clearing, next]
    · rw [exec_replyTimeout hslot, h.handleMiss hcount, settleFrd_clearing_miss clearing]
      rfl
  · exact exec_faultFlush tag hr hb (faultFlush_refused h)
  · exact exec_faultFlush tag hr hb (faultFlush_empties hocc (not_or.mpr ⟨hreading, hclearing⟩) hgate)

end Sys2Proof.Machine

/-! # The first chunk of an image (R131, R134, R135)

What is told of a chunk is FRD's part of its bay and the cell pool: nothing that acts around the chunk changes them. -/
namespace Sys2Proof.Machine

variable {e : Env} {b : Bay} {l l' : Live} {s : State} {sent : SentFrame} {r : Reply} {c : FrdPart} {n : Nat} {x : Byte}
  {bytes rest : List Byte}

/-- FRD's part of a bay, and the cell pool. -/
def Live.reading (l : Live) (b : Bay) : FrdPart × Pool := ((l.bay b).frd, l.pool)

theorem Supplied.reading (h : Supplied l l') : l'.reading b = l.reading b := by rw [Live.reading, (h.bays b).frd, h.row.pool, Live.reading]

@[simp] theorem modFrd_reading (f : FrdPart → FrdPart) : (l.modFrd b f).reading b = (f (l.bay b).frd, l.pool) := by
  rw [Live.reading, bay_modFrd_self]
  rfl

@[simp] theorem modBlm_reading (f : BlmPart → BlmPart) : (l.modBlm b f).reading b = l.reading b :=
  (modBlm_passed (Set.mem_univ _)).supplied.reading

@[simp] theorem addBayReason_reading {x : Reason} : (addBayReason e b x l).reading b = l.reading b := rfl

theorem evalFaultGate_reading {judging : Bool} : ∃ g,
    (evalFaultGate e judging b l).reading b = ({ (l.bay b).frd with gate := g }, l.pool) := by
  simp only [evalFaultGate]
  split
  · exact ⟨_, rfl⟩
  · exact ⟨_, (gateNotice_passed (Set.mem_univ _)).supplied.reading.trans (modFrd_reading _)⟩

/-- R137: what the end of a read leaves to FRD. -/
theorem endRead_reading {judging : Bool} {status : ReadStatus} {cause : AbortCause} : ∃ g,
    (endRead e judging b status cause l).reading b = ({ (l.bay b).frd with
      status := status, cause := cause, partialBytes := [], current := none, carried := false, gate := g }, l.pool) := by
  obtain ⟨g, hg⟩ := evalFaultGate_reading (e := e) (judging := judging) (b := b) (l := (withdrawJob b .frd l).modFrd b fun c =>
    { c with status := status, cause := cause, partialBytes := [], current := none, carried := false })
  refine ⟨g, ?_⟩
  rw [endRead, addBayReason_reading, hg, bay_modFrd_self, withdrawJob, modBlm_bay_frd]
  rfl

/-- R134: what the next CRD leaves to FRD. -/
theorem placeChunk_reading : (placeChunk b l).reading b = ({ (l.bay b).frd with
    attempts := 0, busy := 0, current := some (nextCrd (l.bay b).frd), carried := false }, l.pool) := by
  rw [placeChunk, placeFrd, placeJob, modBlm_reading, modFrd_reading]
  simp only [bay_modFrd_self]
  rfl

/-! ## Around the content of a reply -/

/-- R30 steps 1 to 4: behind a reply without ALERT from an OCCUPIED bay FRD has noted the alert alone. -/
theorem beforeContent_reading (hocc : (l.bay b).btb.occupancy = .occupied) (hplug : r.pstat.plugIn = true)
    (halert : r.pstat.alert = false) :
    (beforeContent e b sent r l).reading b = ({ (l.bay b).frd with alertSeen := false }, l.pool) := by
  have plugged (k : Live) (hk : (k.bay b).btb.occupancy = .occupied) : btbPstat e b r.pstat k = k := by
    simp [btbPstat, hk, hplug]
  have others : (falPstat e b r.pstat.contactorClosed (phpPstat b r.pstat.heaterOn (dpcPstat e b r.pstat.latchReleased
      (l.modBlm b fun m => m.heard.compare r.pstat)))).reading b = l.reading b :=
    falPstat_supplied.reading.trans ((phpPstat_passed (Set.mem_univ _)).supplied.reading.trans
      ((dpcPstat_passed (Set.mem_univ _)).supplied.reading.trans (modBlm_reading _)))
  rw [beforeContent, handPstat, plugged _ (by simpa using hocc), modBlm_reading, halert, frdPstat, alertStarts]
  simp only [Bool.false_and, Bool.false_eq_true, if_false, modFrd_reading]
  exact congrArg (fun p : FrdPart × Pool => ({ p.1 with alertSeen := false }, p.2)) others

/-- R30 steps 6 and 7: where FRD has no frame to settle, its part is left. -/
theorem behindContent_reading {was : Link} (hsent : sent ≠ .job .ident) (hcarried : (l.bay b).frd.carried = false) :
    (behindContent e was b sent r l).reading b = l.reading b := by
  have ended : (lswExchangeEnd e b ((linkReturn e was b l).modBlm b
      (·.recordEnd (.reply r.pstat.samplePending (sent == .samplePoll))))).reading b = l.reading b := by
    refine lswExchangeEnd_supplied.reading.trans ?_
    rw [modBlm_reading, linkReturn_eq]
    split
    · rw [addBayReason_reading, modBlm_reading]
    · rw [modBlm_reading]
  have settled : ((lswExchangeEnd e b ((linkReturn e was b l).modBlm b
      (·.recordEnd (.reply r.pstat.samplePending (sent == .samplePoll))))).bay b).frd.carried = false := by
    rw [← hcarried]
    exact congrArg (fun p : FrdPart × Pool => p.1.carried) ended
  rw [behindContent, announceEnd, btbExchangeEnd_idle (.inl (by simpa using hsent)), frdExchangeEnd, settled]
  exact ended

/-! ## Parsing (R131) -/

theorem parseBytes_ended (h : (l.bay b).frd.status ≠ .reading) : parseBytes e b n bytes l = l := by
  cases bytes <;> simp [parseBytes, h]

theorem parseBytes_cons (h : (l.bay b).frd.status = .reading) :
    parseBytes e b n (x :: rest) l = parseBytes e b (n + 1) rest (parseByte e b n x l) := if_pos h

theorem parseBytes_nil (h : n < 1024) : parseBytes e b n [] l = l := if_neg fun hn => Nat.not_lt.mpr hn.2 h

/-- R131 step 3: up to its fifth byte a record waits for its freeze length. -/
theorem parseRecordByte_waits (h : (l.bay b).frd.partialBytes.length < 5) :
    parseRecordByte e b n x l = l.modFrd b fun c => { c with partialBytes := c.partialBytes ++ [x] } := by
  have unknown : freezeLength ((l.bay b).frd.partialBytes ++ [x]) = none := by
    simp [freezeLength, h]
  simp only [parseRecordByte, unknown, modFrd_eq]
  exact modBay_congr l b _ _ rfl

theorem parseBytes_waits {head : List Byte} (hstatus : (l.bay b).frd.status = .reading)
    (hlength : (l.bay b).frd.partialBytes.length + head.length ≤ 5) :
    parseBytes e b (n + 3) (head ++ rest) l = parseBytes e b (n + head.length + 3) rest
      (l.modFrd b fun c => { c with partialBytes := c.partialBytes ++ head }) := by
  induction head generalizing n l with
  | nil =>
    have stands : (l.modFrd b fun c => { c with partialBytes := c.partialBytes ++ [] }) = l := by
      rw [modFrd_eq]
      exact modBay_id l b _ (by simp)
    rw [stands]
    rfl
  | cons y head ih =>
    rw [List.length_cons] at hlength
    have waits : parseByte e b (n + 3) y l = l.modFrd b fun c => { c with partialBytes := c.partialBytes ++ [y] } :=
      parseRecordByte_waits (by omega)
    rw [List.cons_append, parseBytes_cons hstatus, waits, Nat.add_right_comm, ih (by simpa using hstatus) (by simp; omega)]
    simp only [modFrd_eq, modBay_modBay, List.length_cons, Nat.add_assoc, Nat.add_comm 1]
    refine congrArg _ (modBay_congr l b _ _ ?_)
    simp

/-- R131 steps 3 and 4: a sixth byte of 0 completes a record without freeze bytes. -/
theorem parseRecordByte_bare (h : (l.bay b).frd.partialBytes.length = 5) : parseRecordByte e b n 0x00#8 l =
    completeRecord e b ((l.bay b).frd.partialBytes ++ [0x00#8])
      (l.modFrd b fun c => { c with partialBytes := (l.bay b).frd.partialBytes ++ [0x00#8], imageEnd := imageEndAt c n 0 }) := by
  have length : freezeLength ((l.bay b).frd.partialBytes ++ [0x00#8]) = some 0 := by
    simp [freezeLength, h]
  have six : ((l.bay b).frd.partialBytes ++ [0x00#8]).length = 6 := by simp [h]
  simp only [parseRecordByte, length, six, if_true]
  rw [if_neg (by omega), modFrd_eq, modFrd_eq, modBay_modBay, modFrd_eq]
  rfl

/-- R131 step 1: an image that begins with 0 is empty. -/
theorem parseBytes_empty (h : (l.bay b).frd.status = .reading) : parseBytes e b 0 (0x00#8 :: rest) l = completeRead e b l := by
  obtain ⟨g, hg⟩ := endRead_reading (e := e) (b := b) (l := l) (judging := true) (status := .complete) (cause := .none)
  have ended : ((completeRead e b l).bay b).frd.status ≠ .reading := by
    rw [show ((completeRead e b l).bay b).frd = _ from congrArg Prod.fst hg]
    exact nofun
  rw [parseBytes_cons h]
  exact parseBytes_ended ended

/-- R131 step 1: a marker that is neither 0 nor 5A aborts the read. -/
theorem parseBytes_badMarker (h : (l.bay b).frd.status = .reading) (hzero : x ≠ 0x00#8) (hmark : x ≠ 0x5A#8) :
    parseBytes e b 0 (x :: rest) l = abortRead e b .badImage l := by
  obtain ⟨g, hg⟩ := endRead_reading (e := e) (b := b) (l := l) (judging := true) (status := .aborted) (cause := .badImage)
  have ended : ((abortRead e b .badImage l).bay b).frd.status ≠ .reading := by
    rw [show ((abortRead e b .badImage l).bay b).frd = _ from congrArg Prod.fst hg]
    exact nofun
  rw [parseBytes_cons h, parseByte, if_neg hzero, if_neg hmark]
  exact parseBytes_ended ended

theorem parseBytes_marker (h : (l.bay b).frd.status = .reading) : parseBytes e b 0 (0x5A#8 :: rest) l = parseBytes e b 1 rest l := by
  rw [parseBytes_cons h]
  rfl

/-- R131 step 2: a count of one record. -/
theorem parseByte_one (h : (l.bay b).frd.partialBytes = [0x00#8]) :
    parseByte e b 2 0x01#8 l = l.modFrd b fun c => { c with partialBytes := [], imageRecords := 1 } := by
  have count : num16 (((l.bay b).frd.partialBytes).headD 0) 0x01#8 = 1 := by
    rw [h]
    rfl
  simp only [parseByte, count, modFrd_eq, modBay_modBay]
  rfl

theorem parseBytes_one (h : (l.bay b).frd.status = .reading) : parseBytes e b 1 (0x00#8 :: 0x01#8 :: rest) l =
    parseBytes e b 3 rest (l.modFrd b fun c => { c with partialBytes := [], imageRecords := 1 }) := by
  have first : parseByte e b 1 0x00#8 l = l.modFrd b fun c => { c with partialBytes := [0x00#8] } := rfl
  rw [parseBytes_cons h, first, parseBytes_cons (by simpa using h), parseByte_one (by simp)]
  simp only [modFrd_eq, modBay_modBay]
  rfl

/-! ## The record of a bare image -/

/-- The pool gives cells (R140). -/
def takeCells (n : Nat) (l : Live) : Live := { l with pool := { l.pool with free := l.pool.free - n } }

@[simp] theorem takeCells_bay (n : Nat) (c : Bay) : (takeCells n l).bay c = l.bay c := rfl

theorem takeCells_modBay (n : Nat) (f : BayRec → BayRec) : takeCells n (l.modBay b f) = (takeCells n l).modBay b f := rfl

/-- R139, R140: where a cell is free and the list is empty a record without freeze bytes is stored. -/
theorem storeRecord_first {q : ReadRecord} (h : effectiveAction e q ≠ .ignore) (hfreeze : q.freeze = [])
    (hlist : (l.bay b).frd.list = []) (hfree : 1 ≤ l.pool.free) : storeRecord e b q l =
      (takeCells 1 l).modFrd b (FrdPart.gains .taken (q.judged e)) := by
  have cells : (q.judged e).cells = 1 := by
    change cellsFor q.freeze.length = 1
    rw [hfreeze]
    rfl
  have placed : placeCells (heldCells (l.bay b).frd.list) (q.judged e).cells l =
      (.taken, takeCells 1 l) := by
    rw [cells, hlist]
    exact placeCells_free (by decide) hfree
  rw [storeRecord_new h (by simp [hlist]), storeNew_eq placed]
  rfl

/-- R131 step 4: the record that is the last of its image completes the read. -/
theorem completeRecord_last {q : ReadRecord} (hrecord : recordOf bytes = some q) (h : effectiveAction e q ≠ .ignore)
    (hfreeze : q.freeze = []) (hlist : (l.bay b).frd.list = []) (hfree : 1 ≤ l.pool.free)
    (hlast : (l.bay b).frd.parsed + 1 = (l.bay b).frd.imageRecords) : completeRecord e b bytes l = completeRead e b
      ((takeCells 1 l).modFrd b fun c =>
        { FrdPart.gains .taken (q.judged e) { c with partialBytes := [] } with parsed := c.parsed + 1 }) := by
  have stored := storeRecord_first (e := e) (b := b) (l := l.modFrd b fun c => { c with partialBytes := [] }) h hfreeze
    (by simpa using hlist) hfree
  have counted : (storeRecord e b q (l.modFrd b fun c => { c with partialBytes := [] })).modFrd b
      (fun c => { c with parsed := c.parsed + 1 }) =
        (takeCells 1 l).modFrd b fun c =>
          { FrdPart.gains .taken (q.judged e) { c with partialBytes := [] } with parsed := c.parsed + 1 } := by
    rw [stored]
    simp only [modFrd_eq, takeCells_modBay, modBay_modBay]
    rfl
  simp only [completeRecord, hrecord, counted]
  refine if_pos ?_
  rw [bay_modFrd_self]
  exact hlast

/-- The record that the five bytes before its freeze length tell, without freeze bytes. -/
def bareRecord (source high low occurrences status : Byte) : ReadRecord :=
  ⟨source.toNat, high.toNat * 256 + low.toNat, occurrences.toNat, status.getLsbD 0, []⟩

theorem parseBytes_bareRecord {source high low occurrences status : Byte} (hstatus : (l.bay b).frd.status = .reading)
    (hpartial : (l.bay b).frd.partialBytes = []) (hlast : (l.bay b).frd.parsed + 1 = (l.bay b).frd.imageRecords)
    (hlist : (l.bay b).frd.list = []) (hfree : 1 ≤ l.pool.free)
    (h : effectiveAction e (bareRecord source high low occurrences status) ≠ .ignore) :
    parseBytes e b 3 [source, high, low, occurrences, status, 0x00#8] l = completeRead e b ((takeCells 1 l).modFrd b fun c =>
      { FrdPart.gains .taken ((bareRecord source high low occurrences status).judged e) c with
        partialBytes := [], parsed := c.parsed + 1, imageEnd := imageEndAt c 8 0 }) := by
  have waits := parseBytes_waits (e := e) (b := b) (l := l) (n := 0) (head := [source, high, low, occurrences, status])
    (rest := [0x00#8]) hstatus (by simp [hpartial])
  have five : ((l.modFrd b fun c =>
      { c with partialBytes := c.partialBytes ++ [source, high, low, occurrences, status] }).bay b).frd.partialBytes.length = 5 := by
    simp [hpartial]
  have sixth (k : Live) : parseByte e b 8 0x00#8 k = parseRecordByte e b 8 0x00#8 k := rfl
  refine waits.trans ?_
  rw [parseBytes_cons (by simpa using hstatus)]
  change parseBytes e b 9 [] (parseByte e b 8 0x00#8 _) = _
  rw [parseBytes_nil (by decide), sixth, parseRecordByte_bare five,
    completeRecord_last (q := bareRecord source high low occurrences status)]
  · simp only [modFrd_eq, takeCells_modBay, modBay_modBay]
    rfl
  · simp only [bay_modFrd_self, hpartial]
    rfl
  · exact h
  · rfl
  · simpa using hlist
  · exact hfree
  · simpa using hlast

/-! ## The reply that brings the chunk -/

/-- R135: the first chunk of an image is parsed from its first byte. -/
theorem frdCdata_first (hstatus : (l.bay b).frd.status = .reading) (hcurrent : (l.bay b).frd.current = some (.crd 0 32)) :
    frdCdata e b 0 (x :: rest) l = takeChunk e b 0 (x :: rest.take 31) l := by
  simp [frdCdata, hstatus, hcurrent]

/-- Behind a chunk that FRD has settled, its part is kept but for what a PSTAT and a frame sent note. -/
theorem exec_cdata {timeout : Nat} {f : JobFrame} (howner : f.owner = .frd)
    (hslot : s.live.walk.slot = some ⟨.exchange b (.job f), timeout, .counts⟩) (hparse : parseReply b bytes = some r)
    (hc : r.content = .cdata n rest) (hplug : r.pstat.plugIn = true) (hocc : (s.bay b).btb.occupancy = .occupied)
    (hqueue : s.live.mgu.queue = [])
    (hcarried : ((frdCdata s.dev.env b n rest (beforeContent s.dev.env b (.job f) r s.live)).bay b).frd.carried = false) :
    ∃ t, exec (.exchangeReply bytes) s = .next t ∧
      (∃ x y, (t.bay b).frd = { ((frdCdata s.dev.env b n rest (beforeContent s.dev.env b (.job f) r s.live)).bay b).frd with
        alertSeen := x, carried := y }) ∧
      t.live.pool = (frdCdata s.dev.env b n rest (beforeContent s.dev.env b (.job f) r s.live)).pool := by
  have plugged (k : Live) (hk : (k.bay b).btb = (s.live.bay b).btb) : btbPstat s.dev.env b r.pstat k = k := by
    have occupied : (k.bay b).btb.occupancy = .occupied := by
      rw [hk]
      exact hocc
    simp [btbPstat, occupied, hplug]
  have parsed := (frdCdata_served (e := s.dev.env) (b := b) (offset := n) (data := rest)).after
    (beforeContent_served (e := s.dev.env) (sent := .job f) plugged)
  have ended := handleReply_eq s.dev.env b (.job f) r s.live
  rw [hc] at ended
  change _ = behindContent _ _ _ _ _ (frdCdata s.dev.env b n rest (beforeContent s.dev.env b (.job f) r s.live)) at ended
  generalize frdCdata s.dev.env b n rest (beforeContent s.dev.env b (.job f) r s.live) = k at hcarried parsed ended ⊢
  have occupied : (k.bay b).btb.occupancy = .occupied := by
    obtain ⟨p, hp⟩ := (parsed.bays b).btb
    rw [hp]
    exact hocc
  have reading : (handleReply s.dev.env b (.job f) r s.live).reading b = k.reading b := by
    rw [ended]
    exact behindContent_reading (ident_not_frd howner) hcarried
  have served : Served s.live (handleReply s.dev.env b (.job f) r s.live) := by
    rw [ended]
    exact (behindContent_served occupied).after parsed
  have queue : ((handleReply s.dev.env b (.job f) r s.live).slotEnded s.dev.env).mgu.queue = [] := by
    change (handleReply s.dev.env b (.job f) r s.live).mgu.queue = []
    rw [served.mgu, hqueue]
  obtain ⟨noted, -⟩ := goes_noted s queue
  refine ⟨_, exec_exchangeReply hslot hparse, ?_, ?_⟩
  · obtain ⟨x, y, hfrd⟩ := (noted.bays b).frd
    exact ⟨x, y, hfrd.trans (congrArg (fun p : FrdPart × Pool => { p.1 with alertSeen := x, carried := y }) reading)⟩
  · exact noted.pool.trans (congrArg Prod.snd reading)

end Sys2Proof.Machine

/-! # FAULT READ, a rising alert, and the ends of a first chunk (R131 to R135, R147) -/
namespace Sys2Proof.Machine

variable {e : Env} {b : Bay} {l k : Live} {s : State} {sent : SentFrame} {r : Reply} {x bay : Byte} {rest bytes : List Byte}
  {status : Status}

/-! ## The operation and the alert -/

theorem exec_faultRead (tag : Byte) (hr : ready s = true) (hb : bay.toNat = bayNumber b)
    (h : faultRead s.dev.env b s.live = (status, l)) : exec (.faultRead tag bay) s = .next (s.answers tag 0x13 status l) :=
  congrArg Host.Outcome.next (submit_onBay (m := .faultRead bay) tag hr hb rfl rfl h)

theorem faultRead_refused (h : readable (l.bay b) = false) : faultRead e b l = (.state, l) := by simp [faultRead, h]

theorem faultRead_starts (h : readable (l.bay b) = true) (hjob : (l.bay b).blm.job = none) (hclaim : (l.bay b).blm.claimFrd = none)
    (hgate : (l.bay b).frd.gate = false) :
    faultRead e b l = (.done, freeCells (heldCells (l.bay b).frd.list) (l.modBay b readStarted)) := by
  rw [faultRead, if_pos h, startRead_eq hgate hjob hclaim]

/-- R147: FRD starts a read at a rising alert. -/
theorem frdPstat_alert (hread : readable (l.bay b) = true) (hseen : (l.bay b).frd.alertSeen = false)
    (hjob : (l.bay b).blm.job = none) (hclaim : (l.bay b).blm.claimFrd = none) (hgate : (l.bay b).frd.gate = false) :
    frdPstat e b true l = freeCells (heldCells (l.bay b).frd.list)
      (l.modBay b fun x => { readStarted x with frd := { (readStarted x).frd with alertSeen := true } }) := by
  have starts : alertStarts (l.bay b) true = true := by
    simpa [alertStarts, readable, hseen] using hread
  rw [frdPstat, if_pos starts, startRead_eq hgate hjob hclaim, modFrd_eq, freeCells_modBay, modBay_modBay]
  rfl

/-- Between BTB and FRD a PSTAT is only noted where no entry is bound and OVERCOMMIT is clear. -/
theorem pstatBeforeFrd_unbound {p : Pstat} (hbound : boundEntry l b = none) (hover : l.fal.overcommit = false) :
    falPstat e b p.contactorClosed (phpPstat b p.heaterOn (dpcPstat e b p.latchReleased (l.modBlm b fun m => m.heard.compare p))) =
      l.modBay b fun x => { x.pstatTaken p with frd := x.frd } := by
  have dpc (k : Live) (hk : boundEntry k b = none) :
      dpcPstat e b p.latchReleased k = k.modDpc b fun d => { d with latchReported := p.latchReleased } := judge_unbound e b _ hk
  have fal (k : Live) (hk : k.fal.overcommit = false) :
      falPstat e b p.contactorClosed k = k.modFal b fun f => { f with contactorReported := p.contactorClosed } := by
    simp [falPstat, hk]
  rw [dpc _ (by exact hbound), phpPstat, fal _ (by exact hover)]
  simp only [modBlm_eq, modDpc_eq, modPhp_eq, modFal_eq, modBay_modBay]
  rfl

/-- R147: before the content of a reply with a rising alert a read starts in an empty slot. -/
theorem beforeContent_alert (hsent : sent.transient) (hplug : r.pstat.plugIn = true) (halert : r.pstat.alert = true)
    (hread : readable (l.bay b) = true) (hseen : (l.bay b).frd.alertSeen = false) (hjob : (l.bay b).blm.job = none)
    (hclaim : (l.bay b).blm.claimFrd = none) (hgate : (l.bay b).frd.gate = false) (hbound : boundEntry l b = none)
    (hover : l.fal.overcommit = false) : beforeContent e b sent r l =
      freeCells (heldCells (l.bay b).frd.list) (l.modBay b fun x => readStarted (x.pstatTaken r.pstat)) := by
  have plugged (k : Live) (hk : (k.bay b).btb.occupancy = .occupied) : btbPstat e b r.pstat k = k := by
    simp [btbPstat, hk, hplug]
  obtain ⟨hocc, -, -⟩ := (readable_iff _).mp hread
  have record : (l.modBay b fun x => { x.pstatTaken r.pstat with frd := x.frd }).bay b =
      { (l.bay b).pstatTaken r.pstat with frd := (l.bay b).frd } := bay_modBay_self _
  rw [beforeContent, handPstat, plugged _ (by simpa using hocc), pstatBeforeFrd_unbound hbound hover, halert, frdPstat_alert]
  · rw [record, modBlm_eq, freeCells_modBay, modBay_modBay, modBay_modBay]
    refine congrArg _ (modBay_congr l b _ _ ?_)
    simp only [Function.comp_apply, removeAnswered_transient hsent, readStarted, BayRec.pstatTaken, halert]
  all_goals rw [record]
  · exact hread
  · exact hseen
  · exact hjob
  · exact hclaim
  · exact hgate

/-- R147: a reply with a rising alert, to its end. -/
theorem handleReply_alert (hsent : sent.transient) (hc : r.content = .stat) (hplug : r.pstat.plugIn = true)
    (halert : r.pstat.alert = true) (hread : readable (l.bay b) = true) (hseen : (l.bay b).frd.alertSeen = false)
    (hjob : (l.bay b).blm.job = none) (hclaim : (l.bay b).blm.claimFrd = none) (hgate : (l.bay b).frd.gate = false)
    (hbound : boundEntry l b = none) (hover : l.fal.overcommit = false) (hlink : (l.bay b).blm.link = .online)
    (hsweep : (l.bay b).lsw.sweep ≠ .running) : handleReply e b sent r l =
      freeCells (heldCells (l.bay b).frd.list) (l.modBay b fun x => readStarted (replied r (sent == .samplePoll) x)) := by
  have sweep : ((freeCells (heldCells (l.bay b).frd.list) (l.modBay b fun x => readStarted (x.pstatTaken r.pstat))).bay b).lsw.sweep ≠
      .running := by
    rw [freeCells_bay, bay_modBay_self]
    exact hsweep
  rw [handleReply_eq, beforeContent_alert hsent hplug halert hread hseen hjob hclaim hgate hbound hover, hc, hlink]
  change behindContent e .online b sent r (freeCells _ _) = _
  rw [behindContent_online hsent (.inl sweep) (by simp [readStarted]), modBlm_eq, freeCells_modBay, modBay_modBay]
  rfl

/-! ## The ends of a first chunk -/

/-- FRD awaits the first chunk of an image, with its list empty. -/
structure FirstChunkDue (c : FrdPart) : Prop where
  status : c.status = .reading
  current : c.current = some (.crd 0 32)
  list : c.list = []
  imageRecords : c.imageRecords = 0
  parsed : c.parsed = 0
  imageEnd : c.imageEnd = none

/-- A chunk whose bytes end the read leaves it ended. -/
theorem takeChunk_ended {n : Nat} {status : ReadStatus} {cause : AbortCause} (hstatus : status ≠ .reading)
    (h : parseBytes e b n bytes (l.modFrd b fun c => { c with readPoint := n + bytes.length }) = endRead e true b status cause k) :
    ∃ g, (takeChunk e b n bytes l).reading b = ({ (k.bay b).frd with
      status := status, cause := cause, partialBytes := [], current := none, carried := false, gate := g }, k.pool) := by
  obtain ⟨g, hg⟩ := endRead_reading (e := e) (b := b) (l := k) (judging := true) (status := status) (cause := cause)
  have ended : ((endRead e true b status cause k).bay b).frd.status = status := congrArg (fun p : FrdPart × Pool => p.1.status) hg
  refine ⟨g, ?_⟩
  simp only [takeChunk, h, ended, if_neg hstatus]
  exact hg

section first

variable (h : FirstChunkDue (l.bay b).frd)
include h

theorem frdCdata_empty : ∃ g, (frdCdata e b 0 (0x00#8 :: rest) l).reading b = ({ (l.bay b).frd with
    readPoint := (rest.take 31).length + 1, status := .complete, cause := .none, partialBytes := [], current := none, carried := false,
    gate := g }, l.pool) := by
  obtain ⟨g, hg⟩ := takeChunk_ended (e := e) (b := b) (l := l) (status := .complete) nofun
    (parseBytes_empty (rest := rest.take 31) (by simpa using h.status))
  refine ⟨g, ?_⟩
  rw [frdCdata_first h.status h.current, hg]
  simp

theorem frdCdata_badMarker (hzero : x ≠ 0x00#8) (hmark : x ≠ 0x5A#8) : ∃ g,
    (frdCdata e b 0 (x :: rest) l).reading b = ({ (l.bay b).frd with
      readPoint := (rest.take 31).length + 1, status := .aborted, cause := .badImage, partialBytes := [], current := none,
      carried := false, gate := g }, l.pool) := by
  obtain ⟨g, hg⟩ := takeChunk_ended (e := e) (b := b) (l := l) (status := .aborted) nofun
    (parseBytes_badMarker (rest := rest.take 31) (by simpa using h.status) hzero hmark)
  refine ⟨g, ?_⟩
  rw [frdCdata_first h.status h.current, hg]
  simp

/-- R134, R135: behind the marker alone the next chunk begins at offset 1. -/
theorem frdCdata_marker : (frdCdata e b 0 [0x5A#8] l).reading b = ({ (l.bay b).frd with
    readPoint := 1, attempts := 0, busy := 0, current := some (.crd 1 32), carried := false }, l.pool) := by
  have reading : ((l.modFrd b fun c => { c with readPoint := 1 }).bay b).frd.status = .reading := by simpa using h.status
  have parsed : parseBytes e b 0 [0x5A#8] (l.modFrd b fun c => { c with readPoint := 1 }) =
      l.modFrd b fun c => { c with readPoint := 1 } := (parseBytes_marker reading).trans (parseBytes_nil (by decide))
  have first : frdCdata e b 0 [0x5A#8] l = takeChunk e b 0 [0x5A#8] l := frdCdata_first (rest := []) h.status h.current
  have taken : takeChunk e b 0 [0x5A#8] l = placeChunk b (l.modFrd b fun c => { c with readPoint := 1 }) := by
    simp only [takeChunk, List.length_singleton, Nat.zero_add, parsed, reading, if_true]
  have next : nextCrd { (l.bay b).frd with readPoint := 1 } = .crd 1 32 := by
    simp only [nextCrd, h.imageEnd]
    decide
  rw [first, taken, placeChunk_reading]
  simp only [bay_modFrd_self, next]
  rfl

/-- R131 to R140: an image of one record without freeze bytes is stored whole. -/
theorem frdCdata_bareRecord {source high low occurrences status : Byte} (hfree : 1 ≤ l.pool.free)
    (haction : effectiveAction e (bareRecord source high low occurrences status) ≠ .ignore) : ∃ c,
    (frdCdata e b 0 [0x5A#8, 0x00#8, 0x01#8, source, high, low, occurrences, status, 0x00#8] l).reading b =
      (c, { l.pool with free := l.pool.free - 1 }) ∧ c.status = .complete ∧ c.cause = .none ∧ c.imageRecords = 1 ∧ c.parsed = 1 ∧
        c.list = [(bareRecord source high low occurrences status).judged e] ∧ c.carried = false := by
  have first : frdCdata e b 0 [0x5A#8, 0x00#8, 0x01#8, source, high, low, occurrences, status, 0x00#8] l =
      takeChunk e b 0 [0x5A#8, 0x00#8, 0x01#8, source, high, low, occurrences, status, 0x00#8] l :=
    frdCdata_first (rest := [0x00#8, 0x01#8, source, high, low, occurrences, status, 0x00#8]) h.status h.current
  have marked := parseBytes_marker (e := e) (b := b) (l := l.modFrd b fun c => { c with readPoint := 9 })
    (rest := [0x00#8, 0x01#8, source, high, low, occurrences, status, 0x00#8]) (by simpa using h.status)
  have counted := parseBytes_one (e := e) (b := b) (l := l.modFrd b fun c => { c with readPoint := 9 })
    (rest := [source, high, low, occurrences, status, 0x00#8]) (by simpa using h.status)
  have stored := parseBytes_bareRecord (e := e) (b := b) (l := (l.modFrd b fun c => { c with readPoint := 9 }).modFrd b fun c =>
    { c with partialBytes := [], imageRecords := 1 }) (by simpa using h.status) (by simp) (by simp [h.parsed]) (by simpa using h.list)
      hfree haction
  obtain ⟨g, hg⟩ := takeChunk_ended (e := e) (b := b) (l := l) (status := .complete) nofun ((marked.trans counted).trans stored)
  refine ⟨_, (congrArg (Live.reading · b) first).trans hg, rfl, rfl, ?_⟩
  simp [FrdPart.gains, h.parsed, h.list]

end first

end Sys2Proof.Machine

/-! # The filter's first match, and what becomes of a record (R138 to R141) -/
namespace Sys2Proof.Machine

variable {e : Env} {b : Bay} {l : Live} {r : ReadRecord} {old x merged : FaultRecord} {front back : List FaultRecord} {n held : Nat}

/-! ## The effective action (R138) -/

theorem effectiveAction_matched {y : FilterEntry} {before behind : List FilterEntry}
    (hlist : e.tables.filter.toList = before ++ y :: behind) (hy : y.matchesRecord r = true)
    (hbefore : ∀ z ∈ before, z.matchesRecord r = false) : effectiveAction e r =
      if y.action = .block ∧ r.active = false ∧ y.storedBlocks = false then .advise else y.action := by
  have find : e.tables.filter.toList.find? (·.matchesRecord r) = some y :=
    List.find?_eq_some_iff_append.mpr ⟨hy, before, behind, hlist, fun z hz => by simp [hbefore z hz]⟩
  simp only [effectiveAction, find]
  cases haction : y.action with
  | block => cases r.active <;> cases y.storedBlocks <;> rfl
  | advise | ignore => simp

theorem effectiveAction_default (h : ∀ y ∈ e.tables.filter.toList, y.matchesRecord r = false) : effectiveAction e r =
    if e.params.defaultAction = .block ∧ r.active = false then .advise else e.params.defaultAction := by
  have find : e.tables.filter.toList.find? (·.matchesRecord r) = none :=
    List.find?_eq_none.mpr fun y hy => by simp [h y hy]
  simp only [effectiveAction, find]
  cases haction : e.params.defaultAction with
  | block => cases r.active <;> rfl
  | advise | ignore => simp

/-! ## Merges -/

/-- Without a slot to evict a placement starves where the free cells do not suffice. -/
theorem placeCells_uncached (hquota : held + n ≤ 64) (hfree : l.pool.free < n) (hcache : l.cache = []) :
    placeCells held n l = (.starved, l) := by
  have stands : evictUntil n l.cache.length l = l := by
    rw [hcache]
    rfl
  rw [placeCells_evicted hquota stands, if_pos hfree]

/-- The record of a fault that a list holds once is rewritten in its place. -/
theorem modFrd_rewrites (hlist : (l.bay b).frd.list = front ++ old :: back) (hold : old.sameFault x = true)
    (hothers : ∀ y ∈ front ++ back, y.sameFault x = false) (hsource : merged.source = old.source) (hcode : merged.code = old.code) :
    l.modFrd b (FrdPart.rewrites merged (x.block && !old.block)) = l.modFrd b fun c => { c with
      list := front ++ merged :: back
      blocking := if x.block = true ∧ old.block = false then bumpTo 255 c.blocking else c.blocking } := by
  have named : merged.source = x.source ∧ merged.code = x.code := by
    rw [hsource, hcode]
    simpa [FaultRecord.sameFault] using hold
  have same (y : FaultRecord) : y.sameFault merged = y.sameFault x := by simp only [FaultRecord.sameFault, named]
  have list : ((l.bay b).frd.list.map fun y => if y.sameFault merged then merged else y) = front ++ merged :: back := by
    rw [hlist]
    exact map_rewrite (by rw [same, hold]) fun y hy => by rw [same, hothers y hy]
  rw [modFrd_eq, modFrd_eq]
  refine modBay_congr l b _ _ ?_
  simp only [FrdPart.rewrites, list, Bool.and_eq_true, Bool.not_eq_true']

end Sys2Proof.Machine

/-! # FAULT READ, the first chunk, and what becomes of a record (R131 to R141, R147) -/
namespace Sys2Proof.Machine

variable {e : Env} {b : Bay} {l : Live} {s : State} {r : ReadRecord} {old : FaultRecord} {front back : List FaultRecord}
  {p : Placement × Live}

/-! ## A record by how its placement ends -/

/-- R140: a record that is new to the list, behind the placement of its cells. -/
theorem storeRecord_gains (h : effectiveAction e r ≠ .ignore)
    (hnew : ∀ y ∈ (l.bay b).frd.list, y.sameFault (r.judged e) = false)
    (hp : placeCells (heldCells (l.bay b).frd.list) (1 + (r.freeze.length + 7) / 8) l = p) :
    storeRecord e b r l = (countStarved e p.1 p.2).modFrd b (FrdPart.gains p.1 (r.judged e)) := by
  rw [storeRecord_new h hnew, storeNew_eq hp]

section known

variable (h : effectiveAction e r ≠ .ignore) (hlist : (l.bay b).frd.list = front ++ old :: back)
  (hold : old.sameFault (r.judged e) = true) (hothers : ∀ y ∈ front ++ back, y.sameFault (r.judged e) = false)
include h hlist hold hothers

/-- R139: a record that needs more cells than the stored one, behind their placement. -/
theorem storeRecord_merges (hmore : old.cells < (r.judged e).cells)
    (hp : placeCells (heldCells (l.bay b).frd.list) ((r.judged e).cells - old.cells) l = p)
    (hbay : (countStarved e p.1 p.2).bay b = l.bay b) : storeRecord e b r l = (countStarved e p.1 p.2).modFrd b fun c =>
      { c with
        list := front ++ (if p.1 = .taken then mergeWhole old (r.judged e) else mergeFields old (r.judged e)) :: back
        blocking := if (r.judged e).block = true ∧ old.block = false then bumpTo 255 c.blocking else c.blocking } := by
  have named (x : FaultRecord) (hx : x = mergeWhole old (r.judged e) ∨ x = mergeFields old (r.judged e)) :
      x.source = old.source ∧ x.code = old.code := by
    obtain rfl | rfl := hx <;> exact ⟨rfl, rfl⟩
  obtain ⟨hsource, hcode⟩ := named _ (ite_eq_or_eq (p.1 = .taken) (mergeWhole old (r.judged e)) (mergeFields old (r.judged e)))
  rw [storeRecord_known h (find_sameFault hlist hold hothers), mergeRecord_greater hmore hp]
  exact modFrd_rewrites (by rw [hbay, hlist]) hold hothers hsource hcode

/-- R139: a record that needs no more cells than the stored one. -/
theorem storeRecord_shrinks (hless : (r.judged e).cells ≤ old.cells) :
    storeRecord e b r l = freeCells (old.cells - (r.judged e).cells) (l.modFrd b fun c =>
      { c with
        list := front ++ mergeWhole old (r.judged e) :: back
        blocking := if (r.judged e).block = true ∧ old.block = false then bumpTo 255 c.blocking else c.blocking }) := by
  rw [storeRecord_known h (find_sameFault hlist hold hothers), mergeRecord_smaller hless]
  exact congrArg (freeCells _) (modFrd_rewrites (merged := mergeWhole old (r.judged e)) hlist hold hothers rfl rfl)

end known

/-! ## The reply that brings the first chunk -/

/-- What the first chunk leaves to FRD and the pool is what its reply does. -/
theorem exec_firstChunk {timeout : Nat} {bytes data : List Byte} {reply : Reply} {pool : Pool} {P : FrdPart → Prop}
    (hslot : s.live.walk.slot = some ⟨.exchange b (.job (.crd 0 32)), timeout, .counts⟩) (hparse : parseReply b bytes = some reply)
    (hc : reply.content = .cdata 0 data) (hplug : reply.pstat.plugIn = true) (halert : reply.pstat.alert = false)
    (hocc : (s.bay b).btb.occupancy = .occupied) (hdue : FirstChunkDue (s.bay b).frd) (hqueue : s.live.mgu.queue = [])
    (h : ∀ k : Live, FirstChunkDue (k.bay b).frd → k.pool = s.live.pool →
      ∃ c, (frdCdata s.dev.env b 0 data k).reading b = (c, pool) ∧ c.carried = false ∧ P c) :
    ∃ t c x y, exec (.exchangeReply bytes) s = .next t ∧ (t.bay b).frd = { c with alertSeen := x, carried := y } ∧
      t.live.pool = pool ∧ P c := by
  have before := beforeContent_reading (e := s.dev.env) (b := b) (l := s.live) (sent := .job (.crd 0 32)) hocc hplug halert
  have due : FirstChunkDue ((beforeContent s.dev.env b (.job (.crd 0 32)) reply s.live).bay b).frd := by
    rw [show ((beforeContent s.dev.env b (.job (.crd 0 32)) reply s.live).bay b).frd = _ from congrArg Prod.fst before]
    exact ⟨hdue.status, hdue.current, hdue.list, hdue.imageRecords, hdue.parsed, hdue.imageEnd⟩
  obtain ⟨c, hreading, hcarried, hP⟩ := h _ due (congrArg Prod.snd before)
  have frd := congrArg Prod.fst hreading
  obtain ⟨t, ht, ⟨x, y, hfrd⟩, hpool⟩ := exec_cdata (f := .crd 0 32) rfl hslot hparse hc hplug hocc hqueue
    ((congrArg FrdPart.carried frd).trans hcarried)
  exact ⟨t, c, x, y, ht, hfrd.trans (congrArg (fun c : FrdPart => { c with alertSeen := x, carried := y }) frd),
    hpool.trans (congrArg Prod.snd hreading), hP⟩

/-- Settles O41: the start of a read from `startRead_eq`, the first chunk byte by byte, and the record by how its placement ends. -/
theorem faultReadStartsFromAnEmptyList : Obligations.FaultReadStartsFromAnEmptyList := by
  refine ⟨fun s tag bay b hr hb => ⟨fun h => ?_, ?_⟩, ?_, ?_, fun e r => ⟨?_, ?_⟩, ?_⟩
  · exact exec_faultRead tag hr hb (faultRead_refused (not_readable h))
  · intro hocc hprofile hreading hclearing hjob hclaim hgate
    exact exec_faultRead tag hr hb
      (faultRead_starts ((readable_iff _).mpr ⟨hocc, hprofile, not_or.mpr ⟨hreading, hclearing⟩⟩) hjob hclaim hgate)
  · intro s b sent timeout bytes r hslot hparse hc hsent hplug halert hseen hocc hprofile hreading hclearing hjob hclaim hgate hlink
      hbound hover hsweep
    have read : readable (s.live.bay b) = true := (readable_iff _).mpr ⟨hocc, hprofile, not_or.mpr ⟨hreading, hclearing⟩⟩
    have ended := handleReply_alert (e := s.dev.env) hsent hc hplug halert read hseen hjob hclaim hgate hbound hover hlink hsweep
    rw [exec_exchangeReply hslot hparse, ended]
    rfl
  · intro s b timeout bytes r data hslot hparse hc hplug halert hocc hreading hcurrent hlist hrecords hparsed hend hqueue
    have read {pool : Pool} {P : FrdPart → Prop} := exec_firstChunk (pool := pool) (P := P) hslot hparse hc hplug halert hocc
      ⟨hreading, hcurrent, hlist, hrecords, hparsed, hend⟩ hqueue
    refine ⟨?_, ?_, ?_, ?_⟩
    · rintro rest rfl
      obtain ⟨t, c, x, y, ht, hfrd, -, hP⟩ := read (pool := s.live.pool)
        (P := fun c => c.status = .complete ∧ c.cause = .none ∧ c.list = [] ∧ c.current = none) fun k due hpool => by
          obtain ⟨g, hg⟩ := frdCdata_empty (e := s.dev.env) (rest := rest) due
          rw [hpool] at hg
          exact ⟨_, hg, rfl, rfl, rfl, due.list, rfl⟩
      exact ⟨t, ht, by rw [hfrd]; exact hP⟩
    · rintro x rest rfl hzero hmark
      obtain ⟨t, c, x, y, ht, hfrd, -, hP⟩ := read (pool := s.live.pool)
        (P := fun c => c.status = .aborted ∧ c.cause = .badImage ∧ c.list = [] ∧ c.current = none) fun k due hpool => by
          obtain ⟨g, hg⟩ := frdCdata_badMarker (e := s.dev.env) (rest := rest) due hzero hmark
          rw [hpool] at hg
          exact ⟨_, hg, rfl, rfl, rfl, due.list, rfl⟩
      exact ⟨t, ht, by rw [hfrd]; exact hP⟩
    · rintro rfl
      obtain ⟨t, c, x, y, ht, hfrd, -, hP⟩ := read (pool := s.live.pool)
        (P := fun c => c.status = .reading ∧ c.readPoint = 1 ∧ c.current = some (.crd 1 32)) fun k due hpool => by
          have hg := frdCdata_marker (e := s.dev.env) due
          rw [hpool] at hg
          exact ⟨_, hg, rfl, due.status, rfl, rfl⟩
      exact ⟨t, ht, by rw [hfrd]; exact hP⟩
    · rintro source high low occurrences status rfl hfree haction
      obtain ⟨t, c, x, y, ht, hfrd, hpool, hstatus, hcause, hone, hparsed, hlist⟩ := read
        (pool := { s.live.pool with free := s.live.pool.free - 1 })
        (P := fun c => c.status = .complete ∧ c.cause = .none ∧ c.imageRecords = 1 ∧ c.parsed = 1 ∧
          c.list = [(bareRecord source high low occurrences status).judged s.dev.env]) fun k due hpool => by
          obtain ⟨c, hreading, hstatus, hcause, hone, hparsed, hlist, hcarried⟩ :=
            frdCdata_bareRecord (e := s.dev.env) due (by rw [hpool]; exact hfree) haction
          exact ⟨c, by rw [← hpool]; exact hreading, hcarried, hstatus, hcause, hone, hparsed, hlist⟩
      refine ⟨t, ht, ?_⟩
      rw [hfrd, hpool]
      exact ⟨hstatus, hcause, hone, hparsed, rfl, hlist⟩
  · intro x front back hlist hx hfront
    exact effectiveAction_matched hlist hx hfront
  · exact effectiveAction_default
  · intro e b r l held cells blocks same
    refine ⟨storeRecord_ignored, fun h hnew => ⟨fun hquota hfree => ?_, fun hquota => ?_, fun hquota hfree hcache => ?_⟩,
      fun h hnew hquota => ⟨fun early late x hcache hlittle henough => ?_, fun hlittle => ?_⟩, ?_, ?_⟩
    · rw [storeRecord_gains h hnew (placeCells_free hquota hfree)]
      rfl
    · rw [storeRecord_gains h hnew (placeCells_quota hquota)]
      rfl
    · rw [storeRecord_gains h hnew (placeCells_uncached hquota hfree hcache)]
      rfl
    · rw [storeRecord_gains h hnew (placeCells_evicting hquota hcache hlittle henough)]
      rfl
    · rw [storeRecord_gains h hnew (placeCells_starved hquota hlittle)]
      rfl
    · intro old front back h hlist hold hothers hmore more merged
      have merges {p : Placement × Live} := storeRecord_merges (p := p) h hlist hold hothers hmore
      refine ⟨fun hquota hfree => ?_, fun hquota => ?_, fun early late x hquota hcache hlittle henough => ?_,
        fun hquota hlittle => ?_⟩
      · rw [merges (placeCells_free hquota hfree) rfl]
        rfl
      · rw [merges (placeCells_quota hquota) rfl]
        rfl
      · rw [merges (placeCells_evicting hquota hcache hlittle henough) rfl]
        rfl
      · rw [merges (placeCells_starved hquota hlittle) rfl]
        rfl
    · intro old front back h hlist hold hothers hless
      rw [storeRecord_shrinks h hlist hold hothers hless]
      rfl

end Sys2Proof.Machine

/-! # The departure list and what its laws speak of (R152 to R163)

The laws of the departure list speak of a `Roster`: the list, and of each bay its occupancy, coach, link, release, key and gate copies.
Most acts of the other blocks leave it as it stands; what they and DPC's judgement may still write of it is `Minded`. -/
namespace Sys2Proof.Machine

/-- The gate copies DPC holds of a bay (R153). -/
def DpcPart.copies (d : DpcPart) : GateMask := { lamp := d.lampGate, fault := d.faultGate, heat := d.heatGate }

/-- R157: the gates an entry requires pass on a set of copies. -/
def DepEntry.passes (x : DepEntry) (g : GateMask) : Bool :=
  (!x.gates.lamp || g.lamp) && (!x.gates.fault || g.fault) && (!x.gates.heat || x.target.isNone || g.heat)

theorem gatesPass_eq (x : DepEntry) (d : DpcPart) : gatesPass x d = x.passes d.copies := rfl

/-- What the laws of the list speak of in one bay. -/
structure Standing where
  occupancy : Occupancy
  coach : Nat
  purpose : Purpose
  link : Link
  latch : Bool
  key : Option Nat
  copies : GateMask

/-- The standing of a bay's record. -/
def BayRec.standing (r : BayRec) : Standing :=
  { occupancy := r.btb.occupancy
    coach := r.btb.coach
    purpose := r.btb.purpose
    link := r.blm.link
    latch := r.blm.desired.latch
    key := r.fal.key
    copies := r.dpc.copies }

/-- The departure list and the standing of each bay. -/
structure Roster where
  entries : List DepEntry
  bays : Bay → Standing

/-- The roster in the fields of a live state. -/
def rosterOf (departures : List DepEntry) (bays : Vector BayRec 16) : Roster :=
  { entries := departures, bays := fun c => bays[c].standing }

/-- The roster of a live state. -/
def Live.roster (l : Live) : Roster := rosterOf l.departures l.bays

/-- The standing of one bay is written. -/
def Roster.put (b : Bay) (s : Standing) (r : Roster) : Roster := { r with bays := Function.update r.bays b s }

/-- The entries with an id are changed in their place. -/
def Roster.update (n : Nat) (f : DepEntry → DepEntry) (r : Roster) : Roster :=
  { r with entries := r.entries.map fun x => if x.id = n then f x else x }

variable {e : Env} {b c : Bay} {l : Live} {o r r' r'' : Roster} {S K : Set Bay} {x y z : DepEntry} {n : Nat}
  {f : DepEntry → DepEntry} {s : Standing}

@[simp] theorem rosterOf_live (l : Live) : rosterOf l.departures l.bays = l.roster := rfl

/-- A live state written out has its roster in two fields. -/
@[simp] theorem roster_mk (tsw : TswState) (mgu : MguState) (reports : Reports) (walk : Walk) (cache : List ParkedSlot)
    (pool : Pool) (rejects : Nat) (fal : FalState) (departures : List DepEntry) (bays : Vector BayRec 16) :
    Live.roster ⟨tsw, mgu, reports, walk, cache, pool, rejects, fal, departures, bays⟩ = rosterOf departures bays := rfl

theorem roster_entries (l : Live) : l.roster.entries = l.departures := rfl

theorem roster_bays (l : Live) (c : Bay) : l.roster.bays c = (l.bay c).standing := rfl

@[simp] theorem put_entries : (r.put b s).entries = r.entries := rfl

@[simp] theorem put_bays_self : (r.put b s).bays b = s := by simp [Roster.put]

@[simp] theorem put_bays_ne (h : c ≠ b) : (r.put b s).bays c = r.bays c := by simp [Roster.put, h]

@[simp] theorem update_bays : (r.update n f).bays = r.bays := rfl

theorem mem_update : y ∈ (r.update n f).entries ↔ ∃ x ∈ r.entries, (if x.id = n then f x else x) = y := List.mem_map

/-- What was an entry of the list before one with id `n` changed is one behind it, changed where it has the id. -/
theorem update_mem (h : x ∈ r.entries) : (if x.id = n then f x else x) ∈ (r.update n f).entries := List.mem_map_of_mem h

theorem updateEntry_roster : (updateEntry n f l).roster = l.roster.update n f := by
  simp [updateEntry, Roster.update, Live.roster, rosterOf]

theorem modBay_roster {g : BayRec → BayRec} : (l.modBay b g).roster = l.roster.put b (g (l.bay b)).standing := by
  refine congrArg (Roster.mk _) (funext fun c => ?_)
  change ((l.modBay b g).bay c).standing = _
  by_cases hc : c = b
  · subst hc
    simp
  · simp [hc, roster_bays]

theorem setLatch_roster {p : Purpose} {v : Bool} :
    (setLatch b p v l).roster = l.roster.put b { l.roster.bays b with purpose := p, latch := v } := by
  rw [setLatch_eq, modBay_roster]
  rfl

/-! ## Acts that leave the roster -/

theorem put_self : r.put b (r.bays b) = r := by simp [Roster.put]

/-- One record changes beside its standing. -/
theorem modBay_roster_stands {g : BayRec → BayRec} (h : (g (l.bay b)).standing = (l.bay b).standing) :
    (l.modBay b g).roster = l.roster := by
  rw [modBay_roster, h, ← roster_bays, put_self]

@[simp] theorem modScv_roster (g : ScvPart → ScvPart) : (l.modScv b g).roster = l.roster := modBay_roster_stands rfl
@[simp] theorem modLsw_roster (g : LswPart → LswPart) : (l.modLsw b g).roster = l.roster := modBay_roster_stands rfl
@[simp] theorem modFrd_roster (g : FrdPart → FrdPart) : (l.modFrd b g).roster = l.roster := modBay_roster_stands rfl
@[simp] theorem modPhp_roster (g : PhpPart → PhpPart) : (l.modPhp b g).roster = l.roster := modBay_roster_stands rfl

/-- BLM's part changes beside link and latch. -/
theorem modBlm_roster {g : BlmPart → BlmPart} (hlink : (g (l.bay b).blm).link = (l.bay b).blm.link)
    (hlatch : (g (l.bay b).blm).desired.latch = (l.bay b).blm.desired.latch) : (l.modBlm b g).roster = l.roster :=
  modBay_roster_stands (by simp only [BayRec.standing, hlink, hlatch])

/-- BTB's part changes beside occupancy, coach and purpose. -/
theorem modBtb_roster {g : BtbPart → BtbPart} (hocc : (g (l.bay b).btb).occupancy = (l.bay b).btb.occupancy)
    (hcoach : (g (l.bay b).btb).coach = (l.bay b).btb.coach) (hpurpose : (g (l.bay b).btb).purpose = (l.bay b).btb.purpose) :
    (l.modBtb b g).roster = l.roster :=
  modBay_roster_stands (by simp only [BayRec.standing, hocc, hcoach, hpurpose])

theorem modFal_roster {g : FalPart → FalPart} (h : (g (l.bay b).fal).key = (l.bay b).fal.key) : (l.modFal b g).roster = l.roster :=
  modBay_roster_stands (by simp only [BayRec.standing, h])

theorem modDpc_roster {g : DpcPart → DpcPart} (h : (g (l.bay b).dpc).copies = (l.bay b).dpc.copies) :
    (l.modDpc b g).roster = l.roster := modBay_roster_stands (by simp only [BayRec.standing, h])

@[simp] theorem addReason_roster {k : ReportNumber} {v : Reason} : (addReason e k v l).roster = l.roster := rfl
@[simp] theorem addBayReason_roster {v : Reason} : (addBayReason e b v l).roster = l.roster := rfl
@[simp] theorem modTsw_roster {g : TswState → TswState} : (l.modTsw g).roster = l.roster := rfl
@[simp] theorem modLoader_roster {g : Loader → Loader} : (l.modLoader g).roster = l.roster := rfl

/-- What every action of a list leaves is left behind all of them. -/
theorem foldl_roster {α : Type} {g : Live → α → Live} (step : ∀ l x, (g l x).roster = l.roster) (xs : List α) (l : Live) :
    (xs.foldl g l).roster = l.roster :=
  foldl_chain (R := fun l l' => l'.roster = l.roster) (fun _ => rfl) (fun h h' => h'.trans h) step xs l

theorem forBays_roster {g : Bay → Live → Live} {bays : List Bay} (step : ∀ b l, (g b l).roster = l.roster) :
    (forBays bays g l).roster = l.roster := foldl_roster (fun l b => step b l) bays l

/-! ## The laws of a roster -/

/-- R152: the entries have distinct ids, and no two of them one bay. -/
def Roster.Sound (r : Roster) : Prop :=
  (r.entries.map (·.id)).Nodup ∧ ∀ x ∈ r.entries, ∀ y ∈ r.entries, ∀ c, x.bay = some c → y.bay = some c → x.id = y.id

/-- An entry has its id alone. -/
def Roster.Alone (r : Roster) (x : DepEntry) : Prop := ∀ y ∈ r.entries, y.id = x.id → y = x

/-- R157, R159: an entry is CLEARED or RELEASED. -/
def DepEntry.isClear (x : DepEntry) : Prop := x.state = .cleared ∨ x.state = .released

/-- R157: the entries of a bay are CLEARED or RELEASED only with their gates passing and the link ONLINE. -/
def Roster.ClearAt (r : Roster) (c : Bay) : Prop :=
  ∀ x ∈ r.entries, x.bay = some c → x.isClear → x.passes (r.bays c).copies = true ∧ (r.bays c).link = .online

/-- R159: the latch of a bay is desired RELEASE only with purpose SHUNT, or DEPART and a RELEASED entry. -/
def Roster.LatchAt (r : Roster) (c : Bay) : Prop :=
  (r.bays c).latch = true → (r.bays c).purpose = .shunt ∨
    (r.bays c).purpose = .depart ∧ ∃ x ∈ r.entries, x.bay = some c ∧ x.state = .released

/-- No entry is bound to a bay. -/
def Roster.Free (r : Roster) (c : Bay) : Prop := ∀ x ∈ r.entries, x.bay ≠ some c

theorem Roster.Sound.alone (h : r.Sound) (hx : x ∈ r.entries) : r.Alone x :=
  fun _ hy hid => List.inj_on_of_nodup_map h.1 hy hx hid

/-- An entry shares its bay with no other. -/
theorem Roster.Sound.only (h : r.Sound) (hx : x ∈ r.entries) (hy : y ∈ r.entries) (hxc : x.bay = some c)
    (hyc : y.bay = some c) : x = y := h.alone hy x hx (h.2 x hx y hy c hxc hyc)

theorem boundEntry_none_iff : boundEntry l b = none ↔ l.roster.Free b := boundEntry_eq_none_iff

theorem Roster.Free.clearAt (h : r.Free c) : r.ClearAt c := fun x hx hc => absurd hc (h x hx)

/-! ## What the other blocks and DPC's judgement may write -/

/-- An entry changes in its state, LATE and HELD alone, and is not held anew. -/
structure EntryKept (x y : DepEntry) : Prop where
  eq : y = { x with state := y.state, late := y.late, held := y.held }
  held : y.held = true → x.held = true

/-- An entry is neither bound nor unbound, nor released. -/
structure EntryJudged (x y : DepEntry) : Prop where
  waiting : y.state = .waiting ↔ x.state = .waiting
  released : y.state = .released → x.state = .released

/-- What is done about a bound entry short of its binding and its release, on the bays of `S` with DPC's judgement; the keys of the
bays of `K` stand. -/
structure Minded (S K : Set Bay) (r r' : Roster) : Prop where
  occupancy : ∀ c, (r'.bays c).occupancy = (r.bays c).occupancy
  coach : ∀ c, (r'.bays c).coach = (r.bays c).coach
  link : ∀ c, (r'.bays c).link = (r.bays c).link
  key : ∀ c ∈ K, (r'.bays c).key = (r.bays c).key
  free : ∀ c, r.Free c → (r'.bays c).purpose = (r.bays c).purpose ∧ (r'.bays c).latch = (r.bays c).latch
  entries : ∃ f, r'.entries = r.entries.map f ∧
    ∀ x ∈ r.entries, EntryKept x (f x) ∧ (r.Alone x → EntryJudged x (f x))
  clear : r.Sound → ∀ c ∈ S, r.ClearAt c → r'.ClearAt c
  latch : r.Sound → ∀ c, r.LatchAt c → r'.LatchAt c

theorem EntryKept.refl (x : DepEntry) : EntryKept x x := ⟨rfl, id⟩

theorem EntryKept.trans (h : EntryKept x y) (h' : EntryKept y z) : EntryKept x z :=
  ⟨by rw [h'.eq, h.eq], h.held ∘ h'.held⟩

theorem EntryKept.id_eq (h : EntryKept x y) : y.id = x.id := by rw [h.eq]

theorem EntryKept.minute_eq (h : EntryKept x y) : y.minute = x.minute := by rw [h.eq]

theorem EntryKept.bay_eq (h : EntryKept x y) : y.bay = x.bay := by rw [h.eq]

theorem EntryKept.coach_eq (h : EntryKept x y) : y.coach = x.coach := by rw [h.eq]

theorem EntryKept.mismatch_eq (h : EntryKept x y) : y.mismatch = x.mismatch := by rw [h.eq]

theorem EntryKept.passes_eq (h : EntryKept x y) (g : GateMask) : y.passes g = x.passes g := by rw [h.eq]; rfl

theorem EntryJudged.refl (x : DepEntry) : EntryJudged x x := ⟨Iff.rfl, id⟩

theorem EntryJudged.trans (h : EntryJudged x y) (h' : EntryJudged y z) : EntryJudged x z :=
  ⟨h'.waiting.trans h.waiting, h.released ∘ h'.released⟩

theorem Minded.refl (r : Roster) : Minded S K r r :=
  ⟨fun _ => rfl, fun _ => rfl, fun _ => rfl, fun _ _ => rfl, fun _ _ => ⟨rfl, rfl⟩,
    ⟨id, (List.map_id _).symm, fun x _ => ⟨.refl x, fun _ => .refl x⟩⟩, fun _ _ _ => id, fun _ _ => id⟩

/-- Each entry behind it was one before. -/
theorem Minded.source (h : Minded S K r r') (hy : y ∈ r'.entries) :
    ∃ x ∈ r.entries, EntryKept x y ∧ (r.Alone x → EntryJudged x y) := by
  obtain ⟨f, hf, kept⟩ := h.entries
  rw [hf] at hy
  obtain ⟨x, hx, rfl⟩ := List.mem_map.mp hy
  exact ⟨x, hx, kept x hx⟩

/-- Each entry before it is one behind. -/
theorem Minded.target (h : Minded S K r r') (hx : x ∈ r.entries) :
    ∃ y ∈ r'.entries, EntryKept x y ∧ (r.Alone x → EntryJudged x y) := by
  obtain ⟨f, hf, kept⟩ := h.entries
  exact ⟨f x, by rw [hf]; exact List.mem_map_of_mem hx, kept x hx⟩

theorem Minded.ids (h : Minded S K r r') : r'.entries.map (·.id) = r.entries.map (·.id) := by
  obtain ⟨f, hf, kept⟩ := h.entries
  rw [hf, List.map_map]
  exact List.map_congr_left fun x hx => (kept x hx).1.id_eq

theorem Minded.sound (h : Minded S K r r') (hs : r.Sound) : r'.Sound := by
  refine ⟨by rw [h.ids]; exact hs.1, fun x hx y hy c hxc hyc => ?_⟩
  obtain ⟨x, hx, kept, -⟩ := h.source hx
  obtain ⟨y, hy, kept', -⟩ := h.source hy
  rw [kept.id_eq, kept'.id_eq]
  exact hs.2 x hx y hy c (kept.bay_eq ▸ hxc) (kept'.bay_eq ▸ hyc)

theorem Minded.stays_free (h : Minded S K r r') (hc : r.Free c) : r'.Free c := fun y hy => by
  obtain ⟨x, hx, kept, -⟩ := h.source hy
  rw [kept.bay_eq]
  exact hc x hx

theorem Minded.trans (h : Minded S K r r') (h' : Minded S K r' r'') : Minded S K r r'' := by
  refine ⟨fun c => (h'.occupancy c).trans (h.occupancy c), fun c => (h'.coach c).trans (h.coach c),
    fun c => (h'.link c).trans (h.link c), fun c hc => (h'.key c hc).trans (h.key c hc), fun c hc => ?_, ?_,
    fun hs c hc => h'.clear (h.sound hs) c hc ∘ h.clear hs c hc, fun hs c => h'.latch (h.sound hs) c ∘ h.latch hs c⟩
  · obtain ⟨purpose, latch⟩ := h.free c hc
    obtain ⟨purpose', latch'⟩ := h'.free c (h.stays_free hc)
    exact ⟨purpose'.trans purpose, latch'.trans latch⟩
  · obtain ⟨f, hf, kept⟩ := h.entries
    obtain ⟨g, hg, kept'⟩ := h'.entries
    refine ⟨g ∘ f, by rw [hg, hf, List.map_map], fun x hx => ?_⟩
    obtain ⟨hk, hj⟩ := kept x hx
    obtain ⟨hk', hj'⟩ := kept' (f x) (by rw [hf]; exact List.mem_map_of_mem hx)
    refine ⟨hk.trans hk', fun alone => (hj alone).trans (hj' fun z hz hid => ?_)⟩
    rw [hf] at hz
    obtain ⟨y, hy, rfl⟩ := List.mem_map.mp hz
    rw [alone y hy (by rwa [(kept y hy).1.id_eq, hk.id_eq] at hid)]

/-- A chain without a judgement at `b` is one with it where the bay's entries come out in order. -/
theorem Minded.judging (h : Minded (S \ {b}) K r r') (hb : r.Sound → r'.ClearAt b) : Minded S K r r' :=
  { h with
    clear := fun hs c hc hclear => by
      by_cases hcb : c = b
      · exact hcb ▸ hb hs
      · exact h.clear hs c ⟨hc, hcb⟩ hclear }

/-- What may be written in an entry of a roster. -/
structure MayWrite (S : Set Bay) (r : Roster) (x y : DepEntry) : Prop extends EntryJudged x y where
  clear : ∀ c ∈ S, x.bay = some c → y.isClear → x.isClear ∨ x.passes (r.bays c).copies = true ∧ (r.bays c).link = .online
  latch : ∀ c, x.bay = some c → x.state = .released → y.state = .released ∨ (r.bays c).latch = false

theorem MayWrite.of_state (h : y.state = x.state) : MayWrite S r x y :=
  ⟨⟨by rw [h], by rw [h]; exact id⟩, fun _ _ _ hy => .inl (by rwa [DepEntry.isClear, h] at hy), fun _ _ hx => .inl (h.trans hx)⟩

/-- The entry with an id is written. -/
theorem update_minded (kept : ∀ x, EntryKept x (f x))
    (may : ∀ x ∈ r.entries, x.id = n → r.Alone x → MayWrite S r x (f x)) : Minded S K r (r.update n f) := by
  have written (x : DepEntry) (hx : x ∈ r.entries) : EntryKept x (if x.id = n then f x else x) ∧
      (r.Alone x → MayWrite S r x (if x.id = n then f x else x)) := by
    split
    · next hid => exact ⟨kept x, may x hx hid⟩
    · exact ⟨.refl x, fun _ => .of_state rfl⟩
  refine ⟨fun _ => rfl, fun _ => rfl, fun _ => rfl, fun _ _ => rfl, fun _ _ => ⟨rfl, rfl⟩,
    ⟨_, rfl, fun x hx => ⟨(written x hx).1, fun alone => ((written x hx).2 alone).toEntryJudged⟩⟩, fun hs c hc hclear y hy => ?_,
    fun hs c hlatch hdesired => (hlatch hdesired).imp_right fun ⟨hpurpose, x, hx, hxc, hreleased⟩ =>
      ⟨hpurpose, _, update_mem hx, ?_⟩⟩
  · obtain ⟨x, hx, rfl⟩ := mem_update.mp hy
    obtain ⟨hkept, hmay⟩ := written x hx
    rw [hkept.bay_eq, hkept.passes_eq]
    exact fun hxc hyclear => ((hmay (hs.alone hx)).clear c hc hxc hyclear).elim (hclear x hx hxc) id
  · obtain ⟨hkept, hmay⟩ := written x hx
    exact ⟨hkept.bay_eq.trans hxc, ((hmay (hs.alone hx)).latch c hxc hreleased).resolve_right (Bool.not_eq_false _ ▸ hdesired)⟩

/-- The gate copies of a bay without judgement are written. -/
theorem putCopies_minded (hb : b ∉ S) {g : GateMask} : Minded S K r (r.put b { r.bays b with copies := g }) := by
  have others {α : Type} (p : Standing → α) (hp : p { r.bays b with copies := g } = p (r.bays b)) (c : Bay) :
      p ((r.put b { r.bays b with copies := g }).bays c) = p (r.bays c) := by
    by_cases hc : c = b
    · subst hc
      simpa using hp
    · rw [put_bays_ne hc]
  have purpose := others (·.purpose) rfl
  have latch := others (·.latch) rfl
  refine ⟨others (·.occupancy) rfl, others (·.coach) rfl, others (·.link) rfl, fun c _ => others (·.key) rfl c,
    fun c _ => ⟨purpose c, latch c⟩, ⟨id, (List.map_id _).symm, fun x _ => ⟨.refl x, fun _ => .refl x⟩⟩,
    fun _ c hc hclear => ?_, fun _ c hlatch => ?_⟩
  · have hcb : c ≠ b := fun heq => hb (heq ▸ hc)
    simpa [Roster.ClearAt, hcb] using hclear
  · rw [Roster.LatchAt, purpose, latch]
    exact hlatch

/-- The latch of a bay with an entry is locked. -/
theorem putLocked_minded (hx : x ∈ r.entries) (hxb : x.bay = some b) :
    Minded S K r (r.put b { r.bays b with purpose := .none, latch := false }) := by
  have others {α : Type} (p : Standing → α) (hp : p { r.bays b with purpose := .none, latch := false } = p (r.bays b)) (c : Bay) :
      p ((r.put b { r.bays b with purpose := .none, latch := false }).bays c) = p (r.bays c) := by
    by_cases hc : c = b
    · subst hc
      simpa using hp
    · rw [put_bays_ne hc]
  have copies := others (·.copies) rfl
  have link := others (·.link) rfl
  refine ⟨others (·.occupancy) rfl, others (·.coach) rfl, link, fun c _ => others (·.key) rfl c, fun c hc => ?_,
    ⟨id, (List.map_id _).symm, fun x _ => ⟨.refl x, fun _ => .refl x⟩⟩, fun _ c _ hclear => ?_, fun _ c hlatch => ?_⟩
  · have hcb : c ≠ b := fun heq => hc x hx (heq ▸ hxb)
    simp [hcb]
  · rw [Roster.ClearAt, copies, link]
    exact hclear
  · by_cases hcb : c = b
    · subst hcb
      simp [Roster.LatchAt]
    · simpa [Roster.LatchAt, hcb] using hlatch

end Sys2Proof.Machine

/-! # What the other blocks make of the departure list (R101 to R112, R121, R125, R153, R157, R158)

Judgement, gate notices and LATE as `Minded`, and with them the work of PHP, LSW and FAL, on top of what an earlier act has made of a
roster `o`. -/
namespace Sys2Proof.Machine

variable {e : Env} {b c : Bay} {l l' : Live} {o r : Roster} {S K : Set Bay} {x : DepEntry} {n : Nat} {k : ShareKind}
  {on judging silent : Bool}

/-! ## Judgement (R153, R157, R158) -/

/-- R157: the four conditions of clearance. -/
theorem clearable_iff : clearable e l b x = true ↔ x.passes (l.bay b).dpc.copies = true ∧ (l.bay b).blm.link = .online ∧
    x.mismatch = false ∧ distance x.minute e.clock.minute ≤ e.params.clearWindow := by
  simp only [clearable, gatesPass_eq, Bool.and_eq_true, beq_iff_eq, Bool.not_eq_true', decide_eq_true_eq, and_assoc]
  rfl

theorem judge_stands (h : boundEntry l b = some x)
    (hs : x.state = .waiting ∨ x.state = .preparing ∧ clearable e l b x = false ∨ x.isClear ∧ clearable e l b x = true) :
    judge e b l = l := by
  rcases hs with hs | ⟨hs, hc⟩ | ⟨hs | hs, hc⟩ <;> simp [judge, h, hs] <;> simp [hc]

theorem judge_clears (h : boundEntry l b = some x) (hs : x.state = .preparing) (hc : clearable e l b x = true) :
    judge e b l = addBayReason e b .cleared (updateEntry x.id (fun y => { y with state := .cleared }) l) := by
  simp [judge, h, hs, hc]

theorem judge_revokes (h : boundEntry l b = some x) (hs : x.isClear) (hc : clearable e l b x = false) :
    judge e b l = revokeEntry e b x l := by
  rcases hs with hs | hs <;> simp [judge, h, hs, hc]

/-- What a judgement can do (R157, R158). -/
inductive JudgeCase (e : Env) (b : Bay) (l : Live) (x : DepEntry) : Prop where
  | stands (result : judge e b l = l) (fine : x.isClear → clearable e l b x = true)
  | clears (state : x.state = .preparing) (fine : clearable e l b x = true)
      (result : (judge e b l).roster = l.roster.update x.id fun y => { y with state := .cleared })
  | revokes (state : x.state = .cleared)
      (result : (judge e b l).roster = l.roster.update x.id fun y => { y with state := .preparing, held := false })
  | locks (state : x.state = .released)
      (result : (judge e b l).roster = (l.roster.put b { l.roster.bays b with purpose := .none, latch := false }).update x.id
        fun y => { y with state := .preparing, held := false })

theorem judge_case (h : boundEntry l b = some x) : JudgeCase e b l x := by
  cases hs : x.state with
  | waiting => exact .stands (judge_stands h (.inl hs)) (by simp [DepEntry.isClear, hs])
  | preparing =>
    cases hc : clearable e l b x with
    | false => exact .stands (judge_stands h (.inr (.inl ⟨hs, hc⟩))) (by simp [DepEntry.isClear, hs])
    | true => exact .clears hs hc (by rw [judge_clears h hs hc, addBayReason_roster, updateEntry_roster])
  | cleared =>
    cases hc : clearable e l b x with
    | true => exact .stands (judge_stands h (.inr (.inr ⟨.inl hs, hc⟩))) fun _ => hc
    | false => exact .revokes hs (by simp [judge_revokes h (.inl hs) hc, revokeEntry, hs, updateEntry_roster])
  | released =>
    cases hc : clearable e l b x with
    | true => exact .stands (judge_stands h (.inr (.inr ⟨.inr hs, hc⟩))) fun _ => hc
    | false =>
      refine .locks hs ?_
      simp only [judge_revokes h (.inr hs) hc, revokeEntry, hs, if_true, addBayReason_roster, setLatch_roster, updateEntry_roster]
      rfl

/-- Revoked, an entry waits for its clearance again. -/
theorem revoke_minded (hx : x ∈ r.entries) (hs : x.isClear)
    (hl : x.state = .released → ∀ c, x.bay = some c → (r.bays c).latch = false) :
    Minded S K r (r.update x.id fun y => { y with state := .preparing, held := false }) := by
  refine update_minded (fun y => ⟨rfl, nofun⟩) fun y hy hid alone => ?_
  obtain rfl : x = y := alone x hx hid.symm
  refine ⟨⟨?_, nofun⟩, fun c _ _ hy => by rcases hy with hy | hy <;> exact absurd hy nofun,
    fun c hc hreleased => .inr (hl hreleased c hc)⟩
  rcases hs with hs | hs <;> simp [hs]

theorem judge_minded_step : Minded S K l.roster (judge e b l).roster := by
  cases hb : boundEntry l b with
  | none =>
    rw [judge_unbound e b l hb]
    exact .refl _
  | some x =>
    obtain ⟨hx, hxb⟩ := boundEntry_some hb
    have hx' : x ∈ l.roster.entries := hx
    cases judge_case (e := e) hb with
    | stands result =>
      rw [result]
      exact .refl _
    | clears state fine result =>
      rw [result]
      refine update_minded (fun y => ⟨rfl, id⟩) fun y hy hid alone => ?_
      obtain rfl : x = y := alone x hx' hid.symm
      refine ⟨⟨by simp [state], nofun⟩, fun c _ hc _ => ?_, fun c _ hreleased => by simp [state] at hreleased⟩
      obtain rfl : b = c := Option.some.inj (hxb.symm.trans hc)
      obtain ⟨passes, link, -, -⟩ := clearable_iff.mp fine
      exact .inr ⟨passes, link⟩
    | revokes state result =>
      rw [result]
      exact revoke_minded hx' (.inl state) fun hr => by simp [state] at hr
    | locks state result =>
      rw [result]
      refine (putLocked_minded hx' hxb).trans (revoke_minded (r := l.roster.put b _) hx' (.inr state) fun _ c hc => ?_)
      obtain rfl : b = c := Option.some.inj (hxb.symm.trans hc)
      simp

/-- A judgement leaves the bay's entry in order, whatever it found (R157). -/
theorem judge_clearAt (hs : l.roster.Sound) : (judge e b l).roster.ClearAt b := by
  cases hb : boundEntry l b with
  | none =>
    rw [judge_unbound e b l hb]
    exact (boundEntry_none_iff.mp hb).clearAt
  | some x =>
    obtain ⟨hx, hxb⟩ := boundEntry_some hb
    have only {f : DepEntry → DepEntry} {p : Roster} (hp : p.entries = l.roster.entries) {y : DepEntry}
        (hy : y ∈ (p.update x.id f).entries) (hyb : y.bay = some b) (hbay : ∀ y, (f y).bay = y.bay) : y = f x := by
      obtain ⟨z, hz, rfl⟩ := mem_update.mp hy
      have hzb : z.bay = some b := by
        split at hyb
        · rwa [hbay] at hyb
        · exact hyb
      obtain rfl : z = x := hs.only (hp ▸ hz) hx hzb hxb
      rw [if_pos rfl]
    intro y hy hyb hclear
    cases judge_case (e := e) hb with
    | stands result fine =>
      rw [result] at hy ⊢
      obtain rfl : y = x := hs.only hy hx hyb hxb
      obtain ⟨passes, link, -, -⟩ := clearable_iff.mp (fine hclear)
      exact ⟨passes, link⟩
    | clears state fine result =>
      rw [result] at hy ⊢
      rw [only rfl hy hyb fun _ => rfl]
      obtain ⟨passes, link, -, -⟩ := clearable_iff.mp fine
      exact ⟨passes, link⟩
    | revokes state result =>
      rw [result] at hy
      rw [only rfl hy hyb fun _ => rfl] at hclear
      rcases hclear with h | h <;> exact absurd h nofun
    | locks state result =>
      rw [result] at hy
      rw [only rfl hy hyb fun _ => rfl] at hclear
      rcases hclear with h | h <;> exact absurd h nofun

@[simp] theorem judge_minded (h : Minded S K o l.roster) : Minded S K o (judge e b l).roster := h.trans judge_minded_step

theorem setGate_roster {g : Gate} {pass : Bool} : ∃ m : GateMask, (l.modDpc b (·.setGate g pass)).roster =
    l.roster.put b { l.roster.bays b with copies := m } := ⟨((l.bay b).dpc.setGate g pass).copies, modBay_roster⟩

@[simp] theorem gateNotice_minded {g : Gate} {pass : Bool} (hj : judging = true ∨ b ∉ S) (h : Minded S K o l.roster) :
    Minded S K o (gateNotice e judging b g pass l).roster := by
  obtain ⟨m, hm⟩ := setGate_roster (l := l) (b := b) (g := g) (pass := pass)
  have copied {S' : Set Bay} (hb : b ∉ S') : Minded S' K l.roster (l.modDpc b (·.setGate g pass)).roster := by
    rw [hm]
    exact putCopies_minded hb
  refine h.trans ?_
  unfold gateNotice
  split
  · have outside : b ∉ S \ {b} := fun hb => hb.2 rfl
    exact (judge_minded (copied outside)).judging fun hs => judge_clearAt ((copied outside).sound hs)
  · next hno => exact copied (hj.resolve_left hno)

@[simp] theorem lateNotice_minded (h : Minded S K o l.roster) : Minded S K o (lateNotice b on l).roster := by
  refine h.trans ?_
  unfold lateNotice
  split
  · exact .refl _
  · rw [updateEntry_roster]
    exact update_minded (fun _ => ⟨rfl, id⟩) fun _ _ _ _ => .of_state rfl

@[simp] theorem dpcPstat_minded (h : Minded S K o l.roster) : Minded S K o (dpcPstat e b on l).roster :=
  judge_minded (by rwa [modDpc_roster rfl])

theorem forBays_minded {f : Bay → Live → Live} {bays : List Bay} (step : ∀ b l, Minded S K o l.roster → Minded S K o (f b l).roster)
    (h : Minded S K o l.roster) : Minded S K o (forBays bays f l).roster := by
  unfold forBays
  induction bays generalizing l with
  | nil => exact h
  | cons b bays ih => exact ih (step b l h)

theorem judgeAll_minded (h : Minded S K o l.roster) : Minded S K o (judgeAll e l).roster :=
  forBays_minded (fun _ _ => judge_minded) h

/-! ## Settings and frames -/

@[simp] theorem setHeater_roster : (setHeater b on l).roster = l.roster := modBlm_roster (by rw [desire_eq]) (by rw [desire_eq])

@[simp] theorem setContactor_roster : (setContactor b on l).roster = l.roster := modBlm_roster (by rw [desire_eq]) (by rw [desire_eq])

theorem emptySlot_link (m : BlmPart) : m.emptySlot.link = m.link := by
  unfold BlmPart.emptySlot BlmPart.refill
  repeat' split
  all_goals rfl

theorem withdraw_link (p : Owner) (m : BlmPart) : (m.withdraw p).link = m.link := by
  have dropped : (m.dropClaim p).link = m.link := by cases p <;> rfl
  simp only [BlmPart.withdraw]
  repeat' split
  · exact (emptySlot_link _).trans dropped
  · exact dropped
  · exact dropped

theorem place_link (f : JobFrame) (m : BlmPart) : (m.place f).link = m.link := by
  unfold BlmPart.place
  repeat' split
  all_goals rfl

@[simp] theorem withdrawJob_roster {p : Owner} : (withdrawJob b p l).roster = l.roster :=
  modBlm_roster (withdraw_link _ _) (by rw [withdraw_desired])

@[simp] theorem placeJob_roster {f : JobFrame} : (placeJob b f l).roster = l.roster :=
  modBlm_roster (place_link _ _) (by rw [place_desired])

/-! ## PHP's notices (R106 to R111) -/

@[simp] theorem evalLate_minded (h : Minded S K o l.roster) : Minded S K o (evalLate e b l).roster := by
  simp only [evalLate]
  repeat' split
  all_goals simp [h]

@[simp] theorem clearLate_minded (h : Minded S K o l.roster) : Minded S K o (clearLate b l).roster := by
  unfold clearLate
  split <;> simp [h]

@[simp] theorem latchHeatGate_minded (h : Minded S K o l.roster) : Minded S K o (latchHeatGate e b l).roster := by
  unfold latchHeatGate
  split <;> simp [h]

@[simp] theorem heatAdmitted_minded (h : Minded S K o l.roster) : Minded S K o (heatAdmitted e b l).roster := by
  simp only [heatAdmitted]
  repeat' split
  all_goals simp [h]

@[simp] theorem pauseBegins_minded (h : Minded S K o l.roster) : Minded S K o (pauseBegins e b l).roster := by
  simp only [pauseBegins]
  split <;> simp [h]

@[simp] theorem pauseEnds_minded (h : Minded S K o l.roster) : Minded S K o (pauseEnds e b l).roster := by
  simp only [pauseEnds]
  repeat' split
  all_goals simp [h]

@[simp] theorem judgeCabinSample_minded {t : Int} (h : Minded S K o l.roster) : Minded S K o (judgeCabinSample e b t l).roster := by
  simp only [judgeCabinSample]
  repeat' split
  all_goals simp [h]

@[simp] theorem phpPstat_roster : (phpPstat b on l).roster = l.roster := by simp [phpPstat]

@[simp] theorem staleInMaintain_roster : (staleInMaintain b l).roster = l.roster := by
  unfold staleInMaintain
  split <;> simp

@[simp] theorem computeBayLead_roster : (computeBayLead e b l).roster = l.roster := by
  simp only [computeBayLead]
  split <;> simp

/-! ## LSW's notices (R79 to R82, R86, R87, R92) -/

@[simp] theorem driveLamp_roster {p : Nat × Nat} : (driveLamp e b p l).roster = l.roster := by simp [driveLamp]

@[simp] theorem pointAt_roster {p : Option (Nat × Nat)} : (pointAt e b p l).1.roster = l.roster := by
  simp only [pointAt]
  split <;> simp

@[simp] theorem recordResult_roster {p : Nat × Nat} {v : LampResult} : (recordResult b p v l).roster = l.roster := by
  simp [recordResult]

@[simp] theorem evalLampGate_minded (hj : judging = true ∨ b ∉ S) (h : Minded S K o l.roster) :
    Minded S K o (evalLampGate e judging b l).roster := by
  simp only [evalLampGate]
  split <;> simp [h, hj]

@[simp] theorem endPause_minded (h : Minded S K o l.roster) : Minded S K o (endPause e b l).roster := by
  unfold endPause
  split <;> simp [h]

@[simp] theorem lampAdmitted_minded (h : Minded S K o l.roster) : Minded S K o (lampAdmitted e b l).1.roster := by
  simp only [lampAdmitted]
  repeat' split
  all_goals simp [h]

@[simp] theorem closeSweep_minded (h : Minded S K o l.roster) : Minded S K o (closeSweep e b l).roster := by simp [closeSweep, h]

@[simp] theorem reportSweep_minded (hj : judging = true ∨ b ∉ S) (h : Minded S K o l.roster) :
    Minded S K o (reportSweep e judging b l).roster := by simp [reportSweep, h, hj]

end Sys2Proof.Machine

/-! # Judgements (R157, R158) -/
namespace Sys2Proof.Machine

variable {e : Env} {b : Bay} {l : Live} {x : DepEntry} {n : Nat} {f : DepEntry → DepEntry}

theorem updateEntry_eq : updateEntry n f l = { l with departures := l.departures.map fun y => if y.id = n then f y else y } := by
  simp [updateEntry]

/-- The latch of a bay is locked (R162). -/
theorem setLatch_false {p : Purpose} : setLatch b p false l = l.modBay b fun r =>
    { r with
      btb := { r.btb with purpose := p }
      blm :=
        { r.blm with
          desired := { r.blm.desired with latch := false }
          dirty := r.blm.dirty || r.blm.desired.latch } } := by simp only [setLatch_eq, Bool.bne_false]

/-- The latch of a bay is to be released (R159, R162). -/
theorem setLatch_true {p : Purpose} : setLatch b p true l = l.modBay b fun r =>
    { r with
      btb := { r.btb with purpose := p }
      blm :=
        { r.blm with
          desired := { r.blm.desired with latch := true }
          dirty := r.blm.dirty || !r.blm.desired.latch } } := by simp only [setLatch_eq, Bool.bne_true]

theorem passes_iff {g : GateMask} : x.passes g = true ↔ (x.gates.lamp = true → g.lamp = true) ∧
    (x.gates.fault = true → g.fault = true) ∧ (x.gates.heat = true → x.target ≠ none → g.heat = true) := by
  simp only [DepEntry.passes, Bool.and_eq_true, Bool.or_eq_true, Bool.not_eq_true', Option.isNone_iff_eq_none, and_assoc, or_assoc]
  refine and_congr ?_ (and_congr ?_ ?_) <;> simp only [or_iff_not_imp_left, Bool.not_eq_false, ne_eq]

/-- Settles O47: the four conditions spelled out, and the cases of a judgement by state and conditions. -/
theorem judgementsClearAndRevoke : Obligations.JudgementsClearAndRevoke := by
  unfold Obligations.JudgementsClearAndRevoke
  refine ⟨fun e l b x => clearable_iff.trans (and_congr_left' passes_iff), fun e b l x hx => ⟨fun hs => ?_, fun hs hc => ?_,
    fun hs hc => ?_, fun hs hc => ?_, fun hs hc => ?_, fun hs hc => ?_⟩⟩
  · exact judge_stands hx (.inl hs)
  · exact judge_stands hx (.inr (.inl ⟨hs, hc⟩))
  · exact judge_stands hx (.inr (.inr ⟨hs, hc⟩))
  · rw [judge_clears hx hs hc, updateEntry_eq]
  · simp only [judge_revokes hx (.inl hs) hc, revokeEntry, hs, reduceCtorEq, if_false, updateEntry_eq]
  · simp only [judge_revokes hx (.inr hs) hc, revokeEntry, hs, if_true, updateEntry_eq, setLatch_false]
    rfl

end Sys2Proof.Machine

/-! # The feeder, the sweeps and the plans on a roster (R75 to R93, R101 to R112, R118 to R127) -/
namespace Sys2Proof.Machine

variable {e : Env} {b c : Bay} {l l' : Live} {o r : Roster} {S K : Set Bay} {x : DepEntry} {n : Nat} {k : ShareKind}
  {on judging silent : Bool} {p : Nat × Nat} {q : Option (Nat × Nat)} {w : SweepWindow} {ord : SweepOrder} {v : LampResult}

/-! ## Shares, the queue and the pass (R118 to R122) -/

@[simp] theorem setShare_roster {f : FalPart → Share} : (l.modFal b fun y => y.setShare k (f y)).roster = l.roster :=
  modFal_roster (by cases k <;> rfl)

@[simp] theorem setShareState_roster {st : ShareState} : (setShareState b k st l).roster = l.roster := setShare_roster

@[simp] theorem dropShare_roster : (dropShare b k l).roster = l.roster := setShare_roster

@[simp] theorem enqueue_roster {y : Bay × ShareKind} : (enqueue e y l).roster = l.roster := rfl

@[simp] theorem dequeue_roster {y : Bay × ShareKind} : (dequeue y l).roster = l.roster := rfl

@[simp] theorem releaseHeld_roster : (releaseHeld e b k l).roster = l.roster := by
  unfold releaseHeld
  split <;> simp

@[simp] theorem grantShare_roster {y : Bay × ShareKind} : (grantShare e y l).roster = l.roster := by
  simp only [grantShare]
  split <;> simp

theorem admitHeads_roster (n : Nat) (s : Live × List (Bay × ShareKind)) : (admitHeads e n s).1.roster = s.1.roster := by
  induction n generalizing s with
  | zero => rfl
  | succ n ih =>
    unfold admitHeads
    repeat' split
    · rfl
    · exact (ih _).trans grantShare_roster
    · rfl

theorem passLamps_roster (ys : List (Bay × ShareKind)) (s : Live × List (Bay × ShareKind)) :
    (passLamps e ys s).1.roster = s.1.roster := by
  induction ys generalizing s with
  | nil => rfl
  | cons y ys ih =>
    unfold passLamps
    split
    · exact (ih _).trans grantShare_roster
    · exact ih _

theorem passRound_roster : (passRound e l).1.roster = l.roster := (passLamps_roster _ _).trans (admitHeads_roster _ _)

theorem passRounds_roster (n : Nat) (l : Live) (told : List (Bay × ShareKind)) : (passRounds e n l told).1.roster = l.roster := by
  induction n generalizing l told with
  | zero => rfl
  | succ n ih =>
    simp only [passRounds]
    split
    · exact passRound_roster
    · exact (ih _ _).trans passRound_roster

@[simp] theorem admissionPass_roster : (admissionPass e l).1.roster = l.roster := by
  unfold admissionPass
  split
  · rfl
  · exact passRounds_roster _ _ _

@[simp] theorem judgeOvercommit_roster : (judgeOvercommit e l).1.roster = l.roster := by
  unfold judgeOvercommit
  split <;> simp

@[simp] theorem freeShare_roster : (freeShare e b k l).1.roster = l.roster := by
  unfold freeShare
  split <;> simp

@[simp] theorem dropRequest_roster : (dropRequest b k l).roster = l.roster := by fun_cases dropRequest <;> simp

@[simp] theorem requeue_roster : (requeue e b k l).roster = l.roster := by
  unfold requeue
  split <;> simp

/-! ## Notices, requests, withdrawals, releases and keys (R118 to R124) -/

@[simp] theorem tellOwners_minded {told : List (Bay × ShareKind)} (h : Minded S K o l.roster) :
    Minded S K o (tellOwners e n told l).roster := by
  induction n generalizing told l with
  | zero => exact h
  | succ n ih =>
    cases told with
    | nil => exact h
    | cons y rest =>
      obtain ⟨b, k⟩ := y
      cases k with
      | base => exact ih (by simpa using h)
      | heat => exact ih (heatAdmitted_minded h)
      | lamp =>
        have told : Minded S K o (lampAdmitted e b l).1.roster := lampAdmitted_minded h
        rw [tellOwners]
        split
        · next l1 hl =>
          rw [hl] at told
          exact ih told
        · next l1 hl =>
          rw [hl] at told
          exact ih (reportSweep_minded (.inl rfl) (ih (by simpa using closeSweep_minded told)))

@[simp] theorem finishPass_minded {s : Live × List (Bay × ShareKind)} (h : Minded S K o s.1.roster) :
    Minded S K o (finishPass e s).roster := tellOwners_minded h

@[simp] theorem runPass_minded (h : Minded S K o l.roster) : Minded S K o (runPass e l).roster := by simp [runPass, h]

@[simp] theorem requestShare_minded (h : Minded S K o l.roster) : Minded S K o (requestShare e b k n l).roster := by
  have asked (s : Share) (f : FalState) : Live.roster { (l.modFal b fun f => f.setShare k s) with fal := f } = l.roster :=
    setShare_roster (l := l) (b := b) (k := k) (f := fun _ => s)
  simp only [requestShare]
  repeat' split
  · exact runPass_minded (by rwa [enqueue_roster, asked])
  · rwa [asked]
  · exact h

@[simp] theorem withdrawShare_minded (h : Minded S K o l.roster) : Minded S K o (withdrawShare e b k l).roster := by
  unfold withdrawShare
  split <;> simp [h]

@[simp] theorem releaseShare_minded (h : Minded S K o l.roster) : Minded S K o (releaseShare e b k l).roster := by
  simp [releaseShare, h]

/-- Behind the key itself FAL does no more than a pass. -/
theorem setKey_minded_behind {key : Option Nat} (h : Minded S K o (l.modFal b fun f => { f with key := key }).roster) :
    Minded S K o (setKey e b key l).roster := by
  simp only [setKey]
  split
  · next hkey =>
    have same : (l.modFal b fun f => { f with key := key }) = l := modBay_id l b _ (by rw [← hkey])
    rwa [same] at h
  · split
    · refine runPass_minded ?_
      simp only [requeue_roster]
      exact h
    · exact h

/-- The key of a bay is no matter of its entry. -/
theorem putKey_minded (hb : b ∉ K) {key : Option Nat} : Minded S K r (r.put b { r.bays b with key := key }) := by
  have others {α : Type} (p : Standing → α) (hp : p { r.bays b with key := key } = p (r.bays b)) (c : Bay) :
      p ((r.put b { r.bays b with key := key }).bays c) = p (r.bays c) := by
    by_cases hc : c = b
    · subst hc
      simpa using hp
    · rw [put_bays_ne hc]
  have purpose := others (·.purpose) rfl
  have link := others (·.link) rfl
  have latch := others (·.latch) rfl
  have copies := others (·.copies) rfl
  refine ⟨others (·.occupancy) rfl, others (·.coach) rfl, link, fun c hc => ?_, fun c _ => ⟨purpose c, latch c⟩,
    ⟨id, (List.map_id _).symm, fun x _ => ⟨.refl x, fun _ => .refl x⟩⟩, fun _ c _ hclear => ?_, fun _ c hlatch => ?_⟩
  · rw [put_bays_ne fun heq : c = b => hb (heq ▸ hc)]
  · rw [Roster.ClearAt, copies, link]
    exact hclear
  · rw [Roster.LatchAt, purpose, latch]
    exact hlatch

theorem modFal_minded {f : FalPart → FalPart} (hb : b ∉ K) (h : Minded S K o l.roster) : Minded S K o (l.modFal b f).roster := by
  have keyed : (l.modFal b f).roster = l.roster.put b { l.roster.bays b with key := (f (l.bay b).fal).key } := modBay_roster
  rw [keyed]
  exact h.trans (putKey_minded hb)

@[simp] theorem setKey_minded {key : Option Nat} (hb : b ∉ K) (h : Minded S K o l.roster) :
    Minded S K o (setKey e b key l).roster := setKey_minded_behind (modFal_minded hb h)

@[simp] theorem clearRow_minded (hb : b ∉ K) (h : Minded S K o l.roster) : Minded S K o (clearRow e b l).roster := by
  simp only [clearRow]
  exact finishPass_minded (by simpa using modFal_minded hb (by simpa using h))

/-! ## Shedding (R125, R126) -/

@[simp] theorem revokeHeat_roster : (revokeHeat e b l).roster = l.roster := by simp [revokeHeat]

theorem shedLoop_roster (n : Nat) (l : Live) (told : List Bay) : (shedLoop e n l told).1.roster = l.roster := by
  induction n generalizing l told with
  | zero => rfl
  | succ n ih =>
    unfold shedLoop
    repeat' split
    · rfl
    · exact (ih _ _).trans revokeHeat_roster
    · rfl

@[simp] theorem judgeShed_minded (h : Minded S K o l.roster) : Minded S K o (judgeShed e l).roster := by
  unfold judgeShed
  repeat' split
  all_goals simp [h]

@[simp] theorem heatRevoked_minded (h : Minded S K o l.roster) : Minded S K o (heatRevoked e b l).roster :=
  evalLate_minded (requestShare_minded (evalLate_minded (by simpa using h)))

@[simp] theorem shed_minded (h : Minded S K o l.roster) : Minded S K o (shed e l).roster :=
  forBays_minded (fun _ _ => heatRevoked_minded) (judgeShed_minded (by rwa [shedLoop_roster]))

@[simp] theorem limitWritten_minded (h : Minded S K o l.roster) : Minded S K o (limitWritten e n l).roster := by
  simp only [limitWritten]
  repeat' split
  all_goals simp [h]

@[simp] theorem falPstat_minded (h : Minded S K o l.roster) : Minded S K o (falPstat e b on l).roster := by
  have reported : (l.modFal b fun f => { f with contactorReported := on }).roster = l.roster := modFal_roster rfl
  simp only [falPstat]
  split <;> simp [reported, h]

/-! ## Sweeps (R75 to R93) -/

@[simp] theorem completeSweep_minded (h : Minded S K o l.roster) : Minded S K o (completeSweep e b l).roster :=
  reportSweep_minded (.inl rfl) (releaseShare_minded (closeSweep_minded h))

@[simp] theorem stepTo_minded (h : Minded S K o l.roster) : Minded S K o (stepTo e b q l).roster := by
  have pointed : (pointAt e b q l).1.roster = l.roster := pointAt_roster
  unfold stepTo
  split
  · next hl =>
    rw [hl] at pointed
    exact completeSweep_minded (by rwa [pointed])
  · next hl =>
    rw [hl] at pointed
    rwa [pointed]

@[simp] theorem endStep_minded (h : Minded S K o l.roster) : Minded S K o (endStep e b v l).roster := by
  unfold endStep
  split <;> simp [h]

@[simp] theorem abortWith_minded {f : Live → Live} (hj : judging = true ∨ b ∉ S)
    (hf : ∀ l, Minded S K o l.roster → Minded S K o (f l).roster) (h : Minded S K o l.roster) :
    Minded S K o (abortWith e judging silent b f l).roster := by
  simp only [abortWith]
  refine reportSweep_minded hj (hf _ (endPause_minded ?_))
  repeat' split
  all_goals simp [h]

@[simp] theorem abortSweep_minded (hj : judging = true ∨ b ∉ S) (h : Minded S K o l.roster) :
    Minded S K o (abortSweep e judging silent b l).roster :=
  abortWith_minded hj (fun l hl => by split <;> simp [hl]) h

@[simp] theorem stopSweep_minded (hj : judging = true ∨ b ∉ S) (h : Minded S K o l.roster) :
    Minded S K o (stopSweep e judging silent b l).roster := by
  unfold stopSweep
  split <;> simp [h, hj]

@[simp] theorem startSweep_minded (h : Minded S K o l.roster) : Minded S K o (startSweep e b w ord l).roster := by
  simp [startSweep, h]

@[simp] theorem restartSweep_minded (h : Minded S K o l.roster) : Minded S K o (restartSweep e b w ord l).roster := by
  simp only [restartSweep]
  split <;> simp [h]

theorem lampCheck_minded (h : Minded S K o l.roster) : Minded S K o (lampCheck e b w ord l).2.roster := by
  simp only [lampCheck]
  repeat' split
  all_goals simp [h]

theorem lampStop_minded (h : Minded S K o l.roster) : Minded S K o (lampStop e b l).2.roster := by
  unfold lampStop
  split <;> simp [h]

@[simp] theorem visitLimit_minded (h : Minded S K o l.roster) : Minded S K o (visitLimit e b l).roster := by
  simp only [visitLimit]
  repeat' split
  all_goals simp [h]

@[simp] theorem lswExchangeEnd_minded (h : Minded S K o l.roster) : Minded S K o (lswExchangeEnd e b l).roster := by
  simp only [lswExchangeEnd]
  repeat' split
  all_goals simp [h]

@[simp] theorem lampSample_minded {tag : Nat} (h : Minded S K o l.roster) : Minded S K o (lampSample e b tag n on l).roster := by
  simp only [lampSample]
  repeat' split
  all_goals simp [h]

@[simp] theorem lswOccupied_minded (h : Minded S K o l.roster) : Minded S K o (lswOccupied e on b l).roster := by
  simp only [lswOccupied]
  split <;> simp [h]

@[simp] theorem abortLost_minded {queued : List Bay} (h : Minded S K o l.roster) : Minded S K o (abortLost e queued b l).roster := by
  unfold abortLost
  split
  · exact abortWith_minded (.inl rfl) (fun l hl => by split <;> simp [hl]) h
  · exact abortSweep_minded (.inl rfl) h
  · exact h

@[simp] theorem evalProfileGates_minded {pr : Fin 8} (h : Minded S K o l.roster) : Minded S K o (evalProfileGates e pr l).roster :=
  forBays_minded (fun b l h => by split <;> simp [h]) h

/-! ## Plans (R101 to R112) -/

@[simp] theorem heatAct_minded (h : Minded S K o l.roster) : Minded S K o (heatAct e b l).roster := by
  have planned (st : HeatState) : Minded S K o (setHeater b false (l.modPhp b fun q => { q with state := st })).roster := by
    simpa using h
  simp only [heatAct]
  repeat' split
  · exact h
  · exact h
  · exact evalLate_minded (requestShare_minded (evalLate_minded (planned .waitFeed)))
  · exact h
  · exact withdrawShare_minded (clearLate_minded (planned .planned))
  · exact evalLate_minded h
  · exact evalLate_minded h

@[simp] theorem recompute_minded (h : Minded S K o l.roster) : Minded S K o (recompute e b l).roster := by
  unfold recompute
  split <;> simp [h]

@[simp] theorem leavePlan_minded (hj : on = false ∨ b ∉ S) (h : Minded S K o l.roster) :
    Minded S K o (leavePlan e on b l).roster := by
  have hj' : (!on) = true ∨ b ∉ S := hj.imp_left fun h => by rw [h]; rfl
  have shares : Minded S K o (leaveShare e b l).roster := by
    unfold leaveShare
    split <;> simp [h]
  have failed {k : Live} (hk : Minded S K o k.roster) : Minded S K o
      (if (k.bay b).php.gate then gateNotice e (!on) b .heat false (k.modPhp b fun q => { q with gate := false }) else k).roster := by
    split
    · exact gateNotice_minded hj' (by simpa using hk)
    · exact hk
  have left := clearLate_minded (b := b) (failed (k := setHeater b false (leaveShare e b l)) (by simpa using shares))
  simp only [leavePlan]
  split
  · rw [addBayReason_roster, modPhp_roster]
    exact left
  · rw [modPhp_roster]
    exact left

@[simp] theorem enterPlan_minded {target : Int} (h : Minded S K o l.roster) : Minded S K o (enterPlan e b target l).roster := by
  simp [enterPlan, h]

@[simp] theorem planNotice_minded (h : Minded S K o l.roster) : Minded S K o (planNotice e b l).roster := by
  simp only [planNotice]
  repeat' split
  all_goals simp [h]

@[simp] theorem plannabilityNotice_minded (h : Minded S K o l.roster) : Minded S K o (plannabilityNotice e b l).roster := by
  simp only [plannabilityNotice]
  repeat' split
  all_goals simp [h]

@[simp] theorem cabinSample_minded {t : Int} (h : Minded S K o l.roster) : Minded S K o (cabinSample e b t l).roster := by
  simp [cabinSample, h]

@[simp] theorem cabinStaleOnset_minded (h : Minded S K o l.roster) : Minded S K o (cabinStaleOnset e b l).roster := by
  simp [cabinStaleOnset, h]

theorem recomputeProfile_minded {pr : Fin 8} (h : Minded S K o l.roster) : Minded S K o (recomputeProfile e pr l).roster :=
  forBays_minded (fun b l h => by split <;> simp [h]) h

theorem recomputeAll_minded (h : Minded S K o l.roster) : Minded S K o (recomputeAll e l).roster :=
  forBays_minded (fun _ _ => recompute_minded) h

theorem phpMinute_minded (h : Minded S K o l.roster) : Minded S K o (phpMinute e l).roster :=
  forBays_minded (fun _ _ => heatAct_minded) h

@[simp] theorem tellBay_minded {key : Option Nat} (hb : b ∉ K) (h : Minded S K o l.roster) :
    Minded S K o (tellBay e b key l).roster := by simp [tellBay, h, hb]

@[simp] theorem tellStay_minded {names : DepNames} (hb : b ∉ K) (h : Minded S K o l.roster) :
    Minded S K o (tellStay e names b x l).roster := by
  simp only [tellStay]
  repeat' split
  all_goals simp [h, hb]

end Sys2Proof.Machine

/-! # Fault reading, samples and profiles on a roster (R7, R18, R59 to R65, R91, R131 to R149) -/
namespace Sys2Proof.Machine

variable {e : Env} {b c : Bay} {l l' : Live} {o r : Roster} {S K : Set Bay} {n m : Nat} {on judging silent : Bool}
  {job : JobFrame} {rs : ReadStatus} {cause : AbortCause} {bytes : List Byte} {xe : ExchangeEnd} {pr : Fin 8} {bs : List Bay}

/-! ## Cells, lists and frames (R18, R134, R139 to R141) -/

@[simp] theorem freeCells_roster : (freeCells n l).roster = l.roster := rfl

@[simp] theorem emptyList_roster : (emptyList b l).roster = l.roster := by simp [emptyList]

@[simp] theorem evictOldest_roster : (evictOldest l).roster = l.roster := by
  unfold evictOldest
  split <;> rfl

theorem evictUntil_roster (n k : Nat) (l : Live) : (evictUntil n k l).roster = l.roster := by
  induction k generalizing l with
  | zero => rfl
  | succ k ih =>
    unfold evictUntil
    split
    · rfl
    · exact (ih _).trans evictOldest_roster

@[simp] theorem placeCells_roster : (placeCells m n l).2.roster = l.roster := by
  simp only [placeCells]
  repeat' split
  · rfl
  · exact evictUntil_roster _ _ _
  · exact evictUntil_roster _ _ _

@[simp] theorem countStarved_roster {p : Placement} : (countStarved e p l).roster = l.roster := by
  unfold countStarved
  split <;> simp

@[simp] theorem countBlocking_roster : (countBlocking b on l).roster = l.roster := by
  unfold countBlocking
  split <;> simp

@[simp] theorem storeRecord_roster {v : ReadRecord} : (storeRecord e b v l).roster = l.roster := by
  unfold storeRecord
  split
  · rfl
  · simp only
    split
    · simp [storeNew]
    · simp only [mergeRecord, countBlocking_roster]
      split <;> simp [putRecord]

@[simp] theorem placeFrd_roster : (placeFrd b job l).roster = l.roster := by simp [placeFrd]

@[simp] theorem placeChunk_roster : (placeChunk b l).roster = l.roster := by simp [placeChunk]

/-! ## Reads and clears (R131 to R137, R143 to R149) -/

@[simp] theorem evalFaultGate_minded (hj : judging = true ∨ b ∉ S) (h : Minded S K o l.roster) :
    Minded S K o (evalFaultGate e judging b l).roster := by
  simp only [evalFaultGate]
  split <;> simp [h, hj]

@[simp] theorem startRead_minded (h : Minded S K o l.roster) : Minded S K o (startRead e b l).roster := by simp [startRead, h]

@[simp] theorem endRead_minded (hj : judging = true ∨ b ∉ S) (h : Minded S K o l.roster) :
    Minded S K o (endRead e judging b rs cause l).roster := by simp [endRead, h, hj]

@[simp] theorem completeRead_minded (h : Minded S K o l.roster) : Minded S K o (completeRead e b l).roster :=
  endRead_minded (.inl rfl) h

@[simp] theorem abortRead_minded (h : Minded S K o l.roster) : Minded S K o (abortRead e b cause l).roster :=
  endRead_minded (.inl rfl) h

@[simp] theorem stopRead_minded (hj : judging = true ∨ b ∉ S) (h : Minded S K o l.roster) :
    Minded S K o (stopRead e judging cause b l).roster := by
  unfold stopRead
  split <;> simp [h, hj]

@[simp] theorem completeRecord_minded (h : Minded S K o l.roster) : Minded S K o (completeRecord e b bytes l).roster := by
  unfold completeRecord
  split
  · exact h
  · simp only
    split <;> simp [h]

@[simp] theorem parseByte_minded {x : Byte} (h : Minded S K o l.roster) : Minded S K o (parseByte e b n x l).roster := by
  unfold parseByte
  split
  case h_1 =>
    repeat' split
    all_goals simp [h]
  case h_2 => simp [h]
  case h_3 =>
    simp only
    repeat' split
    all_goals simp [h]
  case h_4 =>
    simp only [parseRecordByte]
    repeat' split
    all_goals simp [h]

theorem parseBytes_minded (offset : Nat) (bytes : List Byte) (h : Minded S K o l.roster) :
    Minded S K o (parseBytes e b offset bytes l).roster := by
  induction bytes generalizing offset l with
  | nil =>
    unfold parseBytes
    split <;> simp [h]
  | cons x rest ih =>
    unfold parseBytes
    split
    · exact ih _ (parseByte_minded h)
    · exact h

@[simp] theorem frdCdata_minded (h : Minded S K o l.roster) : Minded S K o (frdCdata e b n bytes l).roster := by
  have parsed {g : FrdPart → FrdPart} {xs : List Byte} : Minded S K o (parseBytes e b n xs (l.modFrd b g)).roster :=
    parseBytes_minded _ _ (by simpa using h)
  simp only [frdCdata, takeChunk]
  repeat' split
  all_goals simp [h, parsed]

@[simp] theorem frdCdone_minded (h : Minded S K o l.roster) : Minded S K o (frdCdone e b l).roster := by
  unfold frdCdone
  split <;> simp [h]

@[simp] theorem settleFrd_minded (h : Minded S K o l.roster) : Minded S K o (settleFrd e b job xe l).roster := by
  unfold settleFrd
  simp only [countBusy, countAttempt]
  repeat' split
  all_goals simp [h]

@[simp] theorem frdExchangeEnd_minded (h : Minded S K o l.roster) : Minded S K o (frdExchangeEnd e b xe l).roster := by
  simp only [frdExchangeEnd]
  split <;> simp [h]

@[simp] theorem frdPstat_minded (h : Minded S K o l.roster) : Minded S K o (frdPstat e b on l).roster := by
  unfold frdPstat
  split <;> simp [h]

@[simp] theorem frdOccupied_minded (h : Minded S K o l.roster) : Minded S K o (frdOccupied e b l).roster := by
  simp only [frdOccupied]
  split <;> simp [h]

@[simp] theorem clearExpires_minded (h : Minded S K o l.roster) : Minded S K o (clearExpires e b l).roster := by
  simp [clearExpires, h]

theorem frdTick_minded (h : Minded S K o l.roster) : Minded S K o (frdTick e l).roster :=
  forBays_minded (fun b l h => by
    simp only [frdTickBay]
    repeat' split
    all_goals simp [h]) h

theorem faultRead_minded (h : Minded S K o l.roster) : Minded S K o (faultRead e b l).2.roster := by
  unfold faultRead
  split <;> simp [h]

theorem faultClear_minded (h : Minded S K o l.roster) : Minded S K o (faultClear e b l).2.roster := by
  unfold faultClear
  split <;> simp [h]

theorem faultFlush_minded (h : Minded S K o l.roster) : Minded S K o (faultFlush e b l).2.roster := by
  unfold faultFlush
  split <;> simp [h]

/-! ## Samples (R59 to R65) -/

@[simp] theorem takeSample_minded {flags tag : Byte} (h : Minded S K o l.roster) : Minded S K o (takeSample e b flags tag n l).roster := by
  simp only [takeSample, takeCabin, takeLamp]
  repeat' split
  all_goals simp [h]

theorem scvMinute_minded (h : Minded S K o l.roster) : Minded S K o (scvMinute e l).roster :=
  forBays_minded (fun b l h => by
    simp only [ageBay]
    split <;> simp [h]) h

/-! ## Profiles written (R7, R91, R100) -/

@[simp] theorem setMissing_roster : (setMissing on bs l).roster = l.roster := forBays_roster fun _ _ => modBtb_roster rfl rfl rfl

theorem profileWritten_minded (h : Minded S K o l.roster) : Minded S K o (profileWritten pr e l).roster := by
  have dropped (ds : List Bay) (k : Live) : (forBays ds (dropRequest · .lamp) k).roster = k.roster :=
    forBays_roster fun _ _ => dropRequest_roster
  simp only [profileWritten]
  split
  · refine recomputeProfile_minded (evalProfileGates_minded (forBays_minded (fun b k hk => ?_) (by simpa using h)))
    exact plannabilityNotice_minded (evalLampGate_minded (.inl rfl) hk)
  · refine forBays_minded (fun b k hk => ?_) (by simpa [dropped] using h)
    exact plannabilityNotice_minded (evalLampGate_minded (.inl rfl) (abortLost_minded hk))

end Sys2Proof.Machine

/-! # The laws of the departure list (R152, R156, R157, R159)

`Lawful` holds the laws of a roster together; which bays' clearances and latches, and whether the order, it speaks of is a matter of
what is `Asked`, so that an act may leave an entry to a judgement that is still to come. -/
namespace Sys2Proof.Machine

/-- The bays whose clearances are asked for, those whose latches are, and whether the order of the list is. -/
structure Asked where
  clear : Set Bay
  latch : Set Bay
  order : Prop

/-- The clearance of one bay is not asked for. -/
def Asked.but (a : Asked) (b : Bay) : Asked := { a with clear := a.clear \ {b} }

/-- The order of the list is not asked for. -/
def Asked.unordered (a : Asked) : Asked := { a with order := False }

/-- R156: a bay is OCCUPIED by a coach that an entry without MISMATCH expects. -/
def Standing.Suits (s : Standing) (x : DepEntry) : Prop :=
  s.occupancy = .occupied ∧ (x.coach = none ∨ x.coach = some s.coach) ∧ x.mismatch = false

/-- The laws of the list, as far as they are asked for. -/
structure Roster.Lawful (e : Env) (a : Asked) (r : Roster) : Prop where
  length : r.entries.length ≤ 32
  sound : r.Sound
  enabled : ∀ x ∈ r.entries, ∀ c, x.bay = some c → (r.bays c).occupancy ≠ .disabled
  bound : ∀ x ∈ r.entries, x.state ≠ .waiting → ∃ c, x.bay = some c ∧ (r.bays c).Suits x
  clear : ∀ c ∈ a.clear, r.ClearAt c
  latch : ∀ c ∈ a.latch, r.LatchAt c
  order : a.order → e.straps.addressed = true → ascending e r.entries = true

/-- Every entry bound to a bay is WAITING. -/
def Roster.WaitsAt (r : Roster) (c : Bay) : Prop := ∀ x ∈ r.entries, x.bay = some c → x.state = .waiting

variable {e e' : Env} {a : Asked} {b c : Bay} {l l' : Live} {r r' : Roster} {S K : Set Bay} {x y z : DepEntry} {n : Nat}
  {s : Standing} {f : DepEntry → DepEntry}

/-! ## The laws of the statements -/

/-- With distinct ids a bay is named once when the entries that name it have one id. -/
theorem boundOnce_iff (hids : (l.departures.map (·.id)).Nodup) : boundOnce l ↔
    ∀ x ∈ l.departures, ∀ y ∈ l.departures, ∀ c, x.bay = some c → y.bay = some c → x.id = y.id := by
  refine ⟨fun h x hx y hy c hxc hyc => by rw [eq_of_bound h hx hy hxc hyc], fun h => List.pairwise_filterMap.mpr ?_⟩
  refine (List.pairwise_map.mp hids).imp_of_mem fun {x y} hx hy hne c hxc d hyd heq => hne ?_
  exact h x hx y hy c hxc (heq ▸ hyd)

theorem departureLaw_iff : departureLaw l = true ↔ l.departures.length ≤ 32 ∧ l.roster.Sound ∧
    ∀ x ∈ l.departures, ∀ c, x.bay = some c → (l.bay c).btb.occupancy ≠ .disabled := by
  simp only [departureLaw, Bool.and_eq_true, decide_eq_true_iff, List.all_eq_true, Roster.Sound, and_assoc]
  refine and_congr_right fun _ => and_congr_right fun hids => and_congr (boundOnce_iff hids) (forall₂_congr fun x _ => ?_)
  cases x.bay <;> simp

theorem bindingLaw_iff : bindingLaw l = true ↔
    ∀ x ∈ l.roster.entries, x.state ≠ .waiting → ∃ c, x.bay = some c ∧ (l.roster.bays c).Suits x := by
  rw [bindingLaw, List.all_eq_true]
  refine forall₂_congr fun x _ => ?_
  cases hb : x.bay with
  | none => simp
  | some c =>
    simp [Standing.Suits, roster_bays, BayRec.standing, or_iff_not_imp_left, and_assoc]

theorem clearanceLaw_of (hbound : bindingLaw l = true) : clearanceLaw l = true ↔ ∀ c, l.roster.ClearAt c := by
  have entry : clearanceLaw l = true ↔ ∀ x ∈ l.departures, ∀ c, x.bay = some c → x.isClear →
      x.passes (l.roster.bays c).copies = true ∧ (l.roster.bays c).link = .online := by
    rw [clearanceLaw, List.all_eq_true]
    refine forall₂_congr fun x hx => ?_
    have suits := bindingLaw_iff.mp hbound x hx
    cases hs : x.state with
    | waiting => simp [DepEntry.isClear, hs]
    | preparing => simp [DepEntry.isClear, hs]
    | cleared | released =>
      obtain ⟨c, hc, hocc, hcoach, -⟩ := suits (by simp [hs])
      have hocc' : (l.bay c).btb.occupancy = .occupied := hocc
      have hcoach' : x.coach = none ∨ x.coach = some (l.bay c).btb.coach := hcoach
      simp [DepEntry.isClear, hs, hc, hocc', hcoach', gatesPass_eq, roster_bays, BayRec.standing, and_comm]
  rw [entry]
  exact ⟨fun h c x hx hc hclear => h x hx c hc hclear, fun h x hx c hc hclear => h c x hx hc hclear⟩

theorem latchLaw_iff (hs : l.roster.Sound) : latchLaw l b = true ↔ l.roster.LatchAt b := by
  have entry : ((boundEntry l b).any fun x => x.state == .released) = true ↔
      ∃ x ∈ l.roster.entries, x.bay = some b ∧ x.state = .released := by
    cases hb : boundEntry l b with
    | none =>
      have free := boundEntry_none_iff.mp hb
      simp only [Option.any_none, Bool.false_eq_true, false_iff]
      exact fun ⟨x, hx, hxb, _⟩ => free x hx hxb
    | some x =>
      obtain ⟨hx, hxb⟩ := boundEntry_some hb
      simp only [Option.any_some, beq_iff_eq]
      exact ⟨fun h => ⟨x, hx, hxb, h⟩, fun ⟨y, hy, hyb, h⟩ => hs.only hy hx hyb hxb ▸ h⟩
  rw [Roster.LatchAt, ← entry]
  simp only [latchLaw, roster_bays, BayRec.standing, Bool.or_eq_true, Bool.and_eq_true, Bool.not_eq_true', beq_iff_eq, or_assoc]
  exact ⟨fun h hlatch => h.resolve_left (by simp [hlatch]), fun h => (Bool.eq_false_or_eq_true _).symm.imp_right h⟩

/-! ## What keeps the laws -/

theorem ascending_map (h : ∀ x ∈ r.entries, (f x).minute = x.minute) : ascending e (r.entries.map f) = ascending e r.entries := by
  rw [Bool.eq_iff_iff, ascending_iff, ascending_iff, List.isChain_map]
  exact List.IsChain.iff_of_mem_imp fun x y hx hy => by simp only [DepEntry.distance, h x hx, h y hy]

/-- An entry that does not wait has its coach at its bay. -/
theorem Roster.Lawful.suits (h : r.Lawful e a) (hx : x ∈ r.entries) (hb : x.bay = some b) (hs : x.state ≠ .waiting) :
    (r.bays b).Suits x := by
  obtain ⟨c, hc, suits⟩ := h.bound x hx hs
  obtain rfl : b = c := Option.some.inj (hb.symm.trans hc)
  exact suits

theorem Roster.Lawful.unbound_waits (h : r.Lawful e a) (hx : x ∈ r.entries) (hb : x.bay = none) : x.state = .waiting := by
  by_contra hs
  obtain ⟨c, hc, -⟩ := h.bound x hx hs
  simp [hb] at hc

/-- A bay with an entry is not DISABLED. -/
theorem Roster.Lawful.enabled_or_free (h : r.Lawful e a) : (r.bays b).occupancy ≠ .disabled ∨ r.Free b := by
  refine or_iff_not_imp_right.mpr fun hbound => ?_
  simp only [Roster.Free, ne_eq, not_forall, not_not] at hbound
  obtain ⟨x, hx, hb⟩ := hbound
  exact h.enabled x hx b hb

/-- What is done about a bound entry keeps the laws. -/
theorem Roster.Lawful.minded (hl : r.Lawful e a) (h : Minded a.clear K r r') : r'.Lawful e a := by
  refine ⟨?_, h.sound hl.sound, fun y hy c hc => ?_, fun y hy hs => ?_, fun c hc => h.clear hl.sound c hc (hl.clear c hc),
    fun c hc => h.latch hl.sound c (hl.latch c hc), fun ha hrow => ?_⟩
  · rw [← List.length_map (·.id), h.ids, List.length_map]
    exact hl.length
  · obtain ⟨x, hx, kept, -⟩ := h.source hy
    rw [h.occupancy]
    exact hl.enabled x hx c (kept.bay_eq ▸ hc)
  · obtain ⟨x, hx, kept, judged⟩ := h.source hy
    obtain ⟨c, hc, hocc, hcoach, hmismatch⟩ := hl.bound x hx (mt (judged (hl.sound.alone hx)).waiting.mpr hs)
    refine ⟨c, kept.bay_eq.trans hc, (h.occupancy c).trans hocc, ?_, kept.mismatch_eq.trans hmismatch⟩
    rwa [kept.coach_eq, h.coach]
  · obtain ⟨f, hf, kept⟩ := h.entries
    rw [hf, ascending_map fun x hx => (kept x hx).1.minute_eq]
    exact hl.order ha hrow

/-- Entries that wait go on waiting. -/
theorem Minded.waitsAt (h : Minded S K r r') (hs : r.Sound) (hw : r.WaitsAt c) : r'.WaitsAt c := fun y hy hc => by
  obtain ⟨x, hx, kept, judged⟩ := h.source hy
  exact (judged (hs.alone hx)).waiting.mpr (hw x hx (kept.bay_eq ▸ hc))

/-- Less may be asked for. -/
theorem Roster.Lawful.but (h : r.Lawful e a) : r.Lawful e (a.but b) := { h with clear := fun c hc => h.clear c hc.1 }

/-- What was left out holds again. -/
theorem Roster.Lawful.of_but (h : r.Lawful e (a.but b)) (hb : r.ClearAt b) : r.Lawful e a :=
  { h with
    clear := fun c hc => by
      by_cases hcb : c = b
      · exact hcb ▸ hb
      · exact h.clear c ⟨hc, hcb⟩ }

theorem Roster.Lawful.unordered (h : r.Lawful e a) : r.Lawful e' a.unordered := { h with order := nofun }

/-- The order is a matter of the clock and of the part's address. -/
theorem Roster.Lawful.env (h : r.Lawful e a) (hminute : e'.clock.minute = e.clock.minute) (hrow : e'.straps = e.straps) :
    r.Lawful e' a :=
  { h with
    order := fun ha hrow' => by
      rw [ascending_iff]
      have order := (ascending_iff _ _).mp (h.order ha (hrow ▸ hrow'))
      simpa only [DepEntry.distance, hminute] using order }

/-- The entry of a bay is judged, and its clearance holds (R157). -/
theorem judge_lawful (h : l.roster.Lawful e' (a.but b)) : (judge e b l).roster.Lawful e' a :=
  (h.minded (judge_minded (K := ∅) (.refl _))).of_but (judge_clearAt h.sound)

/-- The standing of one bay is written. -/
theorem Roster.Lawful.put (h : r.Lawful e a) (hen : s.occupancy ≠ .disabled ∨ r.Free b)
    (hsuits : ∀ x ∈ r.entries, x.bay = some b → x.state ≠ .waiting → s.Suits x)
    (hclear : b ∈ a.clear → (r.put b s).ClearAt b) (hlatch : b ∈ a.latch → (r.put b s).LatchAt b) : (r.put b s).Lawful e a := by
  refine ⟨h.length, h.sound, fun x hx c hc => ?_, fun x hx hs => ?_, fun c hc => ?_, fun c hc => ?_, h.order⟩
  · by_cases hcb : c = b
    · subst hcb
      rw [put_bays_self]
      exact hen.resolve_right fun free => free x hx hc
    · rw [put_bays_ne hcb]
      exact h.enabled x hx c hc
  · obtain ⟨c, hc, suits⟩ := h.bound x hx hs
    refine ⟨c, hc, ?_⟩
    by_cases hcb : c = b
    · subst hcb
      rw [put_bays_self]
      exact hsuits x hx hc hs
    · rwa [put_bays_ne hcb]
  · by_cases hcb : c = b
    · exact hcb ▸ hclear (hcb ▸ hc)
    · simpa [Roster.ClearAt, hcb] using h.clear c hc
  · by_cases hcb : c = b
    · exact hcb ▸ hlatch (hcb ▸ hc)
    · simpa [Roster.LatchAt, hcb] using h.latch c hc

/-- The standing of a bay without an entry is written. -/
theorem Roster.Lawful.put_free (h : r.Lawful e a) (free : r.Free b) (hlatch : s.latch = false) : (r.put b s).Lawful e a :=
  h.put (.inr free) (fun x hx hb => absurd hb (free x hx)) (fun _ => Roster.Free.clearAt (r := r.put b s) free)
    fun _ hdesired => by simp [hlatch] at hdesired

/-! ## One entry written, or removed (R152) -/

/-- One entry stands in the list as `y`, new or in place of those with its id; the others stand. -/
structure Written (y : DepEntry) (r r' : Roster) : Prop where
  bays : r'.bays = r.bays
  length : r'.entries.length ≤ 32
  ids : (r'.entries.map (·.id)).Nodup
  mem : ∀ z, z ∈ r'.entries ↔ z = y ∨ z ∈ r.entries ∧ z.id ≠ y.id

/-- What an entry has to meet at the bay it is written for. -/
structure Fits (a : Asked) (r : Roster) (y : DepEntry) (c : Bay) : Prop where
  enabled : (r.bays c).occupancy ≠ .disabled
  only : ∀ z ∈ r.entries, z.bay = some c → z.id = y.id
  suits : y.state ≠ .waiting → (r.bays c).Suits y
  clear : c ∈ a.clear → y.isClear → y.passes (r.bays c).copies = true ∧ (r.bays c).link = .online

theorem Written.lawful (w : Written y r r') (h : r.Lawful e a) (hfree : y.bay = none → y.state = .waiting)
    (hfits : ∀ c, y.bay = some c → Fits a r y c)
    (hlatch : ∀ x ∈ r.entries, x.id = y.id → x.state = .released → ∀ c, x.bay = some c →
      y.bay = some c ∧ y.state = .released ∨ (r.bays c).latch = false)
    (horder : a.order → e.straps.addressed = true → ascending e r'.entries = true) : r'.Lawful e a := by
  have entry {P : DepEntry → Prop} (hy : P y) (hothers : ∀ z ∈ r.entries, z.id ≠ y.id → P z) (z : DepEntry)
      (hz : z ∈ r'.entries) : P z := ((w.mem z).mp hz).elim (fun heq => heq ▸ hy) fun ⟨hz, hne⟩ => hothers z hz hne
  refine ⟨w.length, ⟨w.ids, entry (entry (fun _ _ _ => rfl) fun z hz hne c hc hzc => absurd ((hfits c hc).only z hz hzc) hne)
      fun x hx hne => entry (fun c hxc hc => (hfits c hc).only x hx hxc) fun z hz _ c hxc hzc => h.sound.2 x hx z hz c hxc hzc⟩,
    ?_, ?_, fun c hc => ?_, fun c hc hdesired => ?_, horder⟩
  · rw [w.bays]
    exact entry (fun c hc => (hfits c hc).enabled) fun z hz _ => h.enabled z hz
  · rw [w.bays]
    refine entry (fun hs => ?_) fun z hz _ => h.bound z hz
    obtain ⟨c, hc⟩ := Option.ne_none_iff_exists'.mp fun hb => hs (hfree hb)
    exact ⟨c, hc, (hfits c hc).suits hs⟩
  · rw [Roster.ClearAt, w.bays]
    exact entry (fun hb => (hfits c hb).clear hc) fun z hz _ => h.clear c hc z hz
  · rw [w.bays] at hdesired ⊢
    refine (h.latch c hc hdesired).imp_right fun ⟨hpurpose, x, hx, hxc, hreleased⟩ => ⟨hpurpose, ?_⟩
    by_cases hid : x.id = y.id
    · exact ⟨y, (w.mem y).mpr (.inl rfl), (hlatch x hx hid hreleased c hxc).resolve_right (by simp [hdesired])⟩
    · exact ⟨x, (w.mem x).mpr (.inr ⟨hx, hid⟩), hxc, hreleased⟩

/-- An entry changed in its place. -/
theorem written_update (h : r.Lawful e a) (hx : x ∈ r.entries) (hid : (f x).id = x.id) : Written (f x) r (r.update x.id f) := by
  have alone : r.Alone x := h.sound.alone hx
  have ids : (r.update x.id f).entries.map (·.id) = r.entries.map (·.id) := by
    simp only [Roster.update, List.map_map]
    refine List.map_congr_left fun y hy => ?_
    simp only [Function.comp]
    split
    · next hy' => rw [alone y hy hy', hid]
    · rfl
  refine ⟨rfl, ?_, by rw [ids]; exact h.sound.1, fun z => ?_⟩
  · simpa [Roster.update] using h.length
  · rw [mem_update, hid]
    constructor
    · rintro ⟨y, hy, rfl⟩
      split
      · next hy' => exact .inl (by rw [alone y hy hy'])
      · next hy' => exact .inr ⟨hy, hy'⟩
    · rintro (rfl | ⟨hz, hne⟩)
      · exact ⟨x, hx, if_pos rfl⟩
      · exact ⟨z, hz, if_neg hne⟩

theorem ascending_update (hminute : ∀ y ∈ r.entries, y.id = n → (f y).minute = y.minute) :
    ascending e (r.update n f).entries = ascending e r.entries :=
  ascending_map fun y hy => by
    split
    · next hid => exact hminute y hy hid
    · rfl

/-- An entry placed by its distance. -/
theorem insertEntry_perm (e : Env) (x : DepEntry) (list : List DepEntry) : (insertEntry e x list).Perm (x :: list) := by
  obtain ⟨front, back, hlist, hinsert, -, -⟩ := insertEntry_split e x list
  rw [hinsert, hlist]
  exact List.perm_middle

/-- An entry placed anew, whether or not its id was in the list. -/
theorem written_insert (h : r.Lawful e' a) (hroom : r.entries.length < 32 ∨ ∃ x ∈ r.entries, x.id = y.id) :
    Written y r { r with entries := insertEntry e y (r.entries.filter fun z => z.id != y.id) } := by
  have perm := insertEntry_perm e y (r.entries.filter fun z => z.id != y.id)
  refine ⟨rfl, ?_, ?_, fun z => by simp [perm.mem_iff]⟩
  · rw [perm.length_eq, List.length_cons]
    rcases hroom with hroom | ⟨x, hx, hid⟩
    · exact (Nat.succ_le_succ (List.length_filter_le _ _)).trans hroom
    · have fewer : (r.entries.filter fun z => z.id != y.id).length < r.entries.length :=
        List.length_filter_lt_length_iff_exists.mpr ⟨x, hx, by simp [hid]⟩
      exact Nat.succ_le_of_lt (fewer.trans_le h.length)
  · rw [(perm.map _).nodup_iff, List.map_cons, List.nodup_cons]
    refine ⟨fun hmem => ?_, h.sound.1.sublist (List.filter_sublist.map _)⟩
    obtain ⟨z, hz, hid⟩ := List.mem_map.mp hmem
    simpa [hid] using (List.mem_filter.mp hz).2

/-- A list that loses entries stays in order. -/
theorem ascending_filter {p : DepEntry → Bool} {list : List DepEntry} (h : ascending e list = true) :
    ascending e (list.filter p) = true := by
  rw [ascending_iff] at h ⊢
  have : IsTrans DepEntry fun x y => x.distance e ≤ y.distance e := ⟨fun _ _ _ => le_trans⟩
  exact (List.isChain_iff_pairwise.mp h).filter p |>.isChain

/-- An entry leaves the list, its bay's latch locked where it was RELEASED. -/
theorem Roster.Lawful.remove (h : r.Lawful e a)
    (hlatch : ∀ x ∈ r.entries, x.id = n → x.state = .released → ∀ c, x.bay = some c → (r.bays c).latch = false) :
    Roster.Lawful e a { r with entries := r.entries.filter fun z => z.id != n } := by
  have sub {z : DepEntry} (hz : z ∈ r.entries.filter fun z => z.id != n) : z ∈ r.entries := (List.mem_filter.mp hz).1
  refine ⟨(List.length_filter_le _ _).trans h.length, ⟨h.sound.1.sublist (List.filter_sublist.map _),
      fun x hx y hy => h.sound.2 x (sub hx) y (sub hy)⟩, fun x hx => h.enabled x (sub hx), fun x hx => h.bound x (sub hx),
    fun c hc x hx => h.clear c hc x (sub hx), fun c hc hdesired => ?_, fun ha hrow => ascending_filter (h.order ha hrow)⟩
  refine (h.latch c hc hdesired).imp_right fun ⟨hpurpose, x, hx, hxc, hreleased⟩ => ⟨hpurpose, x, ?_, hxc, hreleased⟩
  refine List.mem_filter.mpr ⟨hx, ?_⟩
  simp only [bne_iff_ne, ne_eq]
  exact fun hid => absurd hdesired (by simp [hlatch x hx hid hreleased c hxc])

end Sys2Proof.Machine

/-! # DPC's own acts keep the laws of the list (R152 to R163) -/
namespace Sys2Proof.Machine

variable {e e' : Env} {a : Asked} {b c : Bay} {l l' : Live} {r r' : Roster} {x y z : DepEntry} {n m : Nat} {p : Purpose} {v : Bool}
  {names : DepNames} {key : Option Nat}

theorem entryById_some (h : entryById l n = some x) : x ∈ l.departures ∧ x.id = n :=
  ⟨List.mem_of_find?_eq_some h, by simpa using List.find?_some h⟩

theorem entryById_none_iff : entryById l n = none ↔ ∀ x ∈ l.departures, x.id ≠ n := by simp [entryById]

theorem removeEntry_roster : (removeEntry n l).roster = { l.roster with entries := l.departures.filter fun z => z.id != n } := rfl

/-! ## Latches (R159, R162, R163) -/

/-- Purpose and latch of a bay are written. -/
theorem Roster.Lawful.putLatch (h : r.Lawful e a)
    (hlatch : b ∈ a.latch → (r.put b { r.bays b with purpose := p, latch := v }).LatchAt b) :
    (r.put b { r.bays b with purpose := p, latch := v }).Lawful e a := by
  refine h.put h.enabled_or_free (fun x hx hb hs => h.suits hx hb hs) (fun hb => ?_) hlatch
  simpa [Roster.ClearAt] using h.clear b hb

theorem setLatch_locks (h : l.roster.Lawful e a) : (setLatch b .none false l).roster.Lawful e a := by
  rw [setLatch_roster]
  exact h.putLatch fun _ => by simp [Roster.LatchAt]

theorem latchShunt_lawful (h : l.roster.Lawful e a) : (latchShunt b l).2.roster.Lawful e a := by
  simp only [latchShunt]
  repeat' split
  · exact h
  · exact h
  · rw [setLatch_roster]
    exact h.putLatch fun _ _ => by simp

/-- An entry that is and stays CLEARED or RELEASED at its bay, a RELEASED one so or with its latch locked. -/
theorem Roster.Lawful.reclear (h : r.Lawful e a) (hx : x ∈ r.entries) (hs : x.isClear) {f : DepEntry → DepEntry}
    (hf : f x = { x with state := (f x).state, held := (f x).held }) (hs' : (f x).isClear)
    (hlatch : x.state = .released → ∀ c, x.bay = some c → (f x).state = .released ∨ (r.bays c).latch = false) :
    (r.update x.id f).Lawful e a := by
  have hid : (f x).id = x.id := by rw [hf]
  have hbay : (f x).bay = x.bay := by rw [hf]
  obtain ⟨b, hb, suits⟩ := h.bound x hx (by rcases hs with hs | hs <;> simp [hs])
  refine (written_update h hx hid).lawful h (fun hnone => by simp [hbay, hb] at hnone) (fun c hc => ?_)
    (fun y hy hyid hreleased c hc => ?_) fun ha hrow => ?_
  · rw [hbay] at hc
    obtain rfl : b = c := Option.some.inj (hb.symm.trans hc)
    refine ⟨h.enabled x hx b hb, fun z hz hzb => (h.sound.2 z hz x hx b hzb hb).trans hid.symm, fun _ => ?_, fun hbc _ => ?_⟩
    · rw [hf]
      exact suits
    · rw [hf]
      exact h.clear b hbc x hx hb hs
  · obtain rfl : y = x := h.sound.alone hx y hy (hyid.trans hid)
    rw [hbay]
    exact (hlatch hreleased c hc).imp_left fun hstate => ⟨hc, hstate⟩
  · rw [ascending_update fun y hy hyid => by rw [h.sound.alone hx y hy hyid, hf]]
    exact h.order ha hrow

theorem latchLock_lawful (h : l.roster.Lawful e a) : (latchLock b l).2.roster.Lawful e a := by
  have locked := setLatch_locks (b := b) h
  simp only [latchLock]
  split
  · exact h
  · split
    · next x hx =>
      split
      · next hreleased =>
        obtain ⟨hmem, hb⟩ := boundEntry_some hx
        rw [updateEntry_roster]
        refine locked.reclear (x := x) hmem (.inr hreleased) rfl (.inl rfl) fun _ c hc => .inr ?_
        obtain rfl : b = c := Option.some.inj (hb.symm.trans hc)
        simp [setLatch_roster]
      · exact locked
    · exact locked

/-- The release of an entry that is CLEARED, or was released before (R159). -/
theorem releaseEntry_lawful (h : l.roster.Lawful e a) (hy : y ∈ l.departures) (hid : y.id = x.id) (hb : y.bay = some b)
    (hs : y.isClear) : (releaseEntry e' b x l).roster.Lawful e a := by
  have released : (l.roster.update y.id fun z => { z with state := .released, held := false }).Lawful e a :=
    h.reclear hy hs rfl (.inr rfl) fun _ _ _ => .inl rfl
  simp only [releaseEntry, addBayReason_roster, setLatch_roster, updateEntry_roster, ← hid]
  refine released.putLatch fun _ _ => .inr ⟨by simp, _, update_mem hy, ?_⟩
  simp [hb]

theorem releaseNow_lawful (h : l.roster.Lawful e a) : (releaseNow e' n l).2.roster.Lawful e a := by
  unfold releaseNow
  repeat' split
  · exact h
  · exact h
  · next x hx _ _ b hs hb => exact releaseEntry_lawful h (entryById_some hx).1 rfl hb (.inl hs)
  · exact h

/-! ## Binding (R156) -/

theorem boundTo_id {g : BtbPart} : (x.boundTo b g).id = x.id := by
  unfold DepEntry.boundTo
  repeat' split
  all_goals rfl

theorem boundTo_bay {g : BtbPart} : (x.boundTo b g).bay = some b := by
  unfold DepEntry.boundTo
  repeat' split
  all_goals rfl

theorem boundTo_minute {g : BtbPart} : (x.boundTo b g).minute = x.minute := by
  unfold DepEntry.boundTo
  repeat' split
  all_goals rfl

/-- A WAITING entry judged against the coach of a bay waits on, or is PREPARING for the coach it expects. -/
theorem boundTo_state {g : BtbPart} : (x.boundTo b g).state = .waiting ∨ (x.boundTo b g).state = .preparing ∧
    g.occupancy = .occupied ∧ (x.coach = none ∨ x.coach = some g.coach) ∧ (x.boundTo b g).coach = x.coach ∧
      (x.boundTo b g).mismatch = false := by
  unfold DepEntry.boundTo
  split
  · next hocc =>
    split
    · next hcoach => exact .inr ⟨rfl, hocc, hcoach, rfl, rfl⟩
    · exact .inl rfl
  · exact .inl rfl

theorem not_isClear_boundTo {g : BtbPart} : ¬ (x.boundTo b g).isClear := by
  rcases boundTo_state (x := x) (b := b) (g := g) with h | ⟨h, -⟩ <;> simp [DepEntry.isClear, h]

/-- A WAITING entry is bound to a bay that no other has (R156). -/
theorem bindEntry_lawful (h : l.roster.Lawful e a) (hx : x ∈ l.departures) (hid : x.id = n) (hs : x.state = .waiting)
    (hen : (l.bay b).btb.occupancy ≠ .disabled) (hothers : ∀ z ∈ l.departures, z.bay = some b → z.id = n) :
    (bindEntry e' n b l).roster.Lawful e a := by
  subst hid
  have bound : (updateEntry x.id (·.boundTo b (l.bay b).btb) l).roster.Lawful e a := by
    rw [updateEntry_roster]
    refine (written_update h hx boundTo_id).lawful h (fun hnone => by simp [boundTo_bay] at hnone) (fun c hc => ?_)
      (fun y hy hyid hreleased => ?_) fun ha hrow => ?_
    · obtain rfl : b = c := Option.some.inj (boundTo_bay.symm.trans hc)
      refine ⟨hen, fun z hz hzb => (hothers z hz hzb).trans boundTo_id.symm, fun hstate => ?_,
        fun _ hclear => absurd hclear not_isClear_boundTo⟩
      obtain ⟨-, hocc, hcoach, hsame, hmismatch⟩ := boundTo_state.resolve_left hstate
      exact ⟨hocc, by rwa [hsame], hmismatch⟩
    · rw [h.sound.alone hx y hy (hyid.trans boundTo_id), hs] at hreleased
      exact absurd hreleased nofun
    · rw [ascending_update fun y _ _ => boundTo_minute]
      exact h.order ha hrow
  exact bound.minded (judge_minded (tellBay_minded (K := ∅) (Set.notMem_empty b) (.refl _)))

/-- A bay has become OCCUPIED: its entry is bound afresh, or one that expects the coach is (R156). -/
theorem dpcOccupied_lawful (h : l.roster.Lawful e a) (hocc : (l.bay b).btb.occupancy = .occupied) (hw : l.roster.WaitsAt b) :
    (dpcOccupied e' b l).roster.Lawful e a := by
  have hen : (l.bay b).btb.occupancy ≠ .disabled := by simp [hocc]
  unfold dpcOccupied
  split
  · next x hx =>
    obtain ⟨hmem, hb⟩ := boundEntry_some hx
    exact bindEntry_lawful h hmem rfl (hw x hmem hb) hen fun z hz hzb => h.sound.2 z hz x hmem b hzb hb
  · next hnone =>
    split
    · next x hx =>
      have hmem : x ∈ l.departures := List.mem_of_find?_eq_some hx
      have hfree : x.bay = none := by
        have found := List.find?_some hx
        simp only [Bool.and_eq_true, beq_iff_eq] at found
        exact found.1
      exact bindEntry_lawful h hmem rfl (h.unbound_waits hmem hfree) hen fun z hz hzb => absurd hzb (boundEntry_none_iff.mp hnone z hz)
    · exact h

theorem not_takenByOther (h : takenByOther l n b = false) : ∀ z ∈ l.departures, z.bay = some b → z.id = n := fun z hz hzb => by
  simp only [takenByOther, List.any_eq_false, Bool.and_eq_true, beq_iff_eq, bne_iff_ne, not_and, not_not] at h
  exact h z hz hzb

/-! ## DEP ADD (R154) -/

theorem depAdd_lawful {minute bay : Nat} {coach : Option Nat} {target : Option Int} {gates : GateMask} (h : l.roster.Lawful e a) :
    (depAdd e n minute bay coach target gates l).2.roster.Lawful e a := by
  simp only [depAdd]
  split
  · exact h
  split
  · exact h
  split
  · exact h
  split
  · exact h
  next hnew hroom =>
  have fresh : ∀ z ∈ l.departures, z.id ≠ n := entryById_none_iff.mp (Option.not_isSome_iff_eq_none.mp hnew)
  have joined (x : DepEntry) (hid : x.id = n) (hb : x.bay = none) (hs : x.state = .waiting) :
      Live.roster { l with departures := insertEntry e x l.departures } |>.Lawful e a := by
    have same : (l.roster.entries.filter fun z => z.id != x.id) = l.departures :=
      List.filter_eq_self.mpr fun z hz => by simpa [hid] using fresh z hz
    have written := written_insert (e := e) (y := x) h (.inl (Nat.not_le.mp hroom))
    rw [same] at written
    exact written.lawful h (fun _ => hs) (fun c hc => by simp [hb] at hc) (fun z hz hzid => absurd (hzid.trans hid) (fresh z hz))
      fun ha hrow => insertEntry_ascending (h.order ha hrow)
  split
  · exact joined _ rfl rfl rfl
  split
  · exact h
  split
  · exact h
  next b _ hen htaken =>
  refine bindEntry_lawful (joined _ rfl rfl rfl) ((insertEntry_perm e _ _).mem_iff.mpr (List.mem_cons_self ..)) rfl rfl hen
    fun z hz hzb => ?_
  rcases List.mem_cons.mp ((insertEntry_perm e _ _).mem_iff.mp hz) with rfl | hz
  · rfl
  · exact not_takenByOther (Bool.eq_false_iff.mpr htaken) z hz hzb

/-! ## DEP CHANGE (R155) -/

/-- R155: the values named are written, the others stand. -/
theorem apply_eq : names.apply x = { x with
    minute := names.minute.getD x.minute
    target := names.target.elim x.target fun t => (clampTarget t).1
    clamped := names.target.elim x.clamped fun t => (clampTarget t).2
    gates := names.gates.getD x.gates } := by
  obtain ⟨m, t, g, k⟩ := names
  cases m <;> cases t <;> cases g <;> rfl

end Sys2Proof.Machine

/-! # DEP CHANGE, the end of an entry and the minute event keep the laws of the list (R155, R160, R161, R163) -/
namespace Sys2Proof.Machine

variable {e e' : Env} {a : Asked} {b c : Bay} {l l' : Live} {r r' : Roster} {x y z : DepEntry} {n m : Nat} {p : Purpose} {v : Bool}
  {names : DepNames} {key : Option Nat}

/-! ## DEP CHANGE (R155) -/

/-- The changed entry stands in the list, in its place or where its new minute places it. -/
theorem changed_written (h : l.roster.Lawful e a) (hx : x ∈ l.departures) (hid : y.id = x.id) (hv : v = false → y.minute = x.minute) :
    Written y l.roster (if v then { l with departures := insertEntry e y (l.departures.filter fun z => z.id != x.id) }
      else updateEntry x.id (fun _ => y) l).roster ∧
    (a.order → e.straps.addressed = true →
      ascending e (if v then { l with departures := insertEntry e y (l.departures.filter fun z => z.id != x.id) }
        else updateEntry x.id (fun _ => y) l).departures = true) := by
  cases v with
  | true =>
    rw [← hid]
    exact ⟨written_insert h (.inr ⟨x, hx, hid.symm⟩), fun ha hrow => insertEntry_ascending (ascending_filter (h.order ha hrow))⟩
  | false =>
    simp only [Bool.false_eq_true, if_false]
    rw [← roster_entries, updateEntry_roster]
    refine ⟨written_update (f := fun _ => y) h hx hid, fun ha hrow => ?_⟩
    rw [ascending_update fun z hz hzid => by rw [hv rfl, h.sound.alone hx z hz hzid]]
    exact h.order ha hrow

/-- An entry that loses its bay, not RELEASED or with the latch of its bay locked. -/
theorem Written.unbound_lawful (w : Written y.unbound r r') (h : r.Lawful e a)
    (hlatch : ∀ x ∈ r.entries, x.id = y.id → x.state = .released → ∀ c, x.bay = some c → (r.bays c).latch = false)
    (horder : a.order → e.straps.addressed = true → ascending e r'.entries = true) : r'.Lawful e a :=
  w.lawful h (fun _ => rfl) nofun (fun x hx hid hreleased c hc => .inr (hlatch x hx hid hreleased c hc)) horder

/-- The bay an entry leaves is told of it. -/
theorem formerBay_minded {S : Set Bay} {o : Option Bay} : Minded S ∅ l.roster (match o with
    | some b => tellBay e b none l
    | none => l).roster := by
  split
  · exact tellBay_minded (Set.notMem_empty _) (.refl _)
  · exact .refl _

/-- A WAITING entry is bound to the bay named for it, if one is. -/
theorem rebind_lawful {o : Option Bay} (h : l.roster.Lawful e a) (hy : y ∈ l.departures) (hid : y.id = n) (hs : y.state = .waiting)
    (told : Minded a.clear ∅ l.roster l'.roster) (hbay : ∀ b, o = some b →
      (l.roster.bays b).occupancy ≠ .disabled ∧ ∀ z ∈ l.roster.entries, z.bay = some b → z.id = n) :
    (match o with
      | some b => bindEntry e' n b l'
      | none => l').roster.Lawful e a := by
  split
  · next b =>
    obtain ⟨henabled, hothers⟩ := hbay b rfl
    have hmem : y ∈ l.roster.entries := hy
    obtain ⟨x, hx, kept, judged⟩ := told.target hmem
    refine bindEntry_lawful (h.minded told) hx (kept.id_eq.trans hid) ((judged (h.sound.alone hmem)).waiting.mpr hs) ?_
      fun z hz hzb => ?_
    · rw [← told.occupancy] at henabled
      exact henabled
    · obtain ⟨w, hw, kept, -⟩ := told.source hz
      rw [kept.id_eq]
      exact hothers w hw (kept.bay_eq ▸ hzb)
  · exact h.minded told

/-- The accepted change of an entry (R155). -/
theorem changeEntry_lawful (h : l.roster.Lawful e a) (hx : x ∈ l.departures) (hreleased : x.state = .released → names.bay = none)
    (hbay : ∀ b, names.namedBay = some b → (l.bay b).btb.occupancy ≠ .disabled ∧ ∀ z ∈ l.departures, z.bay = some b → z.id = x.id) :
    (changeEntry e names x l).roster.Lawful e a := by
  have alone {z : DepEntry} (hz : z ∈ l.departures) (hid : z.id = x.id) : z = x := h.sound.alone hx z hz hid
  have minute : names.minute.isSome = false → (names.apply x).minute = x.minute := fun hnone => by
    simp [apply_eq, Option.isNone_iff_eq_none.mp (Option.isSome_eq_false_iff.mp hnone)]
  have hid : (names.apply x).id = x.id := by rw [apply_eq]
  simp only [changeEntry, bne_iff_ne, ne_eq, ite_not]
  split
  · next stays =>
    obtain ⟨written, order⟩ := changed_written (v := names.minute.isSome) h hx hid minute
    have hbay : (names.apply x).bay = x.bay := by rw [apply_eq]
    have hstate : (names.apply x).state = x.state := by rw [apply_eq]
    split
    · next b hb =>
      refine judge_lawful (Roster.Lawful.minded ?_ (tellStay_minded (K := ∅) (Set.notMem_empty b) (.refl _)))
      refine written.lawful h.but (fun hnone => by simp [hbay, hb] at hnone) (fun c hc => ?_) (fun z hz hzid hs c hc => .inl ?_) order
      · rw [hbay, hb] at hc
        obtain rfl : b = c := Option.some.inj hc
        refine ⟨h.enabled x hx b hb, fun z hz hzb => (h.sound.2 z hz x hx b hzb hb).trans hid.symm, fun hs => ?_,
          fun hclear => absurd rfl hclear.2⟩
        have suits := h.suits hx hb (hstate ▸ hs)
        rw [apply_eq]
        exact suits
      · obtain rfl : z = x := alone hz (hzid.trans hid)
        exact ⟨hbay.trans hc, hstate.trans hs⟩
    · next hnone =>
      refine written.lawful h (fun _ => hstate.trans (h.unbound_waits hx hnone)) (fun c hc => by simp [hbay, hnone] at hc)
        (fun z hz hzid hs c hc => ?_) order
      rw [alone hz (hzid.trans hid), hnone] at hc
      exact absurd hc nofun
  · next moves =>
    have named : names.bay ≠ none := fun hnone => moves (by simp [DepNames.bayAfter, hnone])
    obtain ⟨written, order⟩ := changed_written (y := (names.apply x).unbound) (v := names.minute.isSome) h hx hid minute
    have changed := written.unbound_lawful h (fun z hz hzid hs => by
      rw [alone hz (hzid.trans hid)] at hs
      exact absurd (hreleased hs) named) order
    have hmem : (names.apply x).unbound ∈ Live.departures _ := (written.mem _).mpr (.inl rfl)
    refine rebind_lawful changed hmem hid rfl formerBay_minded fun c hc => ?_
    have hnamed : names.namedBay = some c := by
      obtain ⟨i, hi⟩ := Option.ne_none_iff_exists'.mp named
      simpa [DepNames.bayAfter, DepNames.namedBay, hi] using hc
    obtain ⟨henabled, hothers⟩ := hbay c hnamed
    refine ⟨by rwa [written.bays], fun z hz hzb => ?_⟩
    rcases (written.mem z).mp hz with rfl | ⟨hz, -⟩
    · exact hid
    · exact hothers z hz hzb

theorem depChange_lawful (h : l.roster.Lawful e a) : (depChange e n names l).2.roster.Lawful e a := by
  unfold depChange
  split
  · exact h
  split
  · exact h
  next x hx =>
  obtain ⟨hmem, hid⟩ := entryById_some hx
  split
  · exact h
  next hopen =>
  have hreleased (hs : x.state = .released) : names.bay = none := by
    simp only [hs, true_and, not_or, Bool.not_eq_true, Option.isSome_eq_false_iff, Option.isNone_iff_eq_none] at hopen
    exact hopen.2.2
  split
  · next hnone => exact changeEntry_lawful h hmem hreleased fun b hb => by simp [hnone] at hb
  · next b hb =>
    split
    · exact h
    split
    · exact h
    next hen htaken =>
    refine changeEntry_lawful h hmem hreleased fun c hc => ?_
    obtain rfl : b = c := Option.some.inj (hb.symm.trans hc)
    exact ⟨hen, fun z hz hzb => (not_takenByOther (Bool.eq_false_iff.mpr htaken) z hz hzb).trans hid.symm⟩

/-! ## Entries that leave the list (R160, R161, R163) -/

/-- An entry leaves the list, and its bay's latch is locked where it was RELEASED. -/
theorem leave_lawful (h : l.roster.Lawful e a) (hx : entryById l n = some x) : (lockIfReleased x (removeEntry n l)).roster.Lawful e a := by
  obtain ⟨hmem, hid⟩ := entryById_some hx
  have alone {y : DepEntry} (hy : y ∈ l.departures) (hyid : y.id = n) : y = x := h.sound.alone hmem y hy (hyid.trans hid.symm)
  unfold lockIfReleased
  split
  · next b hs hb =>
    have swap : (setLatch b .none false (removeEntry n l)).roster =
        { (setLatch b .none false l).roster with entries := l.departures.filter fun z => z.id != n } := by
      simp only [setLatch_roster, removeEntry_roster]
      rfl
    rw [swap]
    refine (setLatch_locks h).remove fun y hy hyid _ c hc => ?_
    rw [alone hy hyid] at hc
    obtain rfl : b = c := Option.some.inj (hb.symm.trans hc)
    simp [setLatch_roster]
  · next hother =>
    refine h.remove fun y hy hyid hs c hc => ?_
    rw [alone hy hyid] at hs hc
    exact absurd hc (hother c hs)

theorem depCancel_lawful (h : l.roster.Lawful e a) : (depCancel e' n l).2.roster.Lawful e a := by
  unfold depCancel
  split
  · exact h
  split
  · exact h
  next x hx =>
  dsimp only
  split
  · exact (leave_lawful h hx).minded (tellBay_minded (K := ∅) (Set.notMem_empty _) (.refl _))
  · exact leave_lawful h hx

theorem expireEntry_lawful (h : l.roster.Lawful e a) : (expireEntry e' n l).roster.Lawful e a := by
  unfold expireEntry
  split
  · exact h
  next x hx =>
  dsimp only
  split
  · exact leave_lawful h hx
  · refine (leave_lawful h hx).minded (tellBay_minded (K := ∅) (Set.notMem_empty _) ?_)
    rw [addBayReason_roster, modDpc_roster rfl]
    exact .refl _

theorem expireAll_lawful (h : l.roster.Lawful e a) : (expireAll e' l).roster.Lawful e a :=
  List.foldlRecOn (motive := fun k : Live => k.roster.Lawful e a) _ _ h fun _ hk _ _ => expireEntry_lawful hk

/-! ## The minute event (R160) -/

theorem sortEntries_perm (e : Env) (list : List DepEntry) : (sortEntries e list).Perm list := by
  have joined (acc : List DepEntry) : (list.foldl (fun acc x => insertEntry e x acc) acc).Perm (list ++ acc) := by
    induction list generalizing acc with
    | nil => rfl
    | cons x rest ih => exact (ih _).trans (((insertEntry_perm e x acc).append_left rest).trans List.perm_middle)
  simpa [sortEntries] using joined []

theorem sortEntries_ascending (e : Env) (list : List DepEntry) : ascending e (sortEntries e list) = true :=
  List.foldlRecOn (motive := fun acc => ascending e acc = true) _ _ rfl fun _ h _ _ => insertEntry_ascending h

/-- The order of the list is restored (R152). -/
theorem restoreOrder_lawful (h : l.roster.Lawful e' a.unordered) : (restoreOrder e l).roster.Lawful e a := by
  unfold restoreOrder
  split
  · next order => exact { h with order := fun _ _ => order }
  · have perm := sortEntries_perm e l.departures
    have sub {x : DepEntry} : x ∈ sortEntries e l.departures → x ∈ l.departures := perm.mem_iff.mp
    refine ⟨perm.length_eq.trans_le h.length, ⟨((perm.map _).nodup_iff).mpr h.sound.1, fun x hx y hy => h.sound.2 x (sub hx) y (sub hy)⟩,
      fun x hx => h.enabled x (sub hx), fun x hx => h.bound x (sub hx), fun c hc x hx => h.clear c hc x (sub hx),
      fun c hc hdesired => ?_, fun _ _ => sortEntries_ascending e _⟩
    refine (h.latch c hc hdesired).imp_right fun ⟨hpurpose, x, hx, hxc, hs⟩ => ⟨hpurpose, x, perm.mem_iff.mpr hx, hxc, hs⟩

/-- An entry of the list that is due for release, or was released. -/
def Live.Holds (l : Live) (x : DepEntry) : Prop := ∃ y ∈ l.departures, y.id = x.id ∧ y.bay = x.bay ∧ y.isClear

theorem releaseEntry_holds (h : l.Holds x) : (releaseEntry e b y l).Holds x := by
  obtain ⟨z, hz, hid, hbay, hs⟩ := h
  have entries : (releaseEntry e b y l).departures =
      (l.roster.update y.id fun z => { z with state := .released, held := false }).entries := by
    rw [← roster_entries, releaseEntry, addBayReason_roster, setLatch_roster, updateEntry_roster, put_entries]
  refine ⟨_, entries ▸ update_mem hz, ?_⟩
  split
  · exact ⟨hid, hbay, .inr rfl⟩
  · exact ⟨hid, hbay, hs⟩

/-- Behind each release the entries due for release are still CLEARED or were released. -/
theorem releaseAll_lawful (h : l.roster.Lawful e a) : (releaseAll e' l).roster.Lawful e a := by
  refine (List.foldlRecOn (motive := fun k : Live => k.roster.Lawful e a ∧ ∀ x ∈ l.departures.filter (releaseDue e'), k.Holds x)
    _ _ ⟨h, fun x hx => ?_⟩ fun k ⟨hk, due⟩ x hx => ?_).1
  · obtain ⟨hmem, hdue⟩ := List.mem_filter.mp hx
    simp only [releaseDue, Bool.and_eq_true, beq_iff_eq] at hdue
    exact ⟨x, hmem, rfl, rfl, .inl hdue.1.1⟩
  · split
    · next b hb =>
      obtain ⟨y, hy, hid, hbay, hs⟩ := due x hx
      exact ⟨releaseEntry_lawful hk hy hid (hbay.trans hb) hs, fun z hz => releaseEntry_holds (due z hz)⟩
    · exact ⟨hk, due⟩

/-- The minute event puts the list in order whatever the clock has become (R160). -/
theorem dpcMinute_lawful (h : l.roster.Lawful e' a.unordered) : (dpcMinute e l).roster.Lawful e a :=
  releaseAll_lawful ((restoreOrder_lawful (expireAll_lawful h)).minded (judgeAll_minded (K := ∅) (.refl _)))

/-! ## The end of an entry at a teardown (R161) -/

/-- The entry of a bay whose latch is locked departs with the coach or loses its bay. -/
theorem endEntry_lawful (h : l.roster.Lawful e a) (hlatch : (l.roster.bays b).latch = false) :
    (endEntry e' p b l).roster.Lawful e a := by
  unfold endEntry
  split
  · exact h
  next x hx =>
  obtain ⟨hmem, hb⟩ := boundEntry_some hx
  have locked {y : DepEntry} (hy : y ∈ l.departures) (hid : y.id = x.id) (hs : y.state = .released) (c : Bay) (hc : y.bay = some c) :
      (l.roster.bays c).latch = false := by
    rw [h.sound.alone hmem y hy hid] at hc
    obtain rfl : b = c := Option.some.inj (hb.symm.trans hc)
    exact hlatch
  split
  · rw [addBayReason_roster, modDpc_roster rfl]
    exact h.remove fun y hy hid hs c hc => locked hy hid hs c hc
  · rw [addBayReason_roster, modDpc_roster rfl, updateEntry_roster]
    refine (written_update (f := DepEntry.unbound) h hmem rfl).unbound_lawful h
      (fun y hy hid hs c hc => locked hy hid hs c hc) fun ha hrow => ?_
    rw [ascending_update (f := DepEntry.unbound) fun _ _ _ => rfl]
    exact h.order ha hrow

theorem endEntry_bays : (endEntry e p b l).roster.bays = l.roster.bays := by
  unfold endEntry
  split
  · rfl
  split
  · rw [addBayReason_roster, modDpc_roster rfl]
    rfl
  · rw [addBayReason_roster, modDpc_roster rfl, updateEntry_roster]
    rfl

/-- Step 6 of a teardown of a bay whose latch is locked. -/
theorem settleEntry_lawful (h : l.roster.Lawful e (a.but b)) (hlatch : (l.roster.bays b).latch = false) :
    (settleEntry e' p b l).roster.Lawful e a ∧ (settleEntry e' p b l).roster.Free b ∧
      ((settleEntry e' p b l).roster.bays b).latch = false := by
  have once : boundOnce l := (boundOnce_iff h.sound.1).mpr h.sound.2
  have ended := endEntry_lawful (e' := e') (p := p) h hlatch
  have free : (endEntry e' p b l).roster.Free b := boundEntry_none_iff.mp (endEntry_unbinds once)
  have told : Minded (a.but b).clear ∅ (endEntry e' p b l).roster (tellBay e' b none (endEntry e' p b l)).roster :=
    tellBay_minded (Set.notMem_empty b) (.refl _)
  obtain ⟨m, hm⟩ : ∃ m : GateMask, (settleEntry e' p b l).roster = (tellBay e' b none (endEntry e' p b l)).roster.put b
      { (tellBay e' b none (endEntry e' p b l)).roster.bays b with copies := m } := ⟨_, modBay_roster⟩
  have failed : Minded (a.but b).clear ∅ (endEntry e' p b l).roster (settleEntry e' p b l).roster := by
    rw [hm]
    exact told.trans (putCopies_minded fun hb => hb.2 rfl)
  obtain ⟨-, latch⟩ := failed.free b free
  rw [endEntry_bays] at latch
  exact ⟨(ended.minded failed).of_but (failed.stays_free free).clearAt, failed.stays_free free, latch.trans hlatch⟩

end Sys2Proof.Machine

/-! # Bays, coaches and the bay line keep the laws of the list (R2 to R20, R30 to R36) -/
namespace Sys2Proof.Machine

variable {e e' : Env} {a : Asked} {b c : Bay} {l l' : Live} {o r : Roster} {S K : Set Bay} {n : Nat} {p : Purpose} {s : Standing}
  {pr : Fin 8} {f : TrunkFrame} {sf : SentFrame} {xe : ExchangeEnd} {port : Port} {bytes : List Byte} {fate : SlotFate}

/-! ## The standing of a bay -/

/-- The entries of a bay that is not OCCUPIED wait (R156). -/
theorem Roster.Lawful.waitsAt (h : r.Lawful e a) (hocc : (r.bays b).occupancy ≠ .occupied) : r.WaitsAt b := fun _ hx hb =>
  by_contra fun hs => hocc (h.suits hx hb hs).1

/-- The standing of a bay whose entries wait is written beside purpose and latch. -/
theorem Roster.Lawful.put_waiting (h : r.Lawful e a) (hw : r.WaitsAt b) (hen : s.occupancy ≠ .disabled ∨ r.Free b)
    (hpurpose : s.purpose = (r.bays b).purpose) (hlatch : s.latch = (r.bays b).latch) : (r.put b s).Lawful e a :=
  h.put hen (fun x hx hb hs => absurd (hw x hx hb) hs)
    (fun _ x hx hb hclear => by rcases hclear with hs | hs <;> exact absurd ((hw x hx hb).symm.trans hs) nofun)
    fun hb hdesired => by
      rw [put_bays_self, hlatch] at hdesired
      simpa [hpurpose] using h.latch b hb hdesired

/-- Link and latch of a bay are written, or its copies, where its clearance and its latch come out in order. -/
theorem Roster.Lawful.put_line (h : r.Lawful e a) {k : Link} {v : Bool} (hclear : b ∈ a.clear → r.ClearAt b → k = .online)
    (hlatch : v = true → v = (r.bays b).latch) : (r.put b { r.bays b with link := k, latch := v }).Lawful e a := by
  refine h.put h.enabled_or_free (fun x hx hb hs => h.suits hx hb hs) (fun hb x hx hxb hs => ?_) fun hb hdesired => ?_
  · rw [put_bays_self]
    obtain ⟨passes, -⟩ := h.clear b hb x hx hxb hs
    exact ⟨passes, hclear hb (h.clear b hb)⟩
  · rw [put_bays_self] at hdesired ⊢
    exact h.latch b hb ((hlatch hdesired).symm.trans hdesired)

theorem modBlm_roster_eq {g : BlmPart → BlmPart} : (l.modBlm b g).roster = l.roster.put b
    { l.roster.bays b with link := (g (l.bay b).blm).link, latch := (g (l.bay b).blm).desired.latch } := modBay_roster

theorem modBtb_roster_eq {g : BtbPart → BtbPart} : (l.modBtb b g).roster = l.roster.put b { l.roster.bays b with
    occupancy := (g (l.bay b).btb).occupancy, coach := (g (l.bay b).btb).coach, purpose := (g (l.bay b).btb).purpose } :=
  modBay_roster

/-! ## Identification (R3 to R9) -/

@[simp] theorem placeIdent_roster : (placeIdent b l).roster = l.roster := by
  unfold placeIdent
  split <;> simp

@[simp] theorem giveUpIdent_roster : (giveUpIdent e b l).roster = l.roster := by simp [giveUpIdent, modBtb_roster]

@[simp] theorem btbExchangeEnd_roster {on : Bool} : (btbExchangeEnd e b on l).roster = l.roster := by
  simp only [btbExchangeEnd]
  repeat' split
  all_goals simp [modBtb_roster]

/-- What BTB writes of a bay that is not OCCUPIED, and does not become DISABLED. -/
theorem modBtb_lawful {g : BtbPart → BtbPart} (h : l.roster.Lawful e a) (hw : l.roster.WaitsAt b)
    (hen : (g (l.bay b).btb).occupancy ≠ .disabled ∨ l.roster.Free b) (hpurpose : (g (l.bay b).btb).purpose = (l.bay b).btb.purpose) :
    (l.modBtb b g).roster.Lawful e a := by
  rw [modBtb_roster_eq]
  exact h.put_waiting hw hen hpurpose rfl

theorem beginIdent_lawful (h : l.roster.Lawful e a) (hw : l.roster.WaitsAt b) : (beginIdent b l).roster.Lawful e a := by
  simp only [beginIdent, placeIdent_roster]
  exact modBtb_lawful h hw h.enabled_or_free rfl

theorem ident_lawful (h : l.roster.Lawful e a) : (ident b l).2.roster.Lawful e a := by
  unfold ident
  split
  · next hocc =>
    exact beginIdent_lawful h (h.waitsAt (by rw [roster_bays]; simp [BayRec.standing, hocc]))
  · exact h

theorem plugIn_lawful (h : l.roster.Lawful e a) (hw : l.roster.WaitsAt b) : (plugIn e' b l).roster.Lawful e a := by
  have plugged : (l.modBtb b fun r => { r with occupancy := .plugged }).roster.Lawful e a := modBtb_lawful h hw (.inl nofun) rfl
  exact beginIdent_lawful (by rwa [addBayReason_roster]) hw

theorem evictCoach_roster {coach : Nat} : (evictCoach coach l).roster = l.roster := by
  unfold evictCoach
  split <;> rfl

theorem lookUpCoach_roster {coach : Nat} : (lookUpCoach b coach pr l).1.roster = l.roster := by
  unfold lookUpCoach
  repeat' split
  · rfl
  · simp [divertSlot]
  · exact evictCoach_roster

theorem acceptIdentity_lawful {coach : Nat} (h : l.roster.Lawful e a) (hw : l.roster.WaitsAt b)
    (hen : (l.roster.bays b).occupancy ≠ .disabled) : (acceptIdentity e' b coach pr l).roster.Lawful e a := by
  simp only [acceptIdentity]
  generalize hk : (lookUpCoach b coach pr _) = looked
  have known : looked.1.roster =
      (l.modBtb b fun r => { r with coach := coach, profile := pr, dupCoach := false, identFailed := false }).roster := by
    rw [← hk, lookUpCoach_roster, withdrawJob_roster]
  have found : looked.1.roster.Lawful e a := by
    rw [known]
    exact modBtb_lawful h hw (.inl hen) rfl
  have waits : looked.1.roster.WaitsAt b := by
    rw [known]
    exact hw
  generalize hm : (looked.1.modBtb b fun r =>
    { r with occupancy := .occupied, profileMissing := !e'.tables.profiles[pr].valid }) = m
  have occupied : m.roster.Lawful e a := hm ▸ modBtb_lawful found waits (.inl nofun) rfl
  have waits : m.roster.WaitsAt b := hm ▸ waits
  have hocc : (m.roster.bays b).occupancy = .occupied := by rw [roster_bays, ← hm, bay_modBtb_self]; rfl
  have asked : Minded a.clear ∅ m.roster (requestShare e' b .base (baseAmount e' pr) (addBayReason e' b .ident m)).roster :=
    requestShare_minded (.refl _)
  have bound := dpcOccupied_lawful (e' := e') (occupied.minded asked) ((asked.occupancy b).trans hocc) (asked.waitsAt occupied.sound waits)
  exact bound.minded (K := ∅) (frdOccupied_minded (lswOccupied_minded (.refl _)))

theorem takeIdrp_lawful {coach : Nat} (h : l.roster.Lawful e a) : (takeIdrp e' b coach pr l).roster.Lawful e a := by
  unfold takeIdrp
  split
  · next hocc =>
    have hocc' : (l.roster.bays b).occupancy = .plugged := hocc
    have hw : l.roster.WaitsAt b := h.waitsAt (by simp [hocc'])
    split
    · exact h
    split
    · simp only [markDuplicate, withdrawJob_roster, addBayReason_roster]
      exact modBtb_lawful h hw h.enabled_or_free rfl
    · exact acceptIdentity_lawful h hw (by simp [hocc'])
  · exact h

/-! ## Teardown, enable and disable (R10 to R16) -/

theorem parkOrForget_roster : (parkOrForget e p b l).roster = l.roster := by
  have parked (k : Live) (g : FrdPart → FrdPart) (xs : List ParkedSlot) : Live.roster { k.modFrd b g with cache := xs } = k.roster :=
    modFrd_roster (l := k) g
  unfold parkOrForget
  split
  · simp only [parkCoach]
    split
    · exact (parked _ _ _).trans evictOldest_roster
    · exact parked _ _ _
  · exact emptyList_roster

theorem vacate_lawful (h : l.roster.Lawful e a) (free : l.roster.Free b) (hlatch : (l.roster.bays b).latch = false) :
    (vacate e' b l).roster.Lawful e a := by
  simp only [vacate, addBayReason_roster, modScv_roster, modFrd_roster, modLsw_roster]
  rw [modBtb_roster_eq]
  exact h.put_free free hlatch

theorem teardown_lawful {q : Pstat} (h : l.roster.Lawful e a) : (teardown e' b q l).roster.Lawful e a := by
  have outside : b ∉ (a.but b).clear := fun hb => hb.2 rfl
  have cleared : Minded (a.but b).clear ∅ l.roster
      (clearRow e' b (stopRead e' false .plugOut b (stopSweep e' false false b l))).roster :=
    clearRow_minded (Set.notMem_empty b) (stopRead_minded (.inr outside) (stopSweep_minded (.inr outside) (.refl _)))
  simp only [teardown]
  generalize clearRow e' b _ = l2 at cleared ⊢
  have left : Minded (a.but b).clear ∅ l.roster (if (l2.bay b).php.state = .none then l2 else leavePlan e' true b l2).roster := by
    split
    · exact cleared
    · exact leavePlan_minded (.inr outside) cleared
  generalize (if (l2.bay b).php.state = .none then l2 else leavePlan e' true b l2) = l3 at left ⊢
  generalize hl4 : l3.modBlm b _ = l4
  have emptied : l4.roster = l3.roster.put b { l3.roster.bays b with latch := false } := hl4 ▸ modBlm_roster_eq
  have lawful : l4.roster.Lawful e (a.but b) := by
    rw [emptied]
    exact (h.but.minded left).put_line (fun hb => absurd hb outside) nofun
  obtain ⟨settled, free, hlatch⟩ := settleEntry_lawful (e' := e') (p := (l.bay b).btb.purpose) lawful (by rw [emptied, put_bays_self])
  have torn : (vacate e' b (parkOrForget e' (l.bay b).btb.purpose b (settleEntry e' (l.bay b).btb.purpose b l4))).roster.Lawful e a := by
    refine vacate_lawful ?_ ?_ ?_ <;> rwa [parkOrForget_roster]
  split
  · rwa [addBayReason_roster]
  · exact torn

theorem btbPstat_lawful {q : Pstat} (h : l.roster.Lawful e a) : (btbPstat e' b q l).roster.Lawful e a := by
  have waits {x : Occupancy} (hx : (l.bay b).btb.occupancy = x) (hne : x ≠ .occupied) : l.roster.WaitsAt b :=
    h.waitsAt (hx.trans_ne hne)
  unfold btbPstat
  split
  case h_1 hocc _ => exact plugIn_lawful h (waits hocc nofun)
  case h_2 hocc _ =>
    rw [addBayReason_roster]
    exact modBtb_lawful h (waits hocc nofun) (.inl nofun) rfl
  case h_3 hocc _ => exact plugIn_lawful h (waits hocc nofun)
  case h_5 => exact teardown_lawful h
  case h_7 => exact teardown_lawful h
  all_goals exact h

theorem dropExchange_roster : (dropExchange b l).roster = l.roster := by
  unfold dropExchange
  repeat' split
  all_goals rfl

theorem bayDisable_lawful (h : l.roster.Lawful e a) : (bayDisable b l).2.roster.Lawful e a := by
  simp only [bayDisable]
  split
  · exact h
  split
  · exact h
  next hbound =>
  have free : l.roster.Free b := boundEntry_none_iff.mp (by simpa using hbound)
  simp only [performDisable, dropExchange_roster, modScv_roster]
  generalize hk : l.modBlm b _ = k
  have silent : k.roster = l.roster.put b { l.roster.bays b with link := .unheard, latch := false } := hk ▸ modBlm_roster_eq
  have lawful : k.roster.Lawful e a := silent ▸ h.put_free free rfl
  rw [modBtb_roster_eq]
  refine lawful.put_free (silent ▸ free) ?_
  rw [silent, put_bays_self]

theorem bayEnable_lawful (h : l.roster.Lawful e a) : (bayEnable b l).2.roster.Lawful e a := by
  unfold bayEnable
  split
  · next hocc =>
    have free : l.roster.Free b := h.enabled_or_free.resolve_left (not_not.mpr hocc)
    have waits : l.roster.WaitsAt b := fun x hx hb => absurd hb (free x hx)
    have enabled : (l.modBtb b fun r => { r with occupancy := .unknown }).roster.Lawful e a := modBtb_lawful h waits (.inl nofun) rfl
    rw [modBlm_roster_eq]
    exact enabled.put_waiting waits enabled.enabled_or_free rfl rfl
  · exact h

/-! ## The trunk (R42 to R54) -/

@[simp] theorem countBad_roster : (countBad port l).roster = l.roster := rfl

@[simp] theorem offerForward_roster {toward : Port} : (offerForward toward port f l).roster = l.roster := by
  unfold offerForward
  split <;> rfl

@[simp] theorem relay_roster {straps : Straps} : (relay straps port f l).roster = l.roster := by
  simp only [relay]
  repeat' split
  all_goals simp [countHop]

@[simp] theorem downDecision_roster {kind : Byte} : (downDecision e kind bytes b l).roster = l.roster := by
  simp only [downDecision]
  repeat' split
  all_goals simp [refuseDown, modBlm_roster, modBtb_roster]

@[simp] theorem takeForBay_roster : (takeForBay e port f l).roster = l.roster := by
  unfold takeForBay
  repeat' split
  case h_2 => exact forBays_roster fun b l => by split <;> simp
  all_goals simp

@[simp] theorem sendUp_roster {f : OfficeFrame} : (sendUp e b f l).roster = l.roster := by
  unfold sendUp
  split <;> simp

@[simp] theorem queueMgmt_roster : (queueMgmt port bytes l).roster = l.roster := by
  unfold queueMgmt
  split <;> rfl

/-! ## The bay line (R24 to R36) -/

@[simp] theorem markCarried_roster : (markCarried b sf l).roster = l.roster := by
  unfold markCarried
  repeat' split
  all_goals simp

theorem afterSend_kept (m : BlmPart) : (m.afterSend sf).link = m.link ∧ (m.afterSend sf).desired = m.desired := by
  unfold BlmPart.afterSend
  split <;> exact ⟨rfl, rfl⟩

@[simp] theorem beginSlot_roster : (beginSlot e l).roster = l.roster := by
  unfold beginSlot startSlot
  repeat' split
  · rfl
  · exact markCarried_roster.trans (modBlm_roster (afterSend_kept _).1 (by rw [(afterSend_kept _).2]))
  · rfl

@[simp] theorem endSlot_roster : (endSlot e fate l).roster = l.roster := rfl

@[simp] theorem recordEnd_roster {v : Recent} : (l.modBlm b (·.recordEnd v)).roster = l.roster := modBlm_roster rfl rfl

@[simp] theorem removeAnswered_roster : (l.modBlm b (·.removeAnswered sf)).roster = l.roster := by
  have kept (m : BlmPart) : (m.removeAnswered sf).link = m.link ∧ (m.removeAnswered sf).desired = m.desired := by
    unfold BlmPart.removeAnswered
    repeat' split
    · refine ⟨emptySlot_link _, ?_⟩
      unfold BlmPart.emptySlot BlmPart.refill
      repeat' split
      all_goals rfl
    all_goals exact ⟨rfl, rfl⟩
  exact modBlm_roster (kept _).1 (by rw [(kept _).2])

@[simp] theorem linkReturn_roster {was : Link} : (linkReturn e was b l).roster = l.roster := by
  cases was <;> simp [linkReturn, modBlm_roster]

@[simp] theorem announceEnd_minded (h : Minded S K o l.roster) : Minded S K o (announceEnd e b sf xe l).roster :=
  frdExchangeEnd_minded (lswExchangeEnd_minded (by rwa [btbExchangeEnd_roster]))

theorem deliver_lawful {v : ReplyContent} (h : l.roster.Lawful e a) : (deliver e' b v l).roster.Lawful e a := by
  cases v with
  | idrp coach profile => exact takeIdrp_lawful h
  | smp flags tag code => exact h.minded (K := ∅) (takeSample_minded (.refl _))
  | cdata offset data => exact h.minded (K := ∅) (frdCdata_minded (.refl _))
  | cdone => exact h.minded (K := ∅) (frdCdone_minded (.refl _))
  | office f =>
    rw [deliver, sendUp_roster]
    exact h
  | stat | cbusy | cnak => exact h

theorem handleReply_lawful {v : Reply} (h : l.roster.Lawful e a) : (handleReply e' b sf v l).roster.Lawful e a := by
  have online : (l.modBlm b fun m => m.heard.compare v.pstat).roster.Lawful e a := by
    rw [modBlm_roster_eq]
    exact h.put_line (fun _ _ => rfl) fun _ => rfl
  have handed : (handPstat e' b v.pstat (l.modBlm b fun m => m.heard.compare v.pstat)).roster.Lawful e a :=
    (btbPstat_lawful (e' := e') (q := v.pstat) online).minded (K := ∅)
      (frdPstat_minded (falPstat_minded (by rw [phpPstat_roster]; exact dpcPstat_minded (.refl _))))
  simp only [handleReply]
  refine Roster.Lawful.minded ?_ (K := ∅) (announceEnd_minded (.refl _))
  rw [recordEnd_roster, linkReturn_roster]
  exact deliver_lawful (by rwa [removeAnswered_roster])

/-- The clearance of the bay is judged behind the loss of its link (R35). -/
theorem goSilent_lawful (h : l.roster.Lawful e a) : (goSilent e' b l).roster.Lawful e a := by
  have silent : (addBayReason e' b .silent (l.modBlm b fun m => { m with link := .silent })).roster.Lawful e (a.but b) := by
    rw [addBayReason_roster, modBlm_roster_eq]
    exact h.but.put_line (fun hb => absurd rfl hb.2) fun _ => rfl
  exact judge_lawful (silent.minded (K := ∅) (stopRead_minded (.inl rfl) (stopSweep_minded (.inl rfl) (.refl _))))

theorem handleMiss_lawful (h : l.roster.Lawful e a) : (handleMiss e' b sf l).roster.Lawful e a := by
  have counted {k : Nat → Nat} : (l.modBlm b fun m => { m with missCount := k m.missCount }).roster.Lawful e a := by
    rwa [modBlm_roster rfl rfl]
  simp only [handleMiss]
  refine Roster.Lawful.minded ?_ (K := ∅) (announceEnd_minded (.refl _))
  rw [recordEnd_roster]
  split
  · exact goSilent_lawful counted
  · exact counted

theorem missesReachLimit_lawful (h : l.roster.Lawful e a) : (missesReachLimit e' b l).roster.Lawful e a := by
  unfold missesReachLimit
  split
  · exact goSilent_lawful (by rwa [modBlm_roster rfl rfl])
  · exact h

theorem slotMiss_lawful (h : l.roster.Lawful e a) : (slotMiss e' l).roster.Lawful e a := by
  unfold slotMiss
  split
  · exact h
  · exact handleMiss_lawful h
  · exact h

theorem slotReply_lawful (h : l.roster.Lawful e a) : (slotReply e' bytes l).roster.Lawful e a := by
  unfold slotReply
  split
  · exact h
  · split
    · exact handleReply_lawful h
    · exact handleMiss_lawful h
  · exact h

theorem slotIdleEnd_roster : (slotIdleEnd e l).roster = l.roster := by
  unfold slotIdleEnd
  split <;> rfl

end Sys2Proof.Machine

/-! # Every step keeps the laws of the list

Tables, parameters, the clock and the operations of the row, on top of which the command at the front of the queue acts. -/
namespace Sys2Proof.Machine

variable {e e' : Env} {a : Asked} {b c : Bay} {l l' : Live} {r : Roster} {d d' : Dev} {s t : State} {port : Port} {bytes : List Byte}
  {n : Nat} {tid : TableId} {f : Dev → Dev} {g : Env → Live → Live}

/-- The laws of the list hold of the part, as far as they are asked for. -/
def Dev.Lawful (a : Asked) (d : Dev) : Prop := d.live.roster.Lawful d.env a

theorem Dev.Lawful.act (h : d.Lawful a) (keep : ∀ l : Live, l.roster.Lawful d.env a → (g d.env l).roster.Lawful d.env a) :
    (d.act g).Lawful a := keep _ h

theorem Dev.Lawful.act_minded (h : d.Lawful a) (m : ∀ l : Live, Minded a.clear ∅ l.roster (g d.env l).roster) :
    (d.act g).Lawful a := h.act fun l hl => hl.minded (m l)

/-- A live state with the same roster. -/
theorem Dev.Lawful.live (h : d.Lawful a) (same : l.roster = d.live.roster) : Dev.Lawful a { d with live := l } := by
  unfold Dev.Lawful
  rw [same]
  exact h

theorem Dev.Lawful.tables {g : Tables → Tables} (h : d.Lawful a) : (d.modTables g).Lawful a := h.env rfl rfl

theorem Dev.Lawful.params {g : Params → Params} (h : d.Lawful a) : (d.modParams g).Lawful a := h.env rfl rfl

/-! ## Resets (R21, R169) -/

/-- A list without entries and bays whose latches are locked. -/
theorem lawful_of_reset (hentries : r.entries = []) (hlatch : ∀ c, (r.bays c).latch = false) : r.Lawful e a := by
  have vacant {P : DepEntry → Prop} : ∀ x ∈ r.entries, P x := by simp [hentries]
  refine ⟨by simp [hentries], ⟨by simp [hentries], vacant⟩, vacant, vacant, fun c _ => vacant, fun c _ hdesired => ?_, fun _ _ => ?_⟩
  · exact absurd hdesired (by simp [hlatch])
  · rw [hentries]
    rfl

theorem lawful_of_resetBays (hentries : l.departures = []) (hbays : l.bays = resetBays) : l.roster.Lawful e a :=
  lawful_of_reset hentries fun c => by rw [roster_bays, bay_resetBays _ hbays]; rfl

/-! ## Tables and parameters (R166, R174) -/

theorem limitWritten_lawful {old : Nat} (h : d.Lawful a) : (d.act (limitWritten · old)).Lawful a :=
  h.act_minded fun _ => limitWritten_minded (.refl _)

theorem writeParams_lawful {p : Params} (h : d.Lawful a) : (writeParams p d).Lawful a := by
  have judged := (Dev.Lawful.params (g := fun _ =>
    { p with feederLimit := d.env.params.feederLimit, reportMask := d.env.params.reportMask }) h).act_minded
      (g := judgeAll) fun l => judgeAll_minded (.refl _)
  exact (limitWritten_lawful judged.params).params.live rfl

theorem writeEntry_lawful {i : Nat} (h : d.Lawful a) (hw : writeEntry tid i bytes d = some d') : d'.Lawful a := by
  cases tid <;> simp only [writeEntry, Option.map_eq_some_iff] at hw <;> obtain ⟨x, -, rfl⟩ := hw
  case route => exact h.tables
  case poll => exact h.tables.live (d := d.modTables _) rfl
  case profile => exact h.tables.act_minded fun l => profileWritten_minded (.refl _)
  case lamp => exact h.tables.act_minded fun l => evalProfileGates_minded (.refl _)
  case filter => exact h.tables
  case rowparam => exact writeParams_lawful h

theorem loadEntries_lawful {id : Byte} (i n : Nat) (r : LoadRun) (h : r.dev.Lawful a) : (loadEntries tid id i n r).dev.Lawful a := by
  induction n generalizing i r with
  | zero => exact h
  | succ n ih =>
    unfold loadEntries
    split
    · exact h
    split
    · exact h
    split
    · exact h
    · next hw => exact ih _ _ (writeEntry_lawful h hw)

theorem loadRecord_lawful (r : LoadRun) (h : r.dev.Lawful a) : (loadRecord r).dev.Lawful a := by
  simp only [loadRecord]
  repeat' split
  case h_1.isFalse.isFalse => exact loadEntries_lawful _ _ _ h
  all_goals exact h

theorem loadRecords_lawful (n : Nat) (r : LoadRun) (h : r.dev.Lawful a) : (loadRecords n r).dev.Lawful a := by
  induction n generalizing r with
  | zero => exact h
  | succ n ih =>
    unfold loadRecords
    split
    · exact h
    · exact ih _ (loadRecord_lawful r h)

theorem runLoad_lawful (h : d.Lawful a) : (runLoad bytes d).2.2.Lawful a := by
  have loaded := loadRecords_lawful (a := a) bytes.length { dev := d, written := 0, stop := none, rest := bytes } h
  simp only [runLoad, reportLoaded]
  split
  · exact loaded
  · exact loaded

theorem endLoader_lawful {result : LoaderResult} (h : d.Lawful a) : (endLoader result d).Lawful a := h

theorem loaderAct_lawful {x : Byte} (h : d.Lawful a) : (loaderAct x d).dev.Lawful a := by
  have entry {t : TableId} {i k : Nat} {bytes : List Byte} : (loaderEntry t i k bytes d).dev.Lawful a := by
    unfold loaderEntry
    split
    · exact h
    · next hw =>
      have written := writeEntry_lawful h hw
      dsimp only
      repeat' split
      all_goals exact written
  unfold loaderAct loaderCount
  repeat' split
  case h_8.isTrue => exact entry
  all_goals exact h

theorem loaderBound_lawful (h : d.Lawful a) : (loaderBound d).Lawful a := by
  simp only [loaderBound]
  repeat' split
  all_goals exact h

theorem loaderByte_lawful {x : Byte} (h : d.Lawful a) : (loaderByte x d).Lawful a := by
  have acted := loaderAct_lawful (x := x) h
  unfold loaderByte
  split
  · split
    · next hstep =>
      rw [hstep] at acted
      exact endLoader_lawful acted
    · next hstep =>
      rw [hstep] at acted
      exact loaderBound_lawful acted
  · exact h

theorem loaderNoack_lawful (h : d.Lawful a) : (loaderNoack d).Lawful a := by
  unfold loaderNoack
  split
  · exact endLoader_lawful h
  · exact h

/-! ## The clock (R96 to R99) -/

/-- Behind a change of the clock the minute event restores the order of the list (R152). -/
theorem announceMinute_lawful (h : l.roster.Lawful e' a.unordered) : (announceMinute e l).roster.Lawful e a :=
  (dpcMinute_lawful (l := expireSlots e l) h).minded (scvMinute_minded (K := ∅) (.refl _))

theorem Dev.Lawful.act_minute (h : d.live.roster.Lawful e' a.unordered) : (d.act announceMinute).Lawful a := by
  rw [Dev.Lawful, act_live, act_env]
  exact announceMinute_lawful h

/-- Behind a change of the clock only the order of the list is open. -/
theorem Dev.Lawful.clock {g : Clock → Clock} (h : d.Lawful a) : (d.modClock g).Lawful a.unordered := Roster.Lawful.unordered h

theorem whenAddressed_lawful (h : d.Lawful a) (keep : ∀ k : Dev, k.Lawful a → (f k).Lawful a) : (whenAddressed f d).Lawful a := by
  unfold whenAddressed
  split
  · exact keep d h
  · exact h

theorem event_lawful (h : d.Lawful a) (keep : ∀ (e : Env) (l : Live), l.roster.Lawful e a → (g e l).roster.Lawful e a) :
    (event g d).Lawful a := whenAddressed_lawful h fun _ hk => hk.act (keep _)

/-- An event of a bay that acts in some states, and no more than the laws allow. -/
theorem eventIf_lawful {p : Env → Live → Prop} [∀ e l, Decidable (p e l)] (h : d.Lawful a)
    (m : ∀ (e : Env) (l : Live), Minded a.clear ∅ l.roster (g e l).roster) :
    (event (fun e l => if p e l then g e l else l) d).Lawful a :=
  event_lawful h fun e l hl => by
    split
    · exact hl.minded (m e l)
    · exact hl

theorem setTimeStale_lawful (h : d.Lawful a) : (setTimeStale d).Lawful a := h.env rfl rfl

theorem countNoTime_lawful (h : d.Lawful a) : (countNoTime d).Lawful a := by
  unfold countNoTime
  repeat' split
  · exact h.env rfl rfl
  · exact setTimeStale_lawful h
  · exact h

theorem timebaseMinute_lawful (h : d.Lawful a) : (timebaseMinute d).Lawful a := by
  unfold timebaseMinute whenAddressed
  split
  · have announced : ((d.modClock Clock.nextMinute).act announceMinute).Lawful a := Dev.Lawful.act_minute h.clock
    exact (countNoTime_lawful announced).act_minded fun l => phpMinute_minded (.refl _)
  · next hrow => exact { h with order := fun _ hrow' => absurd hrow' hrow }

theorem secondTick_lawful (h : d.Lawful a) : (secondTick d).Lawful a := by
  have ticked : (event frdTick d).Lawful a := event_lawful h fun e l hl => hl.minded (K := ∅) (frdTick_minded (.refl _))
  simp only [secondTick]
  split
  · exact ticked.env rfl rfl
  · exact timebaseMinute_lawful ticked

theorem setTime_lawful {minute second : Nat} {outside : Int} (h : d.Lawful a) : (setTime minute second outside d).Lawful a := by
  have recomputed {a' : Asked} {k : Dev} (hk : k.Lawful a') : (if outside = d.env.clock.outside then k else k.act recomputeAll).Lawful a' := by
    split
    · exact hk
    · exact hk.act_minded fun l => recomputeAll_minded (.refl _)
  simp only [setTime]
  split
  · next hminute => exact recomputed (h.env hminute rfl)
  · have turned := recomputed (a' := a.unordered) (k := d.modClock fun _ =>
      { minute := minute, second := second, outside := outside, minutesNoTime := 0, timeStale := false }) h.clock
    exact (Dev.Lawful.act_minute turned).act_minded fun l => phpMinute_minded (.refl _)

/-! ## Frames and operations (R42 to R45, R165 to R170) -/

theorem receiveFrame_lawful (h : d.Lawful a) : (receiveFrame port bytes d).Lawful a := by
  have taken {k : Dev} {f : TrunkFrame} (hk : k.Lawful a) : (takeFrame port f k).Lawful a := by
    unfold takeFrame
    split
    · unfold takeForRow
      split
      · exact hk.live queueMgmt_roster
      · unfold takeTime
        split
        · exact setTime_lawful hk
        · exact hk
      · exact hk
    · exact hk.live takeForBay_roster
  have relayed (f : TrunkFrame) : (if relayed d.env.straps f then d.act fun e => relay e.straps port f else d).Lawful a := by
    split
    · exact h.live relay_roster
    · exact h
  unfold receiveFrame
  split
  · exact h
  · next f _ =>
    simp only [sortFrame]
    split
    · exact taken (relayed f)
    · exact relayed f

theorem onBay_lawful {bay : Byte} {g : Env → Bay → Live → Status × Live} (h : d.Lawful a)
    (keep : ∀ (e : Env) (b : Bay) (l : Live), l.roster.Lawful e a → (g e b l).2.roster.Lawful e a) :
    (onBay bay g d).2.2.Lawful a := by
  unfold onBay
  split
  · exact h
  · exact keep _ _ _ h

theorem run_lawful (m : MgmtOp) (h : d.Lawful a) : (m.run d).2.2.Lawful a := by
  cases m with
  | load records => exact runLoad_lawful h
  | read target selectors => exact h
  | ident bay => exact onBay_lawful h fun _ _ _ => ident_lawful
  | lampCheck bay gf gl pf pl order => exact onBay_lawful h fun _ _ _ hl => hl.minded (K := ∅) (lampCheck_minded (.refl _))
  | lampStop bay => exact onBay_lawful h fun _ _ _ hl => hl.minded (K := ∅) (lampStop_minded (.refl _))
  | faultRead bay => exact onBay_lawful h fun _ _ _ hl => hl.minded (K := ∅) (faultRead_minded (.refl _))
  | faultClear bay => exact onBay_lawful h fun _ _ _ hl => hl.minded (K := ∅) (faultClear_minded (.refl _))
  | faultFlush bay => exact onBay_lawful h fun _ _ _ hl => hl.minded (K := ∅) (faultFlush_minded (.refl _))
  | latchShunt bay => exact onBay_lawful h fun _ _ _ => latchShunt_lawful
  | latchLock bay => exact onBay_lawful h fun _ _ _ => latchLock_lawful
  | bayEnable bay => exact onBay_lawful h fun _ _ _ => bayEnable_lawful
  | bayDisable bay => exact onBay_lawful h fun _ _ _ => bayDisable_lawful
  | depAdd n minute bay coach target gates => exact depAdd_lawful h
  | depChange n names minute bay target gates => exact depChange_lawful h
  | depCancel n => exact depCancel_lawful h
  | releaseNow n => exact releaseNow_lawful h
  | feederSet limit =>
    simp only [MgmtOp.run, feederSet]
    split
    · exact h
    · exact limitWritten_lawful h.params
  | rowReset => exact lawful_of_resetBays rfl rfl
  | reload => exact h

theorem answerPayload_lawful (h : d.Lawful a) : (answerPayload bytes d).Lawful a := by
  unfold answerPayload
  split
  · split
    · next m _ =>
      unfold MgmtOp.answer MgmtOp.execute
      split
      · exact h
      · exact run_lawful m h
    · exact h
  · exact h

theorem submit_lawful (h : d.Lawful a) : (whenAddressed (takeRequest bytes) d).Lawful a := by
  refine whenAddressed_lawful h fun k hk => ?_
  unfold takeRequest
  split
  · exact answerPayload_lawful hk
  · exact hk.live queueMgmt_roster

/-! ## Every step -/

theorem grantTd_lawful (h : d.Lawful a) : (grantTd d).Lawful a := by
  unfold grantTd
  split <;> exact h

theorem grantTu_lawful (h : d.Lawful a) : (grantTu d).Lawful a := by
  unfold grantTu grantForward grantLane
  repeat' split
  all_goals exact h

theorem settle_lawful (h : d.Lawful a) : (settle d).Lawful a := by
  have run {k : Dev} (hk : k.Lawful a) : (runMgu k).Lawful a := by
    unfold runMgu
    split
    · split
      · exact answerPayload_lawful hk
      · exact hk
    · exact hk
  exact (grantTu_lawful (run (grantTu_lawful (grantTd_lawful h)))).live beginSlot_roster

/-- The command at the front of the queue keeps the laws. -/
theorem exec_lawful (i : Instr) (s : State) : ∃ t, exec i s = .next t ∧ (s.dev.Lawful a → t.dev.Lawful a) := by
  have after {f : Dev → Dev} (keep : ∀ d : Dev, d.Lawful a → (f d).Lawful a) (h : s.dev.Lawful a) : (s.after f).dev.Lawful a :=
    settle_lawful (keep s.dev h)
  have act {g : Env → Live → Live} (keep : ∀ (e : Env) (l : Live), l.roster.Lawful e a → (g e l).roster.Lawful e a) (d : Dev)
      (h : d.Lawful a) : (d.act g).Lawful a := h.act (keep _)
  cases i with
  | powerOnReset | pinReset => exact ⟨_, rfl, after fun _ _ => lawful_of_resetBays rfl rfl⟩
  | loaderByteRead x => exact ⟨_, rfl, after fun _ => loaderByte_lawful⟩
  | noack => exact ⟨_, rfl, after fun _ => loaderNoack_lawful⟩
  | trunkFrameReceived port bytes => exact ⟨_, rfl, after fun _ => receiveFrame_lawful⟩
  | receptionBreaksOff port => exact ⟨_, rfl, after fun _ h => h⟩
  | tuTransmitEnd =>
    refine ⟨_, rfl, after fun d h => ?_⟩
    unfold tuEnd
    split <;> exact h
  | tdTransmitEnd => exact ⟨_, rfl, after fun _ h => h⟩
  | exchangeReply bytes => exact ⟨_, rfl, after (act fun _ _ => slotReply_lawful)⟩
  | badReply | replyTimeout => exact ⟨_, rfl, after (act fun _ _ => slotMiss_lawful)⟩
  | pollSlotIdleEnd => exact ⟨_, rfl, after (act fun _ _ h => by rwa [slotIdleEnd_roster])⟩
  | linkSilent b => exact ⟨_, rfl, after fun _ h => event_lawful h fun _ _ => missesReachLimit_lawful⟩
  | identFailed b => exact ⟨_, rfl, after fun _ h => eventIf_lawful h fun _ _ => by rw [giveUpIdent_roster]; exact .refl _⟩
  | stepVisitLimit b => exact ⟨_, rfl, after fun _ h => eventIf_lawful h fun _ _ => visitLimit_minded (.refl _)⟩
  | coachBusy b | coachSilent b =>
    exact ⟨_, rfl, after fun _ h => eventIf_lawful h fun _ _ => abortRead_minded (by rw [modFrd_roster]; exact .refl _)⟩
  | clearTimeout b => exact ⟨_, rfl, after fun _ h => eventIf_lawful h fun _ _ => clearExpires_minded (.refl _)⟩
  | cabinStaleOnset b =>
    exact ⟨_, rfl, after fun _ h => eventIf_lawful h fun _ _ => cabinStaleOnset_minded (by rw [modScv_roster]; exact .refl _)⟩
  | secondTick => exact ⟨_, rfl, after fun _ => secondTick_lawful⟩
  | minuteEvent => exact ⟨_, rfl, after fun _ => timebaseMinute_lawful⟩
  | timeStale =>
    refine ⟨_, rfl, after fun _ h => whenAddressed_lawful h fun k hk => ?_⟩
    split
    · exact setTimeStale_lawful hk
    · exact hk
  | parkedSlotExpiry => exact ⟨_, rfl, after fun _ h => event_lawful h fun _ _ hl => hl⟩
  | mgmtFormatError payload =>
    refine ⟨_, rfl, fun h => ?_⟩
    split
    · exact h
    · exact after (fun _ => submit_lawful) h
  | load | read | ident | lampCheck | lampStop | faultRead | faultClear | faultFlush | latchShunt | latchLock | bayEnable | bayDisable
  | depAdd | depChange | depCancel | releaseNow | feederSet | rowReset | reload => exact ⟨_, rfl, after fun _ => submit_lawful⟩

theorem step_lawful (h : s.dev.Lawful a) (hstep : step s = .next t) : t.dev.Lawful a := by
  unfold step at hstep
  split at hstep
  · cases hstep
    exact h
  · next c rest _ =>
    obtain ⟨t', ht, kept⟩ := exec_lawful (a := a) c { s with pending := rest }
    rw [ht] at hstep
    cases hstep
    exact kept h

/-- The laws of the list but for those of the latches. -/
def Asked.clearances : Asked := { clear := Set.univ, latch := ∅, order := True }

/-- The laws of the latches on top of those of the list and its bindings. -/
def Asked.latches : Asked := { clear := ∅, latch := Set.univ, order := False }

/-- Settles O58: the laws are those of `Roster.Lawful`, with the latches left out. -/
theorem everyStepKeepsTheDepartures : Obligations.EveryStepKeepsTheDepartures := by
  intro s t hdep hbind hclear horder hstep
  obtain ⟨hlength, hsound, henabled⟩ := departureLaw_iff.mp hdep
  have before : s.dev.Lawful .clearances :=
    ⟨hlength, hsound, henabled, bindingLaw_iff.mp hbind, fun c _ => (clearanceLaw_of hbind).mp hclear c, nofun, fun _ => horder⟩
  obtain ⟨hlength, hsound, henabled, hbound, hclear, -, horder⟩ := step_lawful before hstep
  have hbind : bindingLaw t.live = true := bindingLaw_iff.mpr hbound
  exact ⟨departureLaw_iff.mpr ⟨hlength, hsound, henabled⟩, hbind, (clearanceLaw_of hbind).mpr fun c => hclear c trivial,
    horder trivial⟩

/-- Every step keeps the latches to their rule (R159, R162). -/
theorem step_latchLaw (hdep : departureLaw s.live = true) (hbind : bindingLaw s.live = true) (hlatch : ∀ b, latchLaw s.live b = true)
    (hstep : step s = .next t) (b : Bay) : latchLaw t.live b = true := by
  obtain ⟨hlength, hsound, henabled⟩ := departureLaw_iff.mp hdep
  have before : s.dev.Lawful .latches :=
    ⟨hlength, hsound, henabled, bindingLaw_iff.mp hbind, nofun, fun c _ => (latchLaw_iff hsound).mp (hlatch c), nofun⟩
  have behind := step_lawful before hstep
  exact (latchLaw_iff behind.sound).mpr (behind.latch b trivial)

end Sys2Proof.Machine

/-! # Latch operations (R162) -/
namespace Sys2Proof.Machine

variable {b : Bay} {l l' : Live} {x : DepEntry} {s : State} {bay tag : Byte}

theorem entryCleared_iff : entryCleared l b = true ↔ ∃ x, boundEntry l b = some x ∧ x.isClear := by
  unfold entryCleared
  split <;> simp_all [DepEntry.isClear]

theorem latchShunt_refused (h : ((l.bay b).btb.occupancy = .unknown ∨ (l.bay b).btb.occupancy = .vacant ∨
    (l.bay b).btb.occupancy = .disabled) ∨ ∃ x, boundEntry l b = some x ∧ x.isClear) : latchShunt b l = (.state, l) := by
  rcases h with h | h
  · simp only [latchShunt, h, if_true]
  · simp only [latchShunt, entryCleared_iff.mpr h, if_true, ite_self]

theorem latchShunt_done (hocc : (l.bay b).btb.occupancy = .plugged ∨ (l.bay b).btb.occupancy = .occupied)
    (h : ∀ x, boundEntry l b = some x → ¬ x.isClear) : latchShunt b l = (.done, setLatch b .shunt true l) := by
  have clear : ¬ entryCleared l b = true := fun hc => by
    obtain ⟨x, hx, hclear⟩ := entryCleared_iff.mp hc
    exact h x hx hclear
  have there : ¬ ((l.bay b).btb.occupancy = .unknown ∨ (l.bay b).btb.occupancy = .vacant ∨ (l.bay b).btb.occupancy = .disabled) := by
    rcases hocc with hocc | hocc <;> simp [hocc]
  simp only [latchShunt, there, clear, if_false, Bool.false_eq_true]

/-- An operation of a bay is answered for the bay its number names. -/
theorem onBay_answers {m : MgmtOp} {f : Env → Bay → Live → Status × Live} {status : Status} (hr : ready s = true)
    (hb : bay.toNat = bayNumber b) (hp : parseOperation m.code m.params = some m) (hm : ∀ d, m.run d = onBay bay f d)
    (hf : f s.dev.env b s.live = (status, l')) : submit (m.payload tag) s = s.answers tag m.code status l' :=
  submit_answers tag hr hp (by
    rw [hm, onBay_of_number bay b hb, show f s.dev.env b s.dev.live = (status, l') from hf])

/-- Settles O38: each operation case by case on the bay, and the rule of the latch with the laws of the list behind every step. -/
theorem latchOperationsWritePurposeAndLatch : Obligations.LatchOperationsWritePurposeAndLatch := by
  refine ⟨fun s tag bay hr => ⟨fun hout => ?_, fun b hb => ?_⟩, fun s t => step_latchLaw⟩
  · have refused {m : MgmtOp} (hp : parseOperation m.code m.params = some m) (hm : m.run s.dev = (.range, [], s.dev)) :
        submit (m.payload tag) s = s.answers tag m.code .range s.live := submit_answers tag hr hp hm
    exact ⟨congrArg Host.Outcome.next (refused (m := .latchShunt bay) rfl (onBay_out_of_range bay hout (fun _ => Machine.latchShunt) _)),
      congrArg Host.Outcome.next (refused (m := .latchLock bay) rfl (onBay_out_of_range bay hout (fun _ => Machine.latchLock) _))⟩
  · have shunt {status : Status} {l : Live} (h : latchShunt b s.live = (status, l)) :
        exec (.latchShunt tag bay) s = .next (s.answers tag 0x16 status l) :=
      congrArg Host.Outcome.next (onBay_answers (m := .latchShunt bay) (f := fun _ => Machine.latchShunt) hr hb rfl (fun _ => rfl) h)
    have lock {status : Status} {l : Live} (h : latchLock b s.live = (status, l)) :
        exec (.latchLock tag bay) s = .next (s.answers tag 0x17 status l) :=
      congrArg Host.Outcome.next (onBay_answers (m := .latchLock bay) (f := fun _ => Machine.latchLock) hr hb rfl (fun _ => rfl) h)
    refine ⟨fun h => shunt (latchShunt_refused ?_), fun hocc h => shunt ?_, fun hocc => lock ?_, fun hocc => lock ?_⟩
    · obtain h | h | h | h := h
      · exact .inl (.inl h)
      · exact .inl (.inr (.inl h))
      · exact .inl (.inr (.inr h))
      · exact .inr h
    · exact (latchShunt_done hocc fun x hx => not_or.mpr (h x hx)).trans (congrArg _ setLatch_true)
    · have hocc : (s.live.bay b).btb.occupancy = .disabled := hocc
      simp only [latchLock, hocc, if_true]
    · have hocc : (s.live.bay b).btb.occupancy ≠ .disabled := hocc
      simp only [latchLock, hocc, if_false, setLatch_false, updateEntry_eq]
      cases boundEntry s.live b with
      | none => rfl
      | some x =>
        dsimp only
        split <;> rfl

end Sys2Proof.Machine

/-! # Operations on the list and their answers (R154, R155, R163)

What a parsed operation comes to, what stands of it behind its answer, and what FAL and PHP make of a bay without plan and requests. -/
namespace Sys2Proof.Machine

variable {e : Env} {b c : Bay} {l l' : Live} {s : State} {tag op : Byte} {id minute : Half} {status : Status} {x y : DepEntry} {n : Nat}
  {S K : Set Bay} {key : Option Nat} {p : DepEntry → Bool} {f : DepEntry → DepEntry}

/-! ## Parsed and answered -/

theorem parseOperation_depCancel (id : Half) :
    parseOperation (MgmtOp.depCancel id).code (MgmtOp.depCancel id).params = some (.depCancel id) :=
  congrArg (fun h => some (MgmtOp.depCancel h)) (halfOf_bytes id)

theorem parseOperation_releaseNow (id : Half) :
    parseOperation (MgmtOp.releaseNow id).code (MgmtOp.releaseNow id).params = some (.releaseNow id) :=
  congrArg (fun h => some (MgmtOp.releaseNow h)) (halfOf_bytes id)

theorem parseOperation_depChange (id : Half) (names : Byte) (minute : Half) (bay target gates : Byte) :
    parseOperation (MgmtOp.depChange id names minute bay target gates).code (MgmtOp.depChange id names minute bay target gates).params =
      some (.depChange id names minute bay target gates) :=
  congrArg₂ (fun i m => some (MgmtOp.depChange i names m bay target gates)) (halfOf_bytes id) (halfOf_bytes minute)

/-- A four-byte field read back. -/
theorem quadOf_bytes (q : Quad) : BitVec.ofNat 32 (num32 (byteOf (q.toNat / 16777216)) (byteOf (q.toNat / 65536))
    (byteOf (q.toNat / 256)) (byteOf q.toNat)) = q := by
  rw [num32_be32 _ q.isLt]
  simp

theorem parseOperation_depAdd (id minute : Half) (bay : Byte) (coach : Quad) (target gates : Byte) :
    parseOperation (MgmtOp.depAdd id minute bay coach target gates).code (MgmtOp.depAdd id minute bay coach target gates).params =
      some (.depAdd id minute bay coach target gates) := by
  have read : parseOperation (MgmtOp.depAdd id minute bay coach target gates).code
      (MgmtOp.depAdd id minute bay coach target gates).params = some (.depAdd (halfOf (byteOf (id.toNat / 256)) (byteOf id.toNat))
        (halfOf (byteOf (minute.toNat / 256)) (byteOf minute.toNat)) bay
        (BitVec.ofNat 32 (num32 (byteOf (coach.toNat / 16777216)) (byteOf (coach.toNat / 65536)) (byteOf (coach.toNat / 256))
          (byteOf coach.toNat))) target gates) := rfl
  rw [read, halfOf_bytes, halfOf_bytes, quadOf_bytes]

theorem exec_depCancel (hr : ready s = true) (h : depCancel s.dev.env id.toNat s.live = (status, l)) :
    exec (.depCancel tag id) s = .next (s.answers tag 0x22 status l) :=
  congrArg Host.Outcome.next (submit_answers tag hr (parseOperation_depCancel id)
    (congrArg (fun r : Status × Live => (r.1, [], { s.dev with live := r.2 })) h))

theorem exec_releaseNow (hr : ready s = true) (h : releaseNow s.dev.env id.toNat s.live = (status, l)) :
    exec (.releaseNow tag id) s = .next (s.answers tag 0x23 status l) :=
  congrArg Host.Outcome.next (submit_answers tag hr (parseOperation_releaseNow id)
    (congrArg (fun r : Status × Live => (r.1, [], { s.dev with live := r.2 })) h))

theorem exec_depChange {names bay target gates : Byte} (hr : ready s = true)
    (h : depChange s.dev.env id.toNat (namesOf names minute bay target gates) s.live = (status, l)) :
    exec (.depChange tag id names minute bay target gates) s = .next (s.answers tag 0x21 status l) :=
  congrArg Host.Outcome.next (submit_answers tag hr (parseOperation_depChange id names minute bay target gates)
    (congrArg (fun r : Status × Live => (r.1, [], { s.dev with live := r.2 })) h))

theorem exec_depAdd {bay target gates : Byte} {coach : Quad} (hr : ready s = true)
    (h : depAdd s.dev.env id.toNat minute.toNat bay.toNat (coachOf coach) (targetOf target) (gatesOf gates) s.live = (status, l)) :
    exec (.depAdd tag id minute bay coach target gates) s = .next (s.answers tag 0x20 status l) :=
  congrArg Host.Outcome.next (submit_answers tag hr (parseOperation_depAdd id minute bay coach target gates)
    (congrArg (fun r : Status × Live => (r.1, [], { s.dev with live := r.2 })) h))

/-- What a bay has behind an answer: its coach, its desired settings, its key and its heat state. -/
structure BayAnswered (r r' : BayRec) : Prop where
  btb : r'.btb = r.btb
  desired : r'.blm.desired = r.blm.desired
  key : r'.fal.key = r.fal.key
  plan : r'.php.state = r.php.state

/-- What stands behind an answer of what the operation came to. -/
structure Answered (r : Mrsp) (l l' : Live) : Prop where
  mrsp : l'.mgu.mrsp = some r
  departures : l'.departures = l.departures
  bays : ∀ c, BayAnswered (l.bay c) (l'.bay c)

/-- MGU has no further frame to execute behind an answer. -/
theorem answers_answered (hr : ready s = true) (hmgu : l.mgu = s.live.mgu) :
    Answered ⟨tag, op, status, []⟩ l (s.answers tag op status l).live := by
  obtain ⟨-, -, hqueue, -⟩ := (ready_iff s).mp hr
  have noted : Noted (l.answered tag op status []) (s.answers tag op status l).live :=
    (settle_noted (d := { s.dev with live := l.answered tag op status [] }) ((congrArg (·.queue) hmgu).trans hqueue)).1
  refine ⟨by rw [noted.mgu]; rfl, noted.departures, fun c => ?_⟩
  obtain ⟨_, fal⟩ := (noted.bays c).fal
  obtain ⟨_, php⟩ := (noted.bays c).php
  exact ⟨(noted.bays c).btb, (noted.bays c).desired, congrArg (·.key) fal, congrArg (·.state) php⟩

theorem entryById_congr (h : l'.departures = l.departures) : entryById l' n = entryById l n := by rw [entryById, h, entryById]

/-! ## Entries found by their id -/

/-- The entry with an id behind a change of the list entry by entry. -/
theorem find?_map_kept {list : List DepEntry} (h : ∀ x ∈ list, p (f x) = p x) : (list.map f).find? p = (list.find? p).map f := by
  rw [List.find?_map]
  exact congrArg _ (List.find?_congr h)

theorem Minded.entryById (h : Minded S K l.roster l'.roster) (hx : entryById l n = some x) :
    ∃ y, entryById l' n = some y ∧ EntryKept x y ∧ (l.roster.Alone x → EntryJudged x y) := by
  obtain ⟨f, hf, kept⟩ := h.entries
  have found : l'.departures.find? (fun x => x.id == n) = (l.departures.find? fun x => x.id == n).map f :=
    (congrArg (List.find? _) hf).trans (find?_map_kept fun x hx => by rw [(kept x hx).1.id_eq])
  refine ⟨f x, found.trans (by rw [show l.departures.find? (fun x => x.id == n) = some x from hx]; rfl), kept x (entryById_some hx).1⟩

/-- The entry with an id changed in its place. -/
theorem entryById_update (hx : entryById l n = some x) (hid : ∀ y, y.id = n → (f y).id = n) :
    entryById (updateEntry n f l) n = some (f x) := by
  have found : entryById (updateEntry n f l) n = (l.departures.find? fun x => x.id == n).map fun x => if x.id = n then f x else x := by
    rw [updateEntry_eq]
    refine find?_map_kept fun y _ => ?_
    split
    · next hy => rw [hid y hy, hy]
    · rfl
  rw [found, show l.departures.find? (fun x => x.id == n) = some x from hx, Option.map_some, if_pos (entryById_some hx).2]

/-- The only entry of a list with an id. -/
theorem find?_insertEntry {list : List DepEntry} (hx : p x = true) (hnone : ∀ y ∈ list, p y = false) :
    (insertEntry e x list).find? p = some x := by
  obtain ⟨front, back, rfl, hinsert, -, -⟩ := insertEntry_split e x list
  rw [hinsert, List.find?_append, List.find?_eq_none.mpr fun y hy => by simp [hnone y (List.mem_append_left _ hy)]]
  simp [hx]

theorem entryById_insert {list : List DepEntry} (hx : x.id = n) (hnone : ∀ y ∈ list, y.id ≠ n) :
    entryById { l with departures := insertEntry e x list } n = some x :=
  find?_insertEntry (by simpa using hx) fun y hy => by simpa using hnone y hy

/-! ## A bay without plan and requests (R112, R121) -/

/-- FAL takes the key of a bay none of whose requests waits. -/
theorem setKey_idle (hnone : ∀ k, (shareOf l b k).state ≠ .queued) : setKey e b key l = l.modFal b fun f => { f with key := key } := by
  by_cases h : (l.bay b).fal.key = key
  · rw [setKey_same h]
    exact (modBay_id l b _ (by rw [← h])).symm
  · exact setKey_unqueued h hnone

theorem plannableTarget_none (h : ∀ x, boundEntry l b = some x → x.state = .waiting ∨ x.target = none) : plannableTarget l b = none := by
  unfold plannableTarget
  cases hx : boundEntry l b with
  | none => rfl
  | some x => rcases h x hx with hs | ht <;> simp [*]

theorem planNotice_idle (hplan : (l.bay b).php.state = .none) (h : plannableTarget l b = none) : planNotice e b l = l := by
  simp [planNotice, h, hplan]

/-- FAL has the key of a bay without plan and requests, and PHP nothing to do. -/
theorem tellBay_keys (hnone : ∀ k, (shareOf l b k).state ≠ .queued) (hplan : (l.bay b).php.state = .none)
    (h : ∀ x, boundEntry l b = some x → x.state = .waiting ∨ x.target = none) :
    tellBay e b key l = l.modFal b fun f => { f with key := key } := by
  rw [tellBay, setKey_idle hnone]
  exact planNotice_idle (by rw [bay_modFal_self]; exact hplan)
    (plannableTarget_none fun x hx => h x (by rwa [Live.modFal, boundEntry_modBay] at hx))

/-- PHP has no plan for a bay without an entry. -/
theorem planNotice_unbound (h : boundEntry l b = none) : ((planNotice e b l).bay b).php.state = .none := by
  have target : plannableTarget l b = none := plannableTarget_none (by simp [h])
  simp only [planNotice, target]
  split
  · next hplan => exact hplan
  · exact leavePlan_state

/-- Behind the key FAL and PHP do no more to a bay than is done about a bound entry. -/
theorem tellBay_minded_behind : Minded S K (l.modFal b fun f => { f with key := key }).roster (tellBay e b key l).roster :=
  planNotice_minded (setKey_minded_behind (.refl _))

end Sys2Proof.Machine

/-! # DEP CANCEL and RELEASE NOW (R159, R163) -/
namespace Sys2Proof.Machine

variable {e : Env} {b : Bay} {l : Live} {s : State} {tag : Byte} {id : Half} {x : DepEntry} {n : Nat}

/-! ## DEP CANCEL (R163) -/

theorem depCancel_zero : depCancel e 0 l = (.range, l) := if_pos rfl

theorem depCancel_unknown (h0 : n ≠ 0) (h : entryById l n = none) : depCancel e n l = (.notFound, l) := by simp [depCancel, h0, h]

theorem depCancel_unbound (h0 : n ≠ 0) (hx : entryById l n = some x) (hb : x.bay = none) :
    depCancel e n l = (.done, removeEntry n l) := by
  have locked : lockIfReleased x (removeEntry n l) = removeEntry n l := by
    unfold lockIfReleased
    split
    · next h => simp [hb] at h
    · rfl
  simp [depCancel, h0, hx, hb, locked]

theorem depCancel_bound (h0 : n ≠ 0) (hx : entryById l n = some x) (hb : x.bay = some b) :
    depCancel e n l = (.done, tellBay e b none (lockIfReleased x (removeEntry n l))) := by simp [depCancel, h0, hx, hb]

theorem lockIfReleased_released (hb : x.bay = some b) (hs : x.state = .released) : lockIfReleased x l = setLatch b .none false l := by
  simp [lockIfReleased, hb, hs]

theorem lockIfReleased_other (hs : x.state ≠ .released) : lockIfReleased x l = l := by
  unfold lockIfReleased
  split
  · next h _ => exact absurd h hs
  · rfl

/-- What a removal writes at the bay of the entry, if it was RELEASED. -/
theorem lockIfReleased_eq (hb : x.bay = some b) : lockIfReleased x l = l.modBay b fun r =>
    { r with
      btb := if x.state = .released then { r.btb with purpose := .none } else r.btb
      blm := if x.state = .released then
          { r.blm with
            desired := { r.blm.desired with latch := false }
            dirty := r.blm.dirty || r.blm.desired.latch }
        else r.blm } := by
  by_cases hs : x.state = .released
  · simp only [lockIfReleased_released hb hs, setLatch_false, hs, if_true]
  · simp only [lockIfReleased_other hs, hs, if_false]
    exact (modBay_id l b _ rfl).symm

theorem lockIfReleased_departures : (lockIfReleased x l).departures = l.departures := by
  unfold lockIfReleased
  split <;> rfl

/-- No entry of the bay is left where only the one removed was bound to it. -/
theorem removed_free (honly : ∀ y ∈ l.departures, y.bay = some b → y.id = n) :
    (lockIfReleased x (removeEntry n l)).roster.Free b := fun y hy hyb => by
  rw [roster_entries, lockIfReleased_departures] at hy
  obtain ⟨hy, hne⟩ := List.mem_filter.mp hy
  simp [honly y hy hyb] at hne

theorem removed_unknown : entryById (lockIfReleased x (removeEntry n l)) n = none := by
  rw [entryById_none_iff, lockIfReleased_departures]
  exact fun y hy => by simpa using (List.mem_filter.mp hy).2

/-- DEP CANCEL of the entry of a bay without plan and requests. -/
theorem depCancel_idle (h0 : n ≠ 0) (hx : entryById l n = some x) (hb : x.bay = some b)
    (honly : ∀ y ∈ l.departures, y.bay = some b → y.id = n) (hplan : (l.bay b).php.state = .none)
    (hnone : ∀ k, (shareOf l b k).state ≠ .queued) : depCancel e n l = (.done,
      { (l.modBay b fun r =>
          { r with
            btb := if x.state = .released then { r.btb with purpose := .none } else r.btb
            blm := if x.state = .released then
                { r.blm with
                  desired := { r.blm.desired with latch := false }
                  dirty := r.blm.dirty || r.blm.desired.latch }
              else r.blm
            fal := { r.fal with key := none } }) with
        departures := l.departures.filter fun y => y.id != n }) := by
  have locked := lockIfReleased_eq (l := removeEntry n l) hb
  have bay : (lockIfReleased x (removeEntry n l)).bay b = _ := (congrArg (·.bay b) locked).trans (bay_modBay_self _)
  have free := boundEntry_none_iff.mpr (removed_free (x := x) honly)
  rw [depCancel_bound h0 hx hb, tellBay_keys (fun k => ?_) (by rw [bay]; exact hplan) (by simp [free]), locked, modFal_eq, modBay_modBay]
  · rfl
  · rw [shareOf, bay]
    exact hnone k

/-- What DEP CANCEL leaves of the entry and its bay. -/
structure Cancelled (l : Live) (b : Bay) (n : Nat) : Prop where
  unknown : entryById l n = none
  unbound : boundEntry l b = none
  key : (l.bay b).fal.key = none
  plan : (l.bay b).php.state = .none

theorem tellBay_cancelled (hunknown : entryById l n = none) (hfree : l.roster.Free b) : Cancelled (tellBay e b none l) b n ∧
    ((tellBay e b none l).bay b).btb.purpose = (l.bay b).btb.purpose ∧
    ((tellBay e b none l).bay b).blm.desired.latch = (l.bay b).blm.desired.latch := by
  have told : Minded ∅ ∅ l.roster (tellBay e b none l).roster := tellBay_minded (Set.notMem_empty b) (.refl _)
  have keyed : Minded ∅ Set.univ (l.modFal b fun f => { f with key := none }).roster (tellBay e b none l).roster := tellBay_minded_behind
  have set : Minded ∅ ∅ l.roster (setKey e b none l).roster := setKey_minded (Set.notMem_empty b) (.refl _)
  refine ⟨⟨?_, boundEntry_none_iff.mpr (told.stays_free hfree), ?_, ?_⟩, told.free b hfree⟩
  · refine entryById_none_iff.mpr fun y hy => ?_
    obtain ⟨z, hz, kept, -⟩ := told.source hy
    rw [kept.id_eq]
    exact entryById_none_iff.mp hunknown z hz
  · have key := keyed.key b trivial
    exact key.trans (by rw [roster_bays, bay_modFal_self]; rfl)
  · exact planNotice_unbound (boundEntry_none_iff.mpr (set.stays_free hfree))

/-! ## RELEASE NOW (R159, R163) -/

theorem releaseNow_zero : releaseNow e 0 l = (.range, l) := if_pos rfl

theorem releaseNow_unknown (h0 : n ≠ 0) (h : entryById l n = none) : releaseNow e n l = (.notFound, l) := by simp [releaseNow, h0, h]

theorem releaseNow_refused (h0 : n ≠ 0) (hx : entryById l n = some x) (hs : x.state ≠ .cleared) : releaseNow e n l = (.state, l) := by
  simp only [releaseNow, h0, if_false, hx]
  split
  · next h _ => exact absurd h hs
  · rfl

theorem releaseNow_cleared (h0 : n ≠ 0) (hx : entryById l n = some x) (hs : x.state = .cleared) (hb : x.bay = some b) :
    releaseNow e n l = (.done, releaseEntry e b x l) := by simp only [releaseNow, h0, if_false, hx, hs, hb]

/-- Settles O46: the refusals, the removal of an unbound and of a bound entry, and the release, each as the operation gives it. -/
theorem cancelAndReleaseActOnTheEntry : Obligations.CancelAndReleaseActOnTheEntry := by
  intro s tag id hr
  have nonzero (h : id ≠ 0) : id.toNat ≠ 0 := fun h0 => h (BitVec.eq_of_toNat_eq h0)
  refine ⟨fun h => ?_, fun h hnone => ?_, fun x h hx => ⟨fun hb => ?_, fun b hb honly => ⟨fun hplan hnone => ?_, ?_⟩, fun hs => ?_,
    fun b hs hb => ?_⟩⟩
  · subst h
    exact ⟨exec_depCancel hr depCancel_zero, exec_releaseNow hr releaseNow_zero⟩
  · have unknown : entryById s.live id.toNat = none := entryById_none_iff.mpr hnone
    exact ⟨exec_depCancel hr (depCancel_unknown (nonzero h) unknown), exec_releaseNow hr (releaseNow_unknown (nonzero h) unknown)⟩
  · exact exec_depCancel hr (depCancel_unbound (nonzero h) hx hb)
  · exact exec_depCancel hr (depCancel_idle (nonzero h) hx hb honly hplan hnone)
  · have cancelled := depCancel_bound (e := s.dev.env) (nonzero h) hx hb
    have hmgu : (tellBay s.dev.env b none (lockIfReleased x (removeEntry id.toNat s.live))).mgu = s.live.mgu := by
      have served := depCancel_served (e := s.dev.env) (l := s.live) (n := id.toNat)
      rw [cancelled] at served
      exact served.mgu
    obtain ⟨mrsp, departures, bays⟩ := answers_answered (tag := tag) (op := 0x22) (status := .done) hr hmgu
    obtain ⟨done, purpose, latch⟩ := tellBay_cancelled (e := s.dev.env) removed_unknown (removed_free (x := x) honly)
    refine ⟨_, exec_depCancel hr cancelled, mrsp, (entryById_congr departures).trans done.unknown,
      (boundEntry_congr _ _ _ departures).trans done.unbound, (bays b).key.trans done.key, (bays b).plan.trans done.plan, fun hs => ?_⟩
    have locked : (lockIfReleased x (removeEntry id.toNat s.live)).bay b = _ :=
      (congrArg (·.bay b) (lockIfReleased_eq hb)).trans (bay_modBay_self _)
    rw [locked] at purpose latch
    simp only [hs, if_true] at purpose latch
    exact ⟨(congrArg (·.purpose) (bays b).btb).trans purpose, (congrArg (·.latch) (bays b).desired).trans latch⟩
  · exact exec_releaseNow hr (releaseNow_refused (nonzero h) hx hs)
  · refine exec_releaseNow hr ((releaseNow_cleared (nonzero h) hx hs hb).trans ?_)
    rw [releaseEntry, setLatch_true, updateEntry_eq, (entryById_some hx).2]
    rfl

end Sys2Proof.Machine

/-! # DEP ADD (R154, R156) -/
namespace Sys2Proof.Machine

variable {e : Env} {b : Bay} {l : Live} {s : State} {tag bay target gates : Byte} {id minute : Half} {coach : Quad} {x y : DepEntry}
  {n m k : Nat} {ch : Option Nat} {tg : Option Int} {gm : GateMask} {S K : Set Bay}

/-! ## The fields of a request (Table 11-5) -/

theorem targetOf_eq : targetOf target = if target = 0x80#8 then none else some target.toInt := by
  have h : target.toInt = -128 ↔ target = 0x80#8 := BitVec.toInt_inj (y := 0x80#8)
  simp only [targetOf, h]

theorem clampTarget_targetOf : (clampTarget (targetOf target)).1 = if target = 0x80#8 then none else some (max 20 (min 56 target.toInt)) := by
  rw [targetOf_eq]
  split <;> rfl

theorem clamped_targetOf : (clampTarget (targetOf target)).2 =
    (decide (target ≠ 0x80#8) && (decide (target.toInt < 20) || decide (56 < target.toInt))) := by
  rw [targetOf_eq]
  split
  · next h => simp [h, clampTarget]
  · next h => simp [h, clampTarget]

theorem gatesOf_eq : gatesOf gates = { lamp := gates.getLsbD 0, fault := gates.getLsbD 1, heat := gates.getLsbD 2 } := rfl

theorem coachOf_eq : coachOf coach = if coach = 0 then none else some coach.toNat := by
  have h : coach.toNat = 0 ↔ coach = 0 := BitVec.toNat_inj (y := 0#32)
  simp only [coachOf, h]

theorem minuteOutOfRange_iff : minuteOutOfRange e m = true ↔
    10079 < m ∨ distance m e.clock.minute < -60 ∨ 1440 < distance m e.clock.minute := by
  simp only [minuteOutOfRange, Bool.or_eq_true, decide_eq_true_eq, or_assoc]
  rfl

/-- The number of a bay names it, and is 1 to 16. -/
theorem bayOf_eq_some_iff : bayOf k = some b ↔ k = bayNumber b := by
  refine ⟨fun h => ?_, fun h => h ▸ bayOf_bayNumber b⟩
  unfold bayOf at h
  split at h
  · next hk =>
    cases h
    simp only [bayNumber]
    omega
  · cases h

/-! ## The checks and the entry (R154) -/

/-- The entry of a DEP ADD. -/
def DepEntry.asked (n m : Nat) (ch : Option Nat) (tg : Option Int) (gm : GateMask) : DepEntry :=
  { id := n, minute := m, bay := none, coach := ch, target := (clampTarget tg).1, gates := gm, state := .waiting,
    clamped := (clampTarget tg).2, mismatch := false, late := false, held := false }

/-- The list with the entry of a DEP ADD, for no bay yet. -/
def Live.joined (e : Env) (x : DepEntry) (l : Live) : Live := { l with departures := insertEntry e x l.departures }

theorem depAdd_range (h : (n = 0 ∨ 16 < k) ∨ minuteOutOfRange e m = true) : depAdd e n m k ch tg gm l = (.range, l) := by
  rcases h with h | h <;> simp [depAdd, h]

section
variable (h0 : n ≠ 0) (hk : k ≤ 16) (hm : minuteOutOfRange e m = false)
include h0 hk hm

theorem depAdd_duplicate (h : ∃ x ∈ l.departures, x.id = n) : depAdd e n m k ch tg gm l = (.duplicate, l) := by
  have found : (entryById l n).isSome = true := by simpa [entryById] using h
  simp [depAdd, h0, Nat.not_lt.mpr hk, hm, found]

variable (hnew : ∀ x ∈ l.departures, x.id ≠ n)
include hnew

theorem depAdd_full (h : 32 ≤ l.departures.length) : depAdd e n m k ch tg gm l = (.full, l) := by
  have h' : Config.departureMax ≤ l.departures.length := h
  simp [depAdd, h0, Nat.not_lt.mpr hk, hm, entryById_none_iff.mpr hnew, h']

variable (hroom : l.departures.length < 32)
include hroom

theorem depAdd_unbound (h : bayOf k = none) : depAdd e n m k ch tg gm l = (.done, l.joined e (.asked n m ch tg gm)) := by
  have hroom' : ¬ Config.departureMax ≤ l.departures.length := Nat.not_le.mpr hroom
  simp [depAdd, h0, Nat.not_lt.mpr hk, hm, entryById_none_iff.mpr hnew, hroom', h, Live.joined, DepEntry.asked]

theorem depAdd_named (h : bayOf k = some b) : depAdd e n m k ch tg gm l =
    if (l.bay b).btb.occupancy = .disabled then (.disabled, l)
    else if takenByOther l n b then (.taken, l)
    else (.done, bindEntry e n b (l.joined e (.asked n m ch tg gm))) := by
  have hroom' : ¬ Config.departureMax ≤ l.departures.length := Nat.not_le.mpr hroom
  simp [depAdd, h0, Nat.not_lt.mpr hk, hm, entryById_none_iff.mpr hnew, hroom', h, Live.joined, DepEntry.asked]

end

theorem takenByOther_iff : takenByOther l n b = true ↔ ∃ y ∈ l.departures, y.bay = some b ∧ y.id ≠ n := by
  simp [takenByOther]

/-! ## The entry of a bay (R121, R156) -/

/-- An entry bound to a bay: told with its minute, and judged but neither bound anew nor released. -/
theorem bindEntry_result (hx : entryById l n = some x) : ∃ y, entryById (bindEntry e n b l) n = some y ∧
    EntryKept (x.boundTo b (l.bay b).btb) y ∧ (l.roster.Alone x → EntryJudged (x.boundTo b (l.bay b).btb) y) ∧
    ((bindEntry e n b l).bay b).fal.key = some x.minute := by
  have hid : x.id = n := (entryById_some hx).2
  have bound : entryById (updateEntry n (·.boundTo b (l.bay b).btb) l) n = some (x.boundTo b (l.bay b).btb) :=
    entryById_update hx fun y hy => boundTo_id.trans hy
  have told : Minded ∅ Set.univ
      ((updateEntry n (·.boundTo b (l.bay b).btb) l).modFal b fun f => { f with key := some x.minute }).roster (bindEntry e n b l).roster := by
    simp only [bindEntry, bound, Option.map_some, boundTo_minute]
    exact judge_minded tellBay_minded_behind
  obtain ⟨y, hy, kept, judged⟩ := told.entryById bound
  refine ⟨y, hy, kept, fun alone => judged fun z hz hzid => ?_, ?_⟩
  · have hz : z ∈ (updateEntry n (·.boundTo b (l.bay b).btb) l).roster.entries := hz
    rw [updateEntry_roster] at hz
    obtain ⟨w, hw, rfl⟩ := mem_update.mp hz
    have hwid : w.id = n := by
      split at hzid
      · assumption
      · exact hzid.trans (boundTo_id.trans hid)
    rw [if_pos hwid, alone w hw (hwid.trans hid.symm)]
  · exact (told.key b trivial).trans (by rw [roster_bays, bay_modFal_self]; rfl)

/-- What the state of a bound entry can be behind its judgement. -/
theorem EntryJudged.boundTo {g : BtbPart} (h : EntryJudged (x.boundTo b g) y) :
    (g.occupancy ≠ .occupied → y.state = .waiting) ∧
    (g.occupancy = .occupied → ¬ (x.coach = none ∨ x.coach = some g.coach) → y.state = .waiting) ∧
    (g.occupancy = .occupied → x.coach = none ∨ x.coach = some g.coach → y.state = .preparing ∨ y.state = .cleared) := by
  refine ⟨fun hocc => h.waiting.mpr (by simp [DepEntry.boundTo, hocc]), fun hocc hcoach => h.waiting.mpr ?_, fun hocc hcoach => ?_⟩
  · simp [DepEntry.boundTo, hocc, hcoach]
  · have preparing : (x.boundTo b g).state = .preparing := by simp [DepEntry.boundTo, hocc, hcoach]
    have waiting := h.waiting
    have released := h.released
    rw [preparing] at waiting released
    cases hs : y.state <;> simp_all

theorem boundTo_mismatch {g : BtbPart} : (x.boundTo b g).mismatch =
    decide (g.occupancy = .occupied ∧ ¬ (x.coach = none ∨ x.coach = some g.coach)) := by
  by_cases hocc : g.occupancy = .occupied
  · by_cases hcoach : x.coach = none ∨ x.coach = some g.coach <;> simp [DepEntry.boundTo, hocc, hcoach]
  · simp [DepEntry.boundTo, hocc]

/-- The fields of an entry a binding leaves. -/
theorem boundTo_eq {g : BtbPart} : x.boundTo b g = { x with
    bay := some b, state := (x.boundTo b g).state, mismatch := (x.boundTo b g).mismatch } := by
  unfold DepEntry.boundTo
  repeat' split
  all_goals rfl

/-- The new entry is the only one with its id. -/
theorem joined_entry (hid : x.id = n) (hnew : ∀ y ∈ l.departures, y.id ≠ n) :
    entryById (l.joined e x) n = some x ∧ (l.joined e x).roster.Alone x := by
  refine ⟨entryById_insert hid hnew, fun y hy hyid => ?_⟩
  rcases List.mem_cons.mp ((insertEntry_perm e x l.departures).mem_iff.mp hy) with hy | hy
  · exact hy
  · exact absurd (hyid.trans hid) (hnew y hy)

/-- The state and the MISMATCH of an entry bound to a bay: WAITING for no coach or for another, PREPARING or CLEARED for its own
(R156, R157). -/
structure BoundAs (g : BtbPart) (ch : Option Nat) (y : DepEntry) : Prop where
  absent : g.occupancy ≠ .occupied → y.state = .waiting ∧ y.mismatch = false
  other : g.occupancy = .occupied → ¬ (ch = none ∨ ch = some g.coach) → y.state = .waiting ∧ y.mismatch = true
  own : g.occupancy = .occupied → ch = none ∨ ch = some g.coach → (y.state = .preparing ∨ y.state = .cleared) ∧ y.mismatch = false

theorem boundAs (kept : EntryKept (x.boundTo b (l.bay b).btb) y) (judged : EntryJudged (x.boundTo b (l.bay b).btb) y) :
    BoundAs (l.bay b).btb x.coach y := by
  obtain ⟨absent, other, own⟩ := judged.boundTo
  have mismatch := kept.mismatch_eq.trans boundTo_mismatch
  exact ⟨fun hocc => ⟨absent hocc, by simp [mismatch, hocc]⟩,
    fun hocc h => ⟨other hocc h, by rw [mismatch]; exact decide_eq_true ⟨hocc, h⟩⟩,
    fun hocc h => ⟨own hocc h, by rw [mismatch]; exact decide_eq_false fun hno => hno.2 h⟩⟩

/-- DEP ADD for a bay, with what its answer leaves. -/
theorem exec_depAdd_bound (hr : ready s = true) (hnew : ∀ y ∈ s.live.departures, y.id ≠ n) (hx : x.id = n)
    (hmgu : (bindEntry e n b (s.live.joined e x)).mgu = s.live.mgu) :
    ∃ y, entryById (s.answers tag 0x20 .done (bindEntry e n b (s.live.joined e x))).live n = some y ∧
      EntryKept (x.boundTo b (s.bay b).btb) y ∧ BoundAs (s.bay b).btb x.coach y ∧
      ((s.answers tag 0x20 .done (bindEntry e n b (s.live.joined e x))).bay b).fal.key = some x.minute ∧
      (s.answers tag 0x20 .done (bindEntry e n b (s.live.joined e x))).live.mgu.mrsp = some ⟨tag, 0x20, .done, []⟩ := by
  obtain ⟨mrsp, departures, bays⟩ := answers_answered (tag := tag) (op := 0x20) (status := .done) hr hmgu
  obtain ⟨found, alone⟩ := joined_entry (e := e) hx hnew
  obtain ⟨y, hy, kept, judged, hkey⟩ := bindEntry_result (e := e) (b := b) found
  exact ⟨y, (entryById_congr departures).trans hy, kept, boundAs kept (judged alone), (bays b).key.trans hkey, mrsp⟩

/-- Settles O43: the checks in their order, the entry of no bay, and the entry of a bay with its binding and its judgement. -/
theorem depAddChecksAndInserts : Obligations.DepAddChecksAndInserts := by
  intro s tag id minute bay coach target gates hr
  refine ⟨fun h => exec_depAdd hr (depAdd_range ?_), fun h0 hminute hbay hearly hlate => ?_⟩
  · rw [minuteOutOfRange_iff]
    rcases h with rfl | h | h | h | h
    · exact .inl (.inl rfl)
    · exact .inr (.inl h)
    · exact .inl (.inr h)
    · exact .inr (.inr (.inl h))
    · exact .inr (.inr (.inr h))
  have hid : id.toNat ≠ 0 := fun h => h0 (BitVec.eq_of_toNat_eq h)
  have hm : minuteOutOfRange s.dev.env minute.toNat = false := by
    refine Bool.eq_false_iff.mpr fun h => ?_
    rcases minuteOutOfRange_iff.mp h with h | h | h <;> omega
  refine ⟨fun hdup => exec_depAdd hr (depAdd_duplicate hid hbay hm hdup), fun hnew => ⟨fun hfull => exec_depAdd hr
    (depAdd_full hid hbay hm hnew hfull), fun hroom => ⟨fun b hb hdis => ?_, fun b hb hen htaken => ?_, fun hnone => ?_,
      fun b hb hen hfree => ?_⟩⟩⟩
  · have hdis : (s.live.bay b).btb.occupancy = .disabled := hdis
    refine exec_depAdd hr ?_
    rw [depAdd_named hid hbay hm hnew hroom (bayOf_eq_some_iff.mpr hb), if_pos hdis]
  · have hen : (s.live.bay b).btb.occupancy ≠ .disabled := hen
    obtain ⟨y, hy, hyb⟩ := htaken
    refine exec_depAdd hr ?_
    rw [depAdd_named hid hbay hm hnew hroom (bayOf_eq_some_iff.mpr hb), if_neg hen, if_pos (takenByOther_iff.mpr ⟨y, hy, hyb, hnew y hy⟩)]
  · subst hnone
    refine exec_depAdd hr ((depAdd_unbound hid hbay hm hnew hroom bayOf_zero).trans ?_)
    rw [Live.joined, DepEntry.asked, clampTarget_targetOf, clamped_targetOf, coachOf_eq, gatesOf_eq]
  · have hen : (s.live.bay b).btb.occupancy ≠ .disabled := hen
    have notTaken : ¬ takenByOther s.live id.toNat b = true := fun h => by
      obtain ⟨y, hy, hyb, -⟩ := takenByOther_iff.mp h
      exact hfree y hy hyb
    have done := depAdd_named (ch := coachOf coach) (tg := targetOf target) (gm := gatesOf gates) hid hbay hm hnew hroom
      (bayOf_eq_some_iff.mpr hb)
    rw [if_neg hen, if_neg notTaken] at done
    have hmgu := (congrArg (·.2.mgu) done).symm.trans depAdd_served.mgu
    obtain ⟨y, hy, kept, ⟨absent, other, own⟩, hkey, mrsp⟩ := exec_depAdd_bound (tag := tag) hr hnew rfl hmgu
    have coach_iff : (coachOf coach = none ∨ coachOf coach = some (s.bay b).btb.coach) ↔ coach = 0 ∨ coach.toNat = (s.bay b).btb.coach := by
      rw [coachOf_eq]
      split <;> simp_all
    refine ⟨_, y, exec_depAdd hr done, mrsp, hy, kept.bay_eq.trans boundTo_bay, kept.minute_eq.trans boundTo_minute, ?_, ?_, ?_, ?_, hkey,
      absent, fun hocc hcoach hother => other hocc ?_, fun hocc hcoach => own hocc (coach_iff.mpr hcoach)⟩
    · rw [kept.coach_eq, boundTo_eq, ← coachOf_eq]
      rfl
    · rw [kept.eq, boundTo_eq, ← clampTarget_targetOf]
      rfl
    · rw [kept.eq, boundTo_eq]
      rfl
    · refine Bool.eq_false_iff.mpr fun h => absurd (kept.held h) ?_
      rw [boundTo_eq]
      simp [DepEntry.asked]
    · exact fun h => (coach_iff.mp h).elim hcoach hother

end Sys2Proof.Machine

/-! # DEP CHANGE (R155, R156) -/
namespace Sys2Proof.Machine

variable {e : Env} {b : Bay} {l : Live} {s : State} {tag names bay target gates : Byte} {id minute : Half} {x y z w : DepEntry}
  {n m k : Nat} {gm : GateMask} {nm : DepNames} {S K : Set Bay}

/-! ## The checks (R155) -/

theorem outOfRange_namesOf : (namesOf names minute bay target gates).outOfRange e = true ↔
    (names.getLsbD 0 = true ∧ minuteOutOfRange e minute.toNat = true) ∨ (names.getLsbD 3 = true ∧ 16 < bay.toNat) := by
  change _ ↔ (bitAt names 0 = true ∧ _) ∨ (bitAt names 3 = true ∧ _)
  simp only [DepNames.outOfRange, namesOf]
  cases bitAt names 0 <;> cases bitAt names 3 <;> simp

theorem isSome_namesOf : ((namesOf names minute bay target gates).minute.isSome = true ∨
    (namesOf names minute bay target gates).gates.isSome = true ∨ (namesOf names minute bay target gates).bay.isSome = true) ↔
      names.getLsbD 0 = true ∨ names.getLsbD 2 = true ∨ names.getLsbD 3 = true := by
  change _ ↔ bitAt names 0 = true ∨ bitAt names 2 = true ∨ bitAt names 3 = true
  simp [namesOf]

theorem namedBay_namesOf : (namesOf names minute bay target gates).namedBay = some b ↔
    names.getLsbD 3 = true ∧ bay.toNat = bayNumber b := by
  change _ ↔ bitAt names 3 = true ∧ _
  simp only [DepNames.namedBay, namesOf]
  cases bitAt names 3 <;> simp [bayOf_eq_some_iff]

theorem depChange_range (h : nm.outOfRange e = true) : depChange e n nm l = (.range, l) := if_pos h

section
variable (hrange : ¬ nm.outOfRange e = true)
include hrange

theorem depChange_unknown (h : entryById l n = none) : depChange e n nm l = (.notFound, l) := by simp [depChange, hrange, h]

variable (hx : entryById l n = some x)
include hx

theorem depChange_released (hs : x.state = .released) (h : nm.minute.isSome = true ∨ nm.gates.isSome = true ∨ nm.bay.isSome = true) :
    depChange e n nm l = (.state, l) := by simp only [depChange, hrange, hx, hs, h, true_and, if_true, if_false, Bool.false_eq_true]

variable (hopen : ¬ (x.state = .released ∧ (nm.minute.isSome = true ∨ nm.gates.isSome = true ∨ nm.bay.isSome = true)))
include hopen

theorem depChange_named (h : nm.namedBay = some b) : depChange e n nm l =
    if (l.bay b).btb.occupancy = .disabled then (.disabled, l)
    else if takenByOther l n b then (.taken, l)
    else (.done, changeEntry e nm x l) := by simp only [depChange, hrange, hx, hopen, h, if_false, Bool.false_eq_true]

theorem depChange_done (h : ∀ b, nm.namedBay = some b → (l.bay b).btb.occupancy ≠ .disabled ∧
    ∀ y ∈ l.departures, y.bay = some b → y.id = n) : depChange e n nm l = (.done, changeEntry e nm x l) := by
  cases hb : nm.namedBay with
  | none => simp only [depChange, hrange, hx, hopen, hb, if_false, Bool.false_eq_true]
  | some b =>
    obtain ⟨hen, honly⟩ := h b hb
    have notTaken : ¬ takenByOther l n b = true := fun ht => by
      obtain ⟨y, hy, hyb, hne⟩ := takenByOther_iff.mp ht
      exact hne (honly y hy hyb)
    rw [depChange_named hrange hx hopen hb, if_neg hen, if_neg notTaken]

end

/-! ## The changed entry -/

/-- An entry but for its state and flags. -/
def DepEntry.Named (x y : DepEntry) : Prop := y = { x with state := y.state, mismatch := y.mismatch, late := y.late, held := y.held }

theorem EntryKept.named (h : EntryKept x y) : x.Named y := by
  rw [DepEntry.Named, h.eq]

theorem DepEntry.Named.trans (h : x.Named y) (h' : y.Named z) : x.Named z := by
  rw [DepEntry.Named, h', h]

/-- The changed entry in its place, or where its new minute places it. -/
theorem changed_found {v : Bool} (hx : entryById l n = some x) (hy : y.id = n) :
    entryById (if v then { l with departures := insertEntry e y (l.departures.filter fun z => z.id != n) }
      else updateEntry n (fun _ => y) l) n = some y := by
  cases v with
  | true => exact entryById_insert hy fun z hz => by simpa using (List.mem_filter.mp hz).2
  | false => exact entryById_update hx fun _ _ => hy

theorem apply_id : (nm.apply x).id = x.id := by rw [apply_eq]

/-- The entry behind its change holds the values named and the bay it comes to (R155). -/
theorem changeEntry_result (hx : entryById l n = some x) : ∃ y, entryById (changeEntry e nm x l) n = some y ∧
    DepEntry.Named { nm.apply x with bay := nm.bayAfter x } y := by
  have hid : x.id = n := (entryById_some hx).2
  subst hid
  simp only [changeEntry, bne_iff_ne, ne_eq, ite_not]
  split
  · next stays =>
    have found := changed_found (e := e) (v := nm.minute.isSome) hx (apply_id (nm := nm))
    generalize (if nm.minute.isSome then _ else _ : Live) = l1 at found ⊢
    have same : { nm.apply x with bay := nm.bayAfter x } = nm.apply x := by rw [stays, apply_eq]
    rw [same]
    split
    · obtain ⟨y, hy, kept, -⟩ := Minded.entryById (S := ∅) (K := ∅) (judge_minded (tellStay_minded (Set.notMem_empty _) (.refl _))) found
      exact ⟨y, hy, kept.named⟩
    · exact ⟨_, found, rfl⟩
  · have found := changed_found (e := e) (y := (nm.apply x).unbound) (v := nm.minute.isSome) hx apply_id
    generalize (if nm.minute.isSome then _ else _ : Live) = l1 at found ⊢
    have told : Minded ∅ ∅ l1.roster (match x.bay with
        | some b => tellBay e b none l1
        | none => l1).roster := formerBay_minded
    obtain ⟨y, hy, kept, -⟩ := told.entryById found
    split
    · next b hb =>
      obtain ⟨z, hz, kept', -⟩ := bindEntry_result (e := e) (b := b) hy
      refine ⟨z, hz, ?_⟩
      rw [DepEntry.Named, kept'.eq, boundTo_eq, kept.eq, hb]
      rfl
    · next hb =>
      refine ⟨y, hy, ?_⟩
      rw [DepEntry.Named, kept.eq, hb]
      rfl

/-! ## Changes in full -/

theorem changeEntry_unbound (hb : x.bay = none) (hn : nm.bay = none) : changeEntry e nm x l =
    if nm.minute.isSome then { l with departures := insertEntry e (nm.apply x) (l.departures.filter fun y => y.id != x.id) }
    else updateEntry x.id (fun _ => nm.apply x) l := by
  simp [changeEntry, DepNames.bayAfter, hb, hn]

/-- An entry is bound to a bay whose coach it does not expect, or that has none. -/
theorem bindEntry_waits (hall : ∀ y ∈ l.departures, y.id = n → y = w) (hfound : entryById l n = some w)
    (hwaits : (w.boundTo b (l.bay b).btb).state = .waiting) (honly : ∀ y ∈ l.departures, y.bay = some b → y.id = n)
    (hnone : ∀ k, (shareOf l b k).state ≠ .queued) (hplan : (l.bay b).php.state = .none) :
    bindEntry e n b l = (updateEntry n (fun _ => w.boundTo b (l.bay b).btb) l).modFal b fun f => { f with key := some w.minute } := by
  have written : updateEntry n (·.boundTo b (l.bay b).btb) l = updateEntry n (fun _ => w.boundTo b (l.bay b).btb) l := by
    simp only [updateEntry_eq]
    refine congrArg (fun d => { l with departures := d }) (List.map_congr_left fun y hy => ?_)
    split
    · next hid => rw [hall y hy hid]
    · rfl
  have found : entryById (updateEntry n (fun _ => w.boundTo b (l.bay b).btb) l) n = some (w.boundTo b (l.bay b).btb) :=
    entryById_update hfound fun _ _ => boundTo_id.trans (entryById_some hfound).2
  have waits (x : DepEntry) (hx : boundEntry (updateEntry n (fun _ => w.boundTo b (l.bay b).btb) l) b = some x) : x.state = .waiting := by
    obtain ⟨hmem, hb⟩ := boundEntry_some hx
    rw [updateEntry_eq] at hmem
    obtain ⟨y, hy, rfl⟩ := List.mem_map.mp hmem
    by_cases hid : y.id = n
    · rw [if_pos hid]
      exact hwaits
    · rw [if_neg hid] at hb
      exact absurd (honly y hy hb) hid
  simp only [bindEntry, written, found, Option.map_some, boundTo_minute]
  rw [tellBay_keys (l := updateEntry n (fun _ => w.boundTo b (l.bay b).btb) l) hnone hplan fun x hx => .inl (waits x hx)]
  exact judge_waiting fun x hx => waits x (by rwa [Live.modFal, boundEntry_modBay] at hx)

theorem updateEntry_updateEntry (hy : y.id = n) :
    updateEntry n (fun _ => z) (updateEntry n (fun _ => y) l) = updateEntry n (fun _ => z) l := by
  simp only [updateEntry_eq, List.map_map]
  refine congrArg (fun d => { l with departures := d }) (List.map_congr_left fun v _ => ?_)
  by_cases hid : v.id = n <;> simp [hid, hy]

section
variable (hx : entryById l n = some x) (honly : ∀ y ∈ l.departures, y.bay = some b → y.id = n)
  (hplan : (l.bay b).php.state = .none) (hnone : ∀ k, (shareOf l b k).state ≠ .queued)
include hx honly hplan hnone

/-- An unbound entry that names a bay without plan and requests, whose coach it does not expect. -/
theorem changeEntry_binds (hb : x.bay = none) (hk : bayOf k = some b)
    (hother : (l.bay b).btb.occupancy ≠ .occupied ∨ x.coach.isSome = true ∧ x.coach ≠ some (l.bay b).btb.coach) :
    changeEntry e ⟨none, none, none, some k⟩ x l = (updateEntry n (fun _ =>
      { x with bay := some b, state := .waiting, mismatch := decide ((l.bay b).btb.occupancy = .occupied), late := false, held := false }) l).modFal b
        fun f => { f with key := some x.minute } := by
  have hid : x.id = n := (entryById_some hx).2
  subst hid
  have changed : changeEntry e ⟨none, none, none, some k⟩ x l = bindEntry e x.id b (updateEntry x.id (fun _ => x.unbound) l) := by
    simp [changeEntry, DepNames.bayAfter, DepNames.apply, hb, hk]
  have bound : x.unbound.boundTo b (l.bay b).btb =
      { x with bay := some b, state := .waiting, mismatch := decide ((l.bay b).btb.occupancy = .occupied), late := false, held := false } := by
    by_cases hocc : (l.bay b).btb.occupancy = .occupied
    · obtain ⟨hsome, hne⟩ := hother.resolve_left (not_not.mpr hocc)
      have stranger : ¬ (x.coach = none ∨ x.coach = some (l.bay b).btb.coach) := by
        rintro (h | h)
        · simp [h] at hsome
        · exact hne h
      simp [DepEntry.boundTo, DepEntry.unbound, hocc, stranger]
    · simp [DepEntry.boundTo, DepEntry.unbound, hocc]
  have member {y : DepEntry} (hy : y ∈ (updateEntry x.id (fun _ => x.unbound) l).departures) :
      y = x.unbound ∨ y ∈ l.departures ∧ y.id ≠ x.id := by
    rw [updateEntry_eq] at hy
    obtain ⟨v, hv, rfl⟩ := List.mem_map.mp hy
    split
    · exact .inl rfl
    · next hid => exact .inr ⟨hv, hid⟩
  rw [changed, bindEntry_waits (w := x.unbound) (fun y hy hyid => (member hy).resolve_right fun h => h.2 hyid)
    (entryById_update hx fun _ _ => rfl) (congrArg (·.state) bound) (fun y hy hyb => ?_) hnone hplan]
  · rw [show ((updateEntry x.id (fun _ => x.unbound) l).bay b).btb = (l.bay b).btb from rfl, bound,
      updateEntry_updateEntry (y := x.unbound) (n := x.id) rfl]
    rfl
  · rcases member hy with rfl | ⟨hy, -⟩
    · rfl
    · exact honly y hy hyb

/-- A bound entry that leaves a bay without plan and requests. -/
theorem changeEntry_unbinds (hb : x.bay = some b) (hk : bayOf k = none) : changeEntry e ⟨none, none, none, some k⟩ x l =
    (updateEntry n (fun _ => x.unbound) l).modFal b fun f => { f with key := none } := by
  have hid : x.id = n := (entryById_some hx).2
  subst hid
  have changed : changeEntry e ⟨none, none, none, some k⟩ x l = tellBay e b none (updateEntry x.id (fun _ => x.unbound) l) := by
    simp [changeEntry, DepNames.bayAfter, DepNames.apply, hb, hk]
  rw [changed]
  refine tellBay_keys (l := updateEntry x.id (fun _ => x.unbound) l) hnone hplan fun y hy => ?_
  obtain ⟨hmem, hyb⟩ := boundEntry_some hy
  rw [updateEntry_eq] at hmem
  obtain ⟨v, hv, rfl⟩ := List.mem_map.mp hmem
  split at hyb
  · cases hyb
  · next hne => exact absurd (honly v hv hyb) hne

/-- A bound entry has a new minute, at a bay without plan and requests. -/
theorem changeEntry_minute (hb : x.bay = some b) (hquiet : x.state = .waiting ∨ x.target = none) :
    changeEntry e ⟨some m, none, none, none⟩ x l = judge e b
      { (l.modFal b fun f => { f with key := some m }) with
        departures := insertEntry e { x with minute := m } (l.departures.filter fun y => y.id != n) } := by
  have hid : x.id = n := (entryById_some hx).2
  subst hid
  have changed : changeEntry e ⟨some m, none, none, none⟩ x l = judge e b (tellBay e b (some m)
      { l with departures := insertEntry e { x with minute := m } (l.departures.filter fun y => y.id != x.id) }) := by
    simp [changeEntry, DepNames.bayAfter, DepNames.apply, hb, tellStay, tellBay]
  rw [changed, tellBay_keys (l := { l with
    departures := insertEntry e { x with minute := m } (l.departures.filter fun y => y.id != x.id) }) hnone hplan fun y hy => ?_]
  · rfl
  · obtain ⟨hmem, hyb⟩ := boundEntry_some hy
    rcases List.mem_cons.mp ((insertEntry_perm e _ _).mem_iff.mp hmem) with rfl | hmem
    · exact hquiet
    · obtain ⟨hmem, hne⟩ := List.mem_filter.mp hmem
      simp [honly y hmem hyb] at hne

end

/-- A bound entry has new gates, which PHP and FAL have nothing to do with. -/
theorem changeEntry_gates (hb : x.bay = some b) : changeEntry e ⟨none, none, some gm, none⟩ x l =
    judge e b (updateEntry x.id (fun _ => { x with gates := gm }) l) := by
  simp [changeEntry, DepNames.bayAfter, DepNames.apply, hb, tellStay]

/-! ## The request and its entry -/

/-- What a request names, by its bits. -/
theorem namesOf_eq {v0 v1 v2 v3 : Bool} (h0 : names.getLsbD 0 = v0) (h1 : names.getLsbD 1 = v1) (h2 : names.getLsbD 2 = v2)
    (h3 : names.getLsbD 3 = v3) : namesOf names minute bay target gates =
      { minute := if v0 then some minute.toNat else none
        target := if v1 then some (targetOf target) else none
        gates := if v2 then some (gatesOf gates) else none
        bay := if v3 then some bay.toNat else none } := by
  subst h0 h1 h2 h3
  rfl

theorem apply_namesOf : (namesOf names minute bay target gates).apply x = { x with
    minute := if names.getLsbD 0 = true then minute.toNat else x.minute
    target := if names.getLsbD 1 = false then x.target else if target = 0x80#8 then none else some (max 20 (min 56 target.toInt))
    clamped := if names.getLsbD 1 = false then x.clamped
      else decide (target ≠ 0x80#8) && (decide (target.toInt < 20) || decide (56 < target.toInt))
    gates := if names.getLsbD 2 = false then x.gates
      else { lamp := gates.getLsbD 0, fault := gates.getLsbD 1, heat := gates.getLsbD 2 } } := by
  rw [namesOf_eq rfl rfl rfl rfl, ← clampTarget_targetOf, ← clamped_targetOf, ← gatesOf_eq]
  cases names.getLsbD 0 <;> cases names.getLsbD 1 <;> cases names.getLsbD 2 <;> rfl

theorem bayOf_map (h : k ≤ 16) : (bayOf k).map bayNumber = if k = 0 then none else some k := by
  split
  · next h0 => rw [h0, bayOf_zero]; rfl
  · next h0 =>
    have named : 1 ≤ k ∧ k ≤ 16 := ⟨Nat.one_le_iff_ne_zero.mpr h0, h⟩
    simp only [bayOf, named, and_self, dif_pos, Option.map_some, bayNumber, Option.some.injEq]
    omega

theorem bayAfter_namesOf (h : names.getLsbD 3 = true → bay.toNat ≤ 16) :
    ((namesOf names minute bay target gates).bayAfter x).map bayNumber =
      if names.getLsbD 3 = false then x.bay.map bayNumber else if bay = 0 then none else some bay.toNat := by
  rw [namesOf_eq rfl rfl rfl rfl]
  cases h3 : names.getLsbD 3 with
  | false => rfl
  | true =>
    have zero : bay.toNat = 0 ↔ bay = 0 := BitVec.toNat_inj (y := 0#8)
    have named := bayOf_map (h h3)
    simp only [zero] at named
    exact named

theorem not_outOfRange (h0 : names.getLsbD 0 = true → minuteOutOfRange e minute.toNat = false)
    (h3 : names.getLsbD 3 = true → bay.toNat ≤ 16) : ¬ (namesOf names minute bay target gates).outOfRange e = true := fun h => by
  rcases outOfRange_namesOf.mp h with ⟨hbit, hm⟩ | ⟨hbit, hk⟩
  · simp [h0 hbit] at hm
  · exact absurd hk (Nat.not_lt.mpr (h3 hbit))

theorem not_refused (hopen : x.state ≠ .released ∨ (names.getLsbD 0 = false ∧ names.getLsbD 2 = false ∧ names.getLsbD 3 = false)) :
    ¬ (x.state = .released ∧ ((namesOf names minute bay target gates).minute.isSome = true ∨
      (namesOf names minute bay target gates).gates.isSome = true ∨ (namesOf names minute bay target gates).bay.isSome = true)) :=
  fun ⟨hs, hnamed⟩ => by
    obtain ⟨n0, n2, n3⟩ := hopen.resolve_left (not_not.mpr hs)
    rcases isSome_namesOf.mp hnamed with h | h | h <;> simp_all

/-- A change that names what it may is accepted. -/
theorem depChange_accepts (hx : entryById s.live id.toNat = some x)
    (h0 : names.getLsbD 0 = true → minuteOutOfRange s.dev.env minute.toNat = false) (h3 : names.getLsbD 3 = true → bay.toNat ≤ 16)
    (hopen : x.state ≠ .released ∨ (names.getLsbD 0 = false ∧ names.getLsbD 2 = false ∧ names.getLsbD 3 = false))
    (hbay : ∀ b : Bay, names.getLsbD 3 = true → bay.toNat = bayNumber b →
      (s.bay b).btb.occupancy ≠ .disabled ∧ ∀ y ∈ s.live.departures, y.bay = some b → y.id = id.toNat) :
    depChange s.dev.env id.toNat (namesOf names minute bay target gates) s.live =
      (.done, changeEntry s.dev.env (namesOf names minute bay target gates) x s.live) := by
  refine depChange_done (not_outOfRange h0 h3) hx (not_refused hopen) fun b hb => ?_
  obtain ⟨hbit, hk⟩ := namedBay_namesOf.mp hb
  exact hbay b hbit hk

/-- What an accepted change leaves behind its answer. -/
theorem answers_depChange (hr : ready s = true) (hx : entryById s.live id.toNat = some x)
    (hdone : depChange s.dev.env id.toNat nm s.live = (.done, changeEntry s.dev.env nm x s.live)) :
    ∃ y, (s.answers tag 0x21 .done (changeEntry s.dev.env nm x s.live)).live.mgu.mrsp = some ⟨tag, 0x21, .done, []⟩ ∧
      entryById (s.answers tag 0x21 .done (changeEntry s.dev.env nm x s.live)).live id.toNat = some y ∧
      DepEntry.Named { nm.apply x with bay := nm.bayAfter x } y := by
  have hmgu := (congrArg (·.2.mgu) hdone).symm.trans depChange_served.mgu
  obtain ⟨mrsp, departures, -⟩ := answers_answered (tag := tag) (op := 0x21) (status := .done) hr hmgu
  obtain ⟨y, hy, named⟩ := changeEntry_result (e := s.dev.env) (nm := nm) hx
  exact ⟨y, mrsp, (entryById_congr departures).trans hy, named⟩

theorem unnamed {i : Nat} {P : Prop} (h : names.getLsbD i = false) (h' : names.getLsbD i = true) : P :=
  absurd (h.symm.trans h') Bool.false_ne_true

/-- Settles O45: the refusals, the entry behind every accepted change, and the changes in full. -/
theorem depChangeWritesTheNamedValues : Obligations.DepChangeWritesTheNamedValues := by
  refine ⟨fun s tag id names minute bay target gates hr => ⟨fun hnone h0 h3 => ?_, fun h => ?_, fun x hx h0 h3 =>
    ⟨fun hs hnamed => ?_, fun hopen => ⟨fun b hbit hk hdis => ?_, fun b hbit hk hen htaken => ?_, fun hbay => ?_⟩⟩⟩,
    fun s tag id names minute bay target gates x hr hx hb hs h3 => ?_,
    fun s tag id names minute bay target gates x b hr hx hs h1 honly hplan hnone => ?_⟩
  · exact exec_depChange hr (depChange_unknown (not_outOfRange h0 h3) (entryById_none_iff.mpr hnone))
  · exact exec_depChange hr (depChange_range (outOfRange_namesOf.mpr h))
  · exact exec_depChange hr (depChange_released (not_outOfRange h0 h3) hx hs (isSome_namesOf.mpr hnamed))
  · have hdis : (s.live.bay b).btb.occupancy = .disabled := hdis
    refine exec_depChange hr ?_
    rw [depChange_named (not_outOfRange h0 h3) hx (not_refused hopen) (namedBay_namesOf.mpr ⟨hbit, hk⟩), if_pos hdis]
  · have hen : (s.live.bay b).btb.occupancy ≠ .disabled := hen
    refine exec_depChange hr ?_
    rw [depChange_named (not_outOfRange h0 h3) hx (not_refused hopen) (namedBay_namesOf.mpr ⟨hbit, hk⟩), if_neg hen,
      if_pos (takenByOther_iff.mpr htaken)]
  · have done := depChange_accepts (target := target) (gates := gates) hx h0 h3 hopen hbay
    obtain ⟨y, mrsp, hy, named⟩ := answers_depChange (tag := tag) hr hx done
    rw [apply_namesOf] at named
    refine ⟨_, y, exec_depChange hr done, mrsp, hy, ?_⟩
    rw [named]
    exact ⟨rfl, rfl, rfl, rfl, rfl, bayAfter_namesOf h3⟩
  · have bay_bit {P : Bay → Prop} (c : Bay) (hbit : names.getLsbD 3 = true) (_ : bay.toNat = bayNumber c) : P c := unnamed h3 hbit
    refine ⟨fun h0 h1 h2 => ?_, fun h0 h1 h2 hm => ?_⟩
    · have hn : namesOf names minute bay target gates = ⟨none, some (targetOf target), some (gatesOf gates), none⟩ := namesOf_eq h0 h1 h2 h3
      have done := depChange_accepts (minute := minute) (target := target) (gates := gates) hx (unnamed h0) (unnamed h3) (.inl hs) bay_bit
      refine exec_depChange hr (done.trans (congrArg _ ?_))
      rw [hn, changeEntry_unbound hb rfl, ← (entryById_some hx).2, ← clampTarget_targetOf, ← clamped_targetOf]
      exact (if_neg Bool.false_ne_true).trans updateEntry_eq
    · have hn : namesOf names minute bay target gates = ⟨some minute.toNat, some (targetOf target), some (gatesOf gates), none⟩ :=
        namesOf_eq h0 h1 h2 h3
      have done := depChange_accepts (target := target) (gates := gates) hx (fun _ => hm) (unnamed h3) (.inl hs) bay_bit
      refine exec_depChange hr (done.trans (congrArg _ ?_))
      rw [hn, changeEntry_unbound hb rfl, ← (entryById_some hx).2, ← clampTarget_targetOf, ← clamped_targetOf]
      exact if_pos rfl
  · have hid := (entryById_some hx).2
    refine ⟨fun hb h0 h2 h3 hk hen hother => ?_, fun hb h0 h2 h3 hk => ?_, fun hb h0 h2 h3 => ?_, fun hb hquiet h0 h2 h3 hm => ?_⟩
    · have hn : namesOf names minute bay target gates = ⟨none, none, none, some bay.toNat⟩ := namesOf_eq h0 h1 h2 h3
      have hin : bay.toNat ≤ 16 := by
        rw [hk, bayNumber]
        omega
      have done := depChange_accepts (minute := minute) (target := target) (gates := gates) hx (unnamed h0) (fun _ => hin) (.inl hs)
        fun c _ hc => by
          obtain rfl : b = c := Option.some.inj ((bayOf_eq_some_iff.mpr hk).symm.trans (bayOf_eq_some_iff.mpr hc))
          exact ⟨hen, honly⟩
      refine exec_depChange hr (done.trans (congrArg _ ?_))
      rw [hn, changeEntry_binds hx honly hplan hnone hb (bayOf_eq_some_iff.mpr hk) hother, updateEntry_eq]
      rfl
    · subst hk
      have hn : namesOf names minute 0 target gates = ⟨none, none, none, some 0⟩ := namesOf_eq h0 h1 h2 h3
      have done := depChange_accepts (minute := minute) (bay := 0) (target := target) (gates := gates) hx (unnamed h0)
        (fun _ => Nat.zero_le _) (.inl hs) fun c _ hc => absurd (bayOf_zero.symm.trans (bayOf_eq_some_iff.mpr hc)) nofun
      refine exec_depChange hr (done.trans (congrArg _ ?_))
      rw [hn, changeEntry_unbinds hx honly hplan hnone hb bayOf_zero, updateEntry_eq]
      rfl
    · have hn : namesOf names minute bay target gates = ⟨none, none, some (gatesOf gates), none⟩ := namesOf_eq h0 h1 h2 h3
      have done := depChange_accepts (minute := minute) (bay := bay) (target := target) (gates := gates) hx (unnamed h0) (unnamed h3)
        (.inl hs) fun c hbit _ => unnamed h3 hbit
      refine exec_depChange hr (done.trans (congrArg _ ?_))
      rw [hn, changeEntry_gates hb, updateEntry_eq, hid]
      rfl
    · have hn : namesOf names minute bay target gates = ⟨some minute.toNat, none, none, none⟩ := namesOf_eq h0 h1 h2 h3
      have done := depChange_accepts (bay := bay) (target := target) (gates := gates) hx (fun _ => hm) (unnamed h3) (.inl hs)
        fun c hbit _ => unnamed h3 hbit
      refine exec_depChange hr (done.trans (congrArg _ ?_))
      rw [hn]
      exact changeEntry_minute hx honly hplan hnone hb hquiet

end Sys2Proof.Machine
